-- ==== Sys2Proof/Word.lean ====
section
/-! DEFINITION. The words the device computes with (spec/00: R11, little-endian, bit 0 least significant). -/

namespace Sys2Proof

/-- A byte. -/
abbrev Byte := BitVec 8
/-- A direct register (13:R325). -/
abbrev Word := BitVec 32
/-- One 64 B line; byte i is bits 8i+7 to 8i (02, "Every CXL.mem access covers one aligned 64 B line"). -/
abbrev Line := BitVec 512
/-- The byte enables of a line, bit i for byte i. -/
abbrev Mask := BitVec 64
/-- One 32 B indirect table entry (13:R332). -/
abbrev Entry := BitVec 256
/-- A device physical address (02, "DPA is 40 bits wide"). -/
abbrev Dpa := BitVec 40
/-- A holder ID (10:R246). -/
abbrev Holder := BitVec 12
/-- The device timestamp counter (20:R486). -/
abbrev Stamp := BitVec 64
/-- A stored byte-code word (07:R165). -/
abbrev Code13 := BitVec 13

end Sys2Proof
end

