-- ==== Sys2Proof/Syntax.lean ====
section
/-! DEFINITION. The commands: one constructor of `Instr` per row of spec/opcode_table.json, in the table's order.
The table gives no operands; an operand here is what comes from outside the block with the step: a request's address and
data, a frame's bytes, a pin level, a sensor sample, or the physical outcome of an array read, program or test. -/

namespace Sys2Proof

/-- Link port 0 or 1 (11:R273). -/
abbrev Port := Fin 2

/-- The two warden paths (10:R246: mailbox 0xFFD, Strait port 0xFFE). -/
inductive Path where
  | strait
  | mailbox
  deriving DecidableEq, Repr

/-- What crossing the fabric does to a line under its carriage CRC: the bits of the line, the enables, the DPA and the holder ID
that arrive inverted (06:R153). -/
structure Carry where
  data : Line
  enables : Mask
  dpa : Dpa
  holder : Holder
  deriving DecidableEq, Repr

/-- One read attempt of a stored page: the codeword positions of 07:R173 that read inverted beyond the cells the array holds wrong,
and, where the decoder finds a codeword other than the stored one within its reach, the positions it inverts (07:R175). -/
structure Attempt where
  flips : List Nat
  found : Option (List Nat)
  deriving DecidableEq, Repr

/-- What one read of a stored T2 page shows (07:R175, R176): its three attempts, and the page whose word the array returns where
that is another page than the one addressed (05:R142). -/
structure PageRead where
  first : Attempt
  retry1 : Attempt
  retry2 : Attempt
  other : Option Nat
  deriving DecidableEq, Repr

/-- A read of the page addressed in which every cell reads as it was left. -/
def PageRead.plain : PageRead := ⟨⟨[], none⟩, ⟨[], none⟩, ⟨[], none⟩, none⟩

/-- What reading a stored tile shows: its page, the second page of a split record, and the sectors of a raw tile that are
uncorrectable where a page is (02:R67). -/
structure TileRead where
  first : PageRead
  second : PageRead
  badSectors : BitVec 8
  deriving DecidableEq, Repr

/-- A tile read in which both pages read as they were left. -/
def TileRead.plain : TileRead := ⟨.plain, .plain, 0⟩

/-- How a port is reset (11:R276). -/
inductive ResetKind where
  | hot
  | linkDown
  | functionLevel
  deriving DecidableEq, Repr

/-- The handles a Clear Event Records names (11:R287). -/
inductive ClearSel where
  | all
  | handles (hs : List (BitVec 16))
  deriving DecidableEq, Repr

/-- How a controller answers an in-band interrupt or Hot-Join request (12:R312, R313). -/
inductive BusAnswer where
  | ack
  | nack
  | lost
  deriving DecidableEq, Repr

/-- What compressing one tile gives (05:R135, 06 hops 0x06, 0x07): the block an LZ4 engine puts out, whether the buffered block's byte codes
decode, and whether encryption passes within its three tries. -/
structure PackOutcome where
  block : List Byte
  engine : Fin 4
  bufferOk : Bool
  xtsOk : Bool
  deriving DecidableEq, Repr

/-- What a page preset gives (08:R202): re-presets made, and the cells that read 1 after the last. Cells are positions of 07:R173, the
reserved spare bytes after them. -/
structure PresetOutcome where
  again : Nat
  left : List Nat
  deriving DecidableEq, Repr

/-- What a page program gives (08:R202): its inline preset where one is made, pulses beyond the first, the cells that differ from the
image; and the bits of packing-buffer words that read inverted at page assembly: line, byte, bit (06 hop 0x08). -/
structure ProgramOutcome where
  preset : PresetOutcome
  extraPulses : Nat
  wrong : List Nat
  sram : List (Nat × Nat × Nat)
  deriving DecidableEq, Repr

/-- A program in which every cell takes its value. -/
def ProgramOutcome.plain : ProgramOutcome := ⟨⟨0, []⟩, 0, [], []⟩

/-- T1 bytes that the first pulse of a verified write leaves wrong, each with the retries after which it reads right; a number above 3
says that it never does (08:R208). -/
abbrev Tries := List (Fin 64 × Nat)

/-- What an engine under self-test puts out otherwise than it should (07:R188): its class in the order of Table 07-9, its instance, the test
row of Table 07-10 and the vector of it, and the bits of the output that are inverted. -/
structure EngineFault where
  cls : Fin 6
  inst : Fin 64
  test : Fin 5
  vector : Nat
  wrong : Nat
  deriving DecidableEq, Repr

/-- Bits that read inverted of lines that a copy or a replay reads: line in the order read, byte, bit. -/
abbrev ReadFlips := List (Nat × Nat × Nat)

/-- Bytes that programs leave wrong: line, byte, bit, and the retries after which the byte reads right (08:R208). -/
abbrev WriteTries := List (Nat × Fin 64 × Fin 13 × Nat)

/-- Wake sources (15:R385). -/
inductive WakeSource where
  | wakeN
  | pfailDeasserted
  deriving DecidableEq, Repr

/-- The five main supplies watched by the power-good detectors (15:R386, R392). -/
inductive Supply where
  | vdd
  | vddm
  | vpp
  | vdda
  | vddio
  deriving DecidableEq, Repr

/-- Entropy health tests (19 Table 19-2). -/
inductive HealthTest where
  | repetition
  | proportion
  | bias
  deriving DecidableEq, Repr

/-- One reading of a 3-axis sensor, 0.01 mT (09:R220). -/
structure Axes where
  x : Int
  y : Int
  z : Int
  deriving DecidableEq, Repr

/-- Why a Strait request is bad (12:R305, R308, R315). -/
inductive BadFrame where
  | crc
  | cutShort
  | parity
  deriving DecidableEq, Repr

/-- The two traversed tiers (08:R195). -/
inductive Tier where
  | t1
  | t2
  deriving DecidableEq, Repr

/-- Bits of an SRAM or of the register file that read inverted: byte, bit (06:R157, R158). -/
abbrev BitFlips := List (Nat × Nat)

/-- Bits that the second read of a checked read shows inverted against the first (09:R241): line of the transfer, byte, bit. -/
abbrev Reread := List (Nat × Nat × Nat)

/-- The commands, in the order of spec/opcode_table.json. -/
inductive Instr where
  | memrd (port : Port) (spid : Option (BitVec 12)) (dpa : Dpa) (out : Option Carry) (again : Reread)
  | memspecrd (port : Port) (dpa : Dpa)
  | meminv (port : Port) (dpa : Dpa)
  | memwr (port : Port) (spid : Option (BitVec 12)) (dpa : Dpa) (data : Line) (poison : Bool) (carry : Option Carry)
  | memwrptl (port : Port) (spid : Option (BitVec 12)) (dpa : Dpa) (data : Line) (enables : Mask) (poison : Bool) (carry : Option Carry)
  | m2sUnsupported (port : Port) (opcode : Byte)
  | rwdCreditReturn (port : Port)
  | portReset (port : Port) (kind : ResetKind)
  | perstAssert (port : Port)
  | linkTrained (port : Port) (width rate : Nat)
  | hdmDecoderCommit (port : Port) (n : Fin 3) (skip size : Nat) (ways granularity : Nat)
  | gpfPhase1 (port : Port)
  | gpfPhase2 (port : Port)
  | getEventRecords (port : Port) (log : Fin 4)
  | clearEventRecords (port : Port) (log : Fin 4) (sel : ClearSel)
  | getEventInterruptPolicy (port : Port)
  | setEventInterruptPolicy (port : Port) (policy : Word)
  | getFwInfo (port : Port)
  | transferFwFull (port : Port) (slot : Byte) (data : List Byte)
  | transferFwInitiate (port : Port) (slot : Byte) (data : List Byte)
  | transferFwContinue (port : Port) (slot : Byte) (offset : Nat) (data : List Byte)
  | transferFwEnd (port : Port) (slot : Byte) (offset : Nat) (data : List Byte)
  | transferFwAbort (port : Port)
  | activateFwOnline (port : Port) (slot : Byte)
  | activateFwOnNextReset (port : Port) (slot : Byte)
  | getTimestamp (port : Port)
  | setTimestamp (port : Port) (ns : Stamp)
  | getSupportedLogs (port : Port)
  | getLog (port : Port) (uuid : BitVec 128)
  | identifyMemoryDevice (port : Port)
  | getPartitionInfo (port : Port)
  | mailboxUnsupported (port : Port) (opcode : BitVec 16)
  | regRead (port : Port) (payload : List Byte) (sram regs : BitFlips)
  | regWrite (port : Port) (payload : List Byte) (sram : BitFlips)
  | tblRead (port : Port) (payload : List Byte) (sram regs : BitFlips)
  | tblWrite (port : Port) (payload : List Byte) (sram : BitFlips) (failing : List (Nat × Fin 128))
  | planWrite (port : Port) (payload : List Byte) (sram : BitFlips)
  | planCommit (port : Port) (payload : List Byte)
  | cadCommit (port : Port) (payload : List Byte)
  | cadRevert (port : Port) (payload : List Byte)
  | releaseTiles (port : Port) (payload : List Byte)
  | releasePrepareDone
  | releaseCycle
  | releaseCleanupDone
  | capacityQuery (port : Port) (payload : List Byte)
  | keyGenerate (port : Port) (payload : List Byte) (failing : Option (Fin 128))
  | keyImport (port : Port) (payload : List Byte) (failing : Option (Fin 128))
  | keyErase (port : Port) (payload : List Byte)
  | straitReadFrame (bytes : List Byte) (regs : BitFlips)
  | straitBadFrame (reason : BadFrame)
  | straitPortReady
  | entdaa (addr : BitVec 7) (wins : Bool)
  | setdasa (static addr : BitVec 7)
  | setnewda (target addr : BitVec 7)
  | rstdaa
  | enec (target : Option (BitVec 7)) (bits : Byte)
  | disec (target : Option (BitVec 7)) (bits : Byte)
  | getpid (target : BitVec 7) (mismatch : Bool)
  | getbcr (target : BitVec 7) (mismatch : Bool)
  | getdcr (target : BitVec 7) (mismatch : Bool)
  | getstatus (target : BitVec 7) (mismatch : Bool)
  | rstact (target : Option (BitVec 7)) (defining : Byte)
  | i3cTargetReset
  | i3cCccUnsupported (target : Option (BitVec 7)) (code : Byte)
  | i3cPrivateRead (target : BitVec 7) (whole mismatch : Bool)
  | hotJoinRequest (answer : BusAnswer)
  | ibiRequest (answer : BusAnswer) (mismatch : Bool)
  | ibiRetry (answer : BusAnswer) (mismatch : Bool)
  | ownerIdleRelease
  | ownerClaim (path : Path)
  | ownerRelease (path : Path)
  | evtStatClear (path : Path) (bits : BitVec 24)
  | evtForce (path : Path) (bits : BitVec 24)
  | modeCtlReqDormant (path : Path) (musterEn : Bool)
  | modeCtlReqCauseway (path : Path) (musterEn : Bool)
  | witnessClr (path : Path) (musterEn : Bool)
  | musterEnWrite (path : Path) (musterEn : Bool)
  | modeCtlLock (path : Path) (musterEn : Bool)
  | tideCtlLock (path : Path) (ceiling : BitVec 20)
  | compassThrLock (path : Path) (ro inhibit caution : BitVec 10)
  | pdCtlLock (path : Path) (portOff : BitVec 2)
  | compassThrWrite (path : Path) (ro inhibit caution : BitVec 10)
  | travPeriodWrite (path : Path) (tier : Tier) (value : BitVec 10)
  | ceilingWrite (path : Path) (ceiling : BitVec 20)
  | warnThrWrite (path : Path) (value : Byte)
  | portOffWrite (path : Path) (portOff : BitVec 2)
  | cadCtlCommit (path : Path)
  | cadCtlRevert (path : Path)
  | tblCmdRead (path : Path)
  | tblCmdReadInc (path : Path)
  | tblCmdPlanCommit (path : Path)
  | tblCmdComplete (failing : Option (Fin 128))
  | holderWrite (path : Path) (index : BitVec 16) (entry : Entry)
  | parcelWrite (path : Path) (index : BitVec 16) (entry : Entry)
  | planEntryWrite (path : Path) (index : BitVec 16) (entry : Entry)
  | fchanClear (path : Path) (channel : BitVec 16)
  | fchanAbort (path : Path) (channel : BitVec 16)
  | bankerrClear (path : Path) (bank : BitVec 16)
  | flagcntClear (path : Path) (flag : BitVec 16)
  | bmkpageProgram (path : Path) (index : BitVec 16) (chunk : Entry)
  | bmkCtlPreset (path : Path)
  | storeOpComplete (failingWord : Option (Fin 128))
  | mcountIncrement (path : Path) (index : BitVec 16) (operand : BitVec 64)
  | mcountAdvance (path : Path) (index : BitVec 16) (operand : BitVec 64)
  | mcountRebase (path : Path) (index : BitVec 16) (operand : BitVec 64)
  | keyslotGenerate (path : Path) (slot : BitVec 16) (failing : Option (Fin 128))
  | keyslotErase (path : Path) (slot : BitVec 16)
  | travRestartT1 (path : Path) (t2en : Bool)
  | travRestartT2 (path : Path) (t2en : Bool)
  | travT2EnWrite (path : Path) (t2en : Bool)
  | lhFreeze (path : Path) (freeze : Bool)
  | entDataRead (path : Path)
  | registerWrite (path : Path) (offset : BitVec 10) (value : Word)
  | doorbellStart (port : Port) (spid : Option (BitVec 12)) (channel : Fin 64) (route : Dpa)
  | doorbellMark (port : Port) (spid : Option (BitVec 12)) (channel : Fin 64) (mark : Word)
  | doorbellResume (port : Port) (spid : Option (BitVec 12)) (channel : Fin 64)
  | doorbellSkip (port : Port) (spid : Option (BitVec 12)) (channel : Fin 64)
  | doorbellAbort (port : Port) (spid : Option (BitVec 12)) (channel : Fin 64)
  | doorbellNop (port : Port) (spid : Option (BitVec 12)) (channel : Fin 64)
  | doorbellBadCmd (port : Port) (spid : Option (BitVec 12)) (channel : Fin 64) (cmd : Byte)
  | routeHeaderLoaded (channel : Fin 64) (again : Reread)
  | legFetch (channel : Fin 64) (again : Reread)
  | fetchTile (channel : Fin 64) (read : TileRead) (moves : List (Fin 64 × Carry))
  | writebackTile (channel : Fin 64) (outcome : PackOutcome)
  | copyTile (channel : Fin 64) (read : TileRead) (again : Reread) (outcome : PackOutcome)
      (moves : List (Fin 64 × Carry))
  | fillTile (channel : Fin 64) (moves : List (Fin 64 × Carry))
  | verifyTile (channel : Fin 64) (read : TileRead) (again : Reread)
  | streamFill (channel : Fin 64) (read : TileRead) (moves : List (Fin 64 × Carry))
  | stallCleared (channel : Fin 64)
  | ferryStallTimeout (channel : Fin 64)
  | abortComplete (channel : Fin 64)
  | channelParked (channel : Fin 64)
  | demandFetchDone (tile : Nat) (read : TileRead)
  | gateReloadDone (gate : Fin 5)
  | bypassRead (index : Nat) (read : TileRead)
  | queuedStoreInstall (tile : Nat)
  | recordPacked (slot : Nat) (outcome : PackOutcome)
  | pageProgram (cls : Fin 8) (page : Nat) (outcome : ProgramOutcome)
  | pageProgramRetry (cls : Fin 8) (page : Nat) (outcome : ProgramOutcome)
  | pagePreset (page : Nat) (outcome : PresetOutcome)
  | writeBackCommit (tile : Nat)
  | reclaim (page : Nat) (reads : List (Nat × PageRead))
  | relocation (reads : List (Nat × PageRead)) (target : Nat) (outcome : ProgramOutcome)
  | gapMoveT2 (bank : Nat) (region : Fin 8) (read : PageRead) (outcome : ProgramOutcome)
  | t1WriteProgram (index : Nat) (flips : List (Fin 64 × Fin 13)) (tries : Tries) (xtsOk : Bool)
  | gapMoveT1 (group : Nat) (flips : List (Fin 64 × Fin 13)) (tries : Tries)
  | verifyLaneCheck (tries : Tries)
  | correctionWriteBack (stillWrong : List (Fin 64))
  | traverseT1Read (again : Reread) (witnessLeft : List (List (Fin 4096)))
  | traverseT2Read (page : PageRead) (witnessLeft : List (List (Fin 4096)))
  | traverseLate (tier : Tier)
  | traverseSave
  | wearPersist
  | trimAdjust (bank : Fin 512)
  | tempSample (dies : List Int)
  | compassSample (s0 s1 s2 : Axes)
  | coilCheck (sensor : Fin 3) (change : Axes)
  | tideMeasurement (millivolts : Nat) (slopeDiff : Int)
  | tideResample (millivolts : Nat)
  | commitValidated
  | commitEpoch
  | commitReport
  | pd0PowerOn
  | strapLatch (msel scanmode : Bool) (saddr : BitVec 3)
  | suppliesGood
  | pllLock
  | domainRampDone (domain : Fin 8)
  | vaonLoss
  | pfailNAssert
  | pfailNDeassert
  | musterFall
  | dormantWake (source : WakeSource)
  | powerDownDone
  | storeRecallDone (damagedWords : List (Nat × Bool)) (factoryBad : Bool)
  | bootDone (bch0 bch1 : List (Fin 3 × Nat)) (unread : BitVec 4)
  | selftestDone (faults : List EngineFault)
  | senseDone (c0 c1 c2 s0 s1 s2 : Axes)
  | witnessCheckDone (flipped : List (List (Fin 4096)))
  | reloadDone (unread commitUnread : BitVec 4)
  | replayDone (flips : ReadFlips) (tries : WriteTries) (retireFlips : List (Fin 64 × Fin 13)) (retireTries : Tries)
  | recallResume
  | causewayPortClose
  | drainCopyDone (flips : ReadFlips) (tries : WriteTries)
  | drainVerifyDone
  | drainWitnessDone (left : List (List (Fin 4096)))
  | drainCompleteMark (flips : List (Fin 64 × Fin 13)) (tries : Tries)
  | drainPd7Off
  | drainComplete
  | settleWritesDone
  | settleWritebackDone
  | settleDrainDone (flips : ReadFlips) (tries : WriteTries)
  | settleVerifyDone
  | settleSaveDone
  | settleWitnessDone (left : List (List (Fin 4096)))
  | settleMarkerDone
  | stewardFetchTrap (address : Word)
  | stewardRestartDone
  | stagingData
  | stagingEnd
  | stagingAbort
  | stagingActivateOnline
  | stagingActivateRecall
  | stagedImageWrite
  | eventLogAppend (failingWord : Option (Fin 128))
  | counterUpdate (failingWord : Option (Fin 128))
  | paramPageUpdate (failingWord : Option (Fin 128))
  | traceSave (failingWord : Option (Fin 256))
  | traceSetPreset
  | healthTestFail (test : HealthTest)
  | startupTestDone (passes : Bool)
  | conditioningBlockDone (raw : BitVec 1024)
  | drbgReseed
  | seedReplace
  | timestampEra
  | cxlEventLogPlace
  | faultTokenRefill
  | tapReset
  | extest (drive : BitVec 18)
  | samplePreload (balls : BitVec 18)
  | idcode
  | clamp
  | highz
  | bypass (code : BitVec 4)
  | straitWriteFrame (bytes : List Byte)
  | tblCmdWrite (path : Path)
  | supplyNotGood (supply : Supply)
  | bankWaitStall (channel : Fin 64)
  | traverseEscalated (tier : Tier)
  | i3cProtocolError
  deriving DecidableEq, Repr

end Sys2Proof
end

