-- ==== Sys2Proof/WellFormed.lean ====
section
/-! DEFINITION. Which terms spell a command. Every check is one a row's own words make: a row for "any other" opcode, code or
command does not spell a listed one. -/

namespace Sys2Proof

/-- The opcodes of 11 Table 11-6 (PRESUMED from CXL 3.1, log entry 11) and of Table 11-7. -/
def mailboxOpcodes : List (BitVec 16) :=
  [0x0100, 0x0101, 0x0102, 0x0103, 0x0200, 0x0201, 0x0202, 0x0300, 0x0301, 0x0400, 0x0401, 0x4000, 0x4100] ++
  [0xC000, 0xC001, 0xC010, 0xC011, 0xC020, 0xC021, 0xC022, 0xC023, 0xC030, 0xC031, 0xC040, 0xC041, 0xC042]

/-- The common command codes of 12 Table 12-5, with the code points MIPI I3C Basic gives them (PRESUMED, log entry 11). -/
def i3cSupported : List Byte :=
  [0x00, 0x80, 0x01, 0x81, 0x06, 0x07, 0x87, 0x88, 0x8D, 0x8E, 0x8F, 0x90, 0x2A, 0x9A]

/-- The term spells a command of the table. -/
def WellFormed : Instr → Bool
  | .mailboxUnsupported _ op => !mailboxOpcodes.contains op
  | .i3cCccUnsupported _ code => !i3cSupported.contains code
  | .doorbellBadCmd _ _ _ cmd => 6 ≤ cmd.toNat
  | .registerWrite _ offset _ => offset.toNat % 4 == 0
  | .bypass code => 5 ≤ code.toNat
  | _ => true

end Sys2Proof
end

