-- ==== Sys2Proof/Config.lean ====
section
/-! DEFINITION. What the spec leaves open or takes from outside standards: opaque constants, so that a claim holds whatever
they are. Each is named in notes/assumptions (entries 5 to 9). -/

namespace Sys2Proof

/-- The raw 13-bit word at a physical T1 byte that holds no valid word: never written, or released (07:R177, 03:R97).
First argument: the physical byte key. FREE VALUE. -/
opaque Config.t1Initial : Nat → Code13

/-- The n-th draw of 64 bits of DRBG output (19:R466). FREE VALUE. -/
opaque Config.drbg : Nat → BitVec 64

/-- XTS-AES-256 of the n-th 64 B of a data unit under a key and a tweak (19:R472, IEEE 1619, whose blocks are enciphered one by one):
encryption, and its inverse for decryption. Uninterpreted but for being a permutation of the 64 B values. -/
opaque Config.xts : BitVec 512 → BitVec 128 → (n : Nat) → Equiv.Perm Line

/-- SHA-384 (18:R447). Uninterpreted: the spec takes it from outside. -/
opaque Config.sha384 : List Byte → BitVec 384

/-- ECDSA over P-384 with SHA-384 verifies a signature over a message (18:R447): key, signature, message. Uninterpreted. -/
opaque Config.ecdsa : List Byte → List Byte → List Byte → Bool

/-- AES-KW of a 64-byte key under the device key derived from the fuses' unique ID (19:R476). Uninterpreted. -/
opaque Config.aesKw : BitVec 128 → BitVec 512 → BitVec 576

/-- What unwrapping an import blob's payload gives: the key, or none where the public point or AES-KW check fails (19:R480).
Arguments: unique ID, slot, ephemeral point, wrapped key. Uninterpreted. -/
opaque Config.importKey : BitVec 128 → Byte → BitVec 768 → BitVec 576 → Option (BitVec 512)

/-- The word a store word reads as after an interruption (14:R350): 0 old, 1 blank, 2 new, 3 DATA_ERROR. First argument: the
free-value counter, second: the word's address. FREE VALUE. -/
opaque Config.interruptedWord : Nat → Nat → Fin 4

/-- The microseconds from PD0 power-good to PLL lock, within the POWER stage of 16 Table 16-3: no clock runs then. First argument: the
free-value counter. FREE VALUE. -/
opaque Config.powerUs : Nat → Nat

/-- The bytes of a line that a partial store did not enable, where the fetch that should have filled them failed and the line,
being dirty, is not poisoned (02:R64, R67). First argument: the free-value counter. FREE VALUE. -/
opaque Config.unfilled : Nat → Line

end Sys2Proof
end

