-- ==== Sys2Proof/Machine/State.lean ====
section
/-! DEFINITION. The state of the block: plain data, every piece of state the spec names. Times are values of the device
timestamp counter. Sparse tables are lists of (index, value) with rising indices and no value equal to the default. -/

namespace Sys2Proof.Machine

open Sys2Proof

/-- Why the model stops. No command of the table stops the device, and no meaning answers with a fault: every refusal the spec
gives is an effect on the state or an output. -/
inductive Fault where
  /-- Raised by no meaning; kept because the interface asks for a fault type. Safe: it is never answered. -/
  | halted
  deriving DecidableEq, Repr

/-- Why a command has no meaning. -/
inductive Refusal where
  /-- An arm of exec whose meaning is not written. Safe. -/
  | notModelled (mnemonic : String)
  /-- Raised by exec's guard for a term that spells no command of the table (WellFormed fails), for example a DOORBELL_BAD_CMD
  whose command byte is below 0x06. Safe: the term is no command. -/
  | illFormed (mnemonic : String)
  deriving DecidableEq, Repr

/-- The four parts (00 Table 00-2). -/
inductive Part where
  | rbk9216E
  | rbk9216
  | rbk9208
  | rbk9204
  deriving DecidableEq, Repr

/-- Fuses (13:R327, 19:R467, R476): never written. -/
structure Fuses where
  part : Part
  stepMajor : Byte
  stepMinor : Byte
  uniqueId : BitVec 128
  /-- the root hash of 18:R447 -/
  rootHash : BitVec 384
  deriving DecidableEq, Repr

/-- The five straps as latched (21:R508). -/
structure Straps where
  latched : Bool
  msel : Bool
  scanmode : Bool
  saddr : BitVec 3
  deriving DecidableEq, Repr

/-- Clocks (01:R23, R26, 20:R486, R487). -/
structure Clock where
  /-- the 64-bit timestamp counter -/
  ts : Stamp
  /-- records carry ESTIMATED (20:R487) -/
  estimated : Bool
  /-- CCLK runs -/
  run : Bool
  /-- the 40-bit AON tick counter -/
  aon : BitVec 40
  deriving DecidableEq, Repr

/-- Supplies and the power sequencer (15:R369-R374, R386, R392). -/
structure Power where
  vaon : Bool
  vdd : Bool
  vddm : Bool
  vpp : Bool
  vdda : Bool
  vddio : Bool
  /-- PD_STAT.ON (15:R371) -/
  on : Byte
  /-- the power-up group in progress, 1 to 4; 0 for none (15:R373) -/
  group : Nat
  /-- domains whose ramp is in progress -/
  ramping : Byte
  /-- a power-down (15:R374) is in progress -/
  down : Bool
  /-- PD_CTL.PORT_OFF and LOCK (13 Table 13-13) -/
  portOff : BitVec 2
  lock : Bool
  /-- PORT_OFF as it stood at the last entry into RECALL (15:R372) -/
  portOffNow : BitVec 2
  deriving DecidableEq, Repr

/-- Modes (15:R375). -/
inductive Mode where
  | recall
  | service
  | causeway
  | dormant
  deriving DecidableEq, Repr

/-- The six service restrictions (15 Table 15-9), the bits of RESTRICT. -/
structure Restrict where
  fieldRo : Bool
  versionLimited : Bool
  witnessSuspect : Bool
  witnessExpired : Bool
  budgetClamp : Bool
  capacityStall : Bool
  deriving DecidableEq, Repr

/-- MODE, MODE_CTL and RESTRICT (13 Table 13-6). -/
structure ModeRegs where
  mode : Mode
  prev : Mode
  cause : BitVec 4
  restrict : Restrict
  musterEn : Bool
  lock : Bool
  deriving DecidableEq, Repr

/-- Control pins (17:R418-R420, 15:R385, 21:R505, R510). -/
structure Pins where
  /-- PFAIL_N is seen asserted -/
  pfail : Bool
  /-- PFAIL_N was asserted during the present causeway (15:R377) -/
  pfailInCauseway : Bool
  /-- PFAIL_N was asserted from the DORMANT epoch onward (15:R385) -/
  pfailSinceDormant : Bool
  /-- assertions and falls latched in DORMANT (15:R385) -/
  pfailLatched : Bool
  musterLatched : Bool
  /-- the device drives MUSTER low (17:R419) -/
  musterDriven : Bool
  /-- when the device released MUSTER (17:R420) -/
  musterReleased : Option Stamp
  /-- an accepted wake, latched (15:R386) -/
  wake : Bool
  /-- the wake detector is armed (15:R385) -/
  armed : Bool
  /-- when PFAIL_N was last seen deasserted in RECALL (16:R415) -/
  pfailHighSince : Option Stamp
  perst0 : Bool
  perst1 : Bool
  deriving DecidableEq, Repr

/-- An array write that RELOAD found necessary and left to REPLAY (16:R404). -/
inductive Deferred where
  /-- the cadastre copy whose locks were cleared -/
  | persistCadastre
  /-- the map updates that free unreferenced pieces -/
  | mapRecovery
  /-- the map updates of a Release Tiles command whose release record stands -/
  | releaseCleanup
  deriving DecidableEq, Repr

/-- Recall (16). -/
structure Recall where
  /-- RECALL_STAT.STAGE (16 Table 16-2) -/
  stage : BitVec 4
  /-- RECALL_STAT.OUTCOME (16 Table 16-5) -/
  outcome : Byte
  /-- RECALL_STAT.DETAIL (16 Table 16-6) -/
  detail : BitVec 16
  /-- RECALL_TIME.US -/
  timeUs : Word
  /-- the start point of R397 -/
  start : Stamp
  /-- the recall is an entry by reset (15:R379) -/
  byReset : Bool
  /-- the stage interrupted by a hold (16:R414) -/
  heldStage : BitVec 4
  /-- steward traps in this recall (18:R453) -/
  traps : Nat
  deferred : List Deferred
  /-- PD3 was lost while HELD (16:R415) -/
  pd3Lost : Bool
  deriving DecidableEq, Repr

/-- One FLAGCNT entry (13:R331). -/
structure FlagCnt where
  count : BitVec 16
  last : BitVec 48
  deriving DecidableEq, Repr

/-- An event raised and not yet in the queue: the fields of 20 Table 20-4 that the event fixes. `key` orders the events of one
cycle (01:R48). -/
structure EvDraft where
  key : Nat
  bit : Option (Fin 24)
  code : Byte
  forced : Bool
  rise : Bool
  source : BitVec 16
  payload : BitVec 96
  deriving DecidableEq, Repr

/-- An event record (20 Table 20-4) without its crc, which is computed when it is programmed. -/
structure EvRec where
  seq : Word
  ts : BitVec 48
  bit : Option (Fin 24)
  code : Byte
  flags : Byte
  lost : BitVec 16
  source : BitVec 16
  payload : BitVec 96
  deriving DecidableEq, Repr

/-- A trace record raised and not yet in the ring (20 Table 20-2). `key` orders the records of one cycle (20:R490). -/
structure TrDraft where
  key : Nat
  type : Byte
  source : BitVec 16
  payload : BitVec 128
  ts : BitVec 48
  flags : Byte
  deriving DecidableEq, Repr

/-- A cadastre fault of the present cycle (10:R268). -/
structure CadFault where
  gate : Fin 5
  source : Byte
  addr : BitVec 40
  cause : BitVec 4
  kind : BitVec 3
  holder : Holder
  parcel : Option Nat
  deriving DecidableEq, Repr

/-- One BANKERR entry with the bank's trim (08 Table 08-6). -/
structure BankErr where
  corrections : Word
  uncorrectable : Word
  addrFaults : Word
  hardFaults : Word
  writeRetries : Word
  writeFails : Word
  verifyLate : BitVec 16
  trim : Int
  lastTs : Word
  /-- the second that the next two count, and its programs and retries (08:R210) -/
  sec : Nat
  secPrograms : Nat
  secRetries : Nat
  /-- programs and retries of the second before it -/
  prevPrograms : Nat
  prevRetries : Nat
  /-- the first second whose adjustment is still to be made -/
  trimDue : Nat
  deriving DecidableEq, Repr

/-- The eight FCHAN counters (04 Table 04-12). -/
structure ChCounters where
  bank : BitVec 16
  retry : BitVec 16
  field : BitVec 16
  budget : BitVec 16
  capacity : BitVec 16
  window : BitVec 16
  halts : BitVec 16
  skipped : BitVec 16
  deriving DecidableEq, Repr

/-- What has happened in the present CCLK cycle (01:R46, R48, 10:R268, 20:R490). -/
structure Cycle where
  events : List EvDraft
  traces : List TrDraft
  faults : List CadFault
  /-- flags set in this cycle, by hardware or forced (01:R46) -/
  setNow : BitVec 24
  /-- CAD_FAULT stood at 1 before this cycle and was not cleared in it (10:R268) -/
  cadHeld : Bool
  /-- hardware occurrences of each flag counted in this cycle (13:R328) -/
  hits : List (Fin 24)
  /-- TRAV_STAT.T1_LATE, T2_LATE set in this cycle (13:R328) -/
  lateNow : BitVec 2
  /-- what this cycle has added to BANKERR entries and FCHAN counters (13:R328) -/
  bankInc : List (Nat × BankErr)
  chanInc : List (Nat × ChCounters)
  /-- the mailbox path took the free OWNER token, or had a TBL_CMD accepted, in this cycle; the Strait port wrote TBL_SEL, TBL_INDEX in it
  (12:R318, 13:R328) -/
  mboxClaim : Bool
  mboxCmd : Bool
  straitSel : Bool
  straitIndex : Bool
  /-- the entry that a table read of this cycle captures at its end (13:R332) -/
  capture : Option (Nat × Nat)
  deriving DecidableEq, Repr

/-- EVT_STAT, EVT_EN and FLAGCNT (13:R330, R331). -/
structure Events where
  stat : BitVec 24
  en : BitVec 24
  cnt : List FlagCnt
  cyc : Cycle
  deriving DecidableEq, Repr

/-- The PD0 event queue (14:R363, 20:R494). -/
structure EventLog where
  queue : List EvRec
  lost : BitVec 16
  /-- the next event seq; records stay unnumbered until the store recall completes -/
  nextSeq : Word
  numbered : Bool
  /-- the chunk of the ring the next append uses: page 128 + chunk / 16 (14:R362) -/
  head : Nat
  deriving DecidableEq, Repr

/-- Lighthouse (20:R490-R493). -/
structure Lighthouse where
  freeze : Bool
  wrapped : Bool
  index : BitVec 13
  seq : BitVec 16
  ring : List (Nat × Entry)
  deriving DecidableEq, Repr

/-- OWNER (12:R317-R320). -/
structure OwnerTok where
  holder : Option Path
  /-- the holder's last activity -/
  last : Stamp
  deriving DecidableEq, Repr

/-- A latched table command (13:R332). -/
structure TblLatch where
  path : Path
  cmd : BitVec 4
  sel : Byte
  index : BitVec 16
  data : Entry
  /-- the store engine runs, or is waited for to run, the command's operation (14:R349, 19:R479) -/
  inStore : Bool
  /-- the command is a row's, whose path is told the code -/
  tell : Bool
  deriving DecidableEq, Repr

/-- TBL_SEL, TBL_INDEX, TBL_DATA0-7, TBL_STAT (13 Table 13-8). -/
structure TableIf where
  sel : Byte
  index : BitVec 16
  data : Entry
  cmd : BitVec 4
  code : Byte
  overrun : Bool
  busy : Bool
  latch : Option TblLatch
  deriving DecidableEq, Repr

/-- The Strait port (12:R299-R308, R314). -/
structure Strait where
  ready : Bool
  /-- bad frames since the previous record (12:R305) -/
  bad : BitVec 16
  lastBadRecord : Option Stamp
  /-- the response not yet read, I3C (12:R314) -/
  response : List Byte
  /-- the bytes that MISO carried in the last SPI transaction, 0xFF but for the response; none where the pin was released, as it is
  whenever CS_N is high (12:R300, R307) -/
  miso : Option (List Byte)
  deriving DecidableEq, Repr

/-- The I3C target (12:R309-R316). -/
structure I3c where
  addr : Option (BitVec 7)
  pidLow : Word
  intEn : Bool
  hjEn : Bool
  protErr : Bool
  rstAct : Byte
  /-- an in-band interrupt is requested and not yet answered -/
  ibi : Bool
  /-- EVT_STAT AND EVT_EN when the previous IBI was acknowledged or NACKed -/
  ibiSeen : BitVec 24
  /-- flags of a request that a target reset withdrew, until they fall (12:R313, R316) -/
  withdrawn : BitVec 24
  /-- a reason of R312 to request Hot-Join stands since -/
  hotJoin : Option Stamp
  /-- requests stopped by a NACK or DISEC HJ until ENEC HJ -/
  hjStopped : Bool
  deriving DecidableEq, Repr

/-- A host read waiting for a demand fetch (02:R64). -/
structure WaitRead where
  port : Port
  tile : Nat
  line : Nat
  holder : Holder
  since : Stamp
  /-- what the line's way out to the link does to it (06 hop 0x0D) -/
  out : Option Carry
  deriving DecidableEq, Repr

/-- One HDM decoder as programmed (11:R277): its DPA base and size, its interleave, and whether its commit was taken. -/
structure HdmDecoder where
  committed : Bool
  base : Nat
  size : Nat
  ways : Nat
  granularity : Nat
  deriving DecidableEq, Repr

/-- One CXL port (11:R273-R281, R288). -/
structure PortSt where
  trained : Bool
  width : Nat
  rate : Nat
  memOn : Bool
  /-- RwD credits a host holds (11:R280) -/
  credits : Nat
  /-- M2S Req credits a host holds: one is taken and returned with each request (11:R280, 16:R411) -/
  req : Nat
  decoders : List HdmDecoder
  deriving DecidableEq, Repr

/-- The link (11). -/
structure Link where
  p0 : PortSt
  p1 : PortSt
  /-- credits whose data has been taken and that are not yet returned, in the order they were freed (11:R281) -/
  freed : List Port
  waits : List WaitRead
  memActive : Bool
  /-- the port whose credit was returned last (11:R281) -/
  lastReturn : Option Port
  deriving DecidableEq, Repr

/-- One CXL event log (11:R285, R287). -/
structure CxlLog where
  records : List (BitVec 16 × EvRec × Stamp)
  overflow : Bool
  overflowCount : BitVec 16
  deriving DecidableEq, Repr

/-- A background command (11:R288, R290). -/
inductive Background where
  | planCommit
  | cadCommit
  | releaseTiles
  deriving DecidableEq, Repr

/-- A TBL_WRITE whose entry k waits for the store's engine (11:R292, 19:R479): what follows it, and how its entries have ended. -/
structure TblRun where
  port : Port
  sel : Nat
  first : Nat
  k : Nat
  rest : List Entry
  denied : List Nat
  done : Nat
  deriving DecidableEq, Repr

/-- The mailbox warden path (11:R285-R298). -/
structure Mailbox where
  policy : Word
  /-- the timestamp set and the counter value when it was set (11:R286) -/
  time : Option (Stamp × Stamp)
  logs : List CxlLog
  nextHandle : BitVec 16
  /-- mirrored records not yet placed (11:R285) -/
  toPlace : List EvRec
  background : Option (Port × Background)
  /-- a TBL_WRITE that waits for a key record -/
  run : Option TblRun
  /-- Background Command Status: the last command, its Dexaris status or result -/
  bgStatus : Option (Background × BitVec 16)
  deriving DecidableEq, Repr

/-- One copy of the cadastre in the charter region (18:R443). -/
structure CadCopy where
  holders : List (Nat × Entry)
  parcels : List (Nat × Entry)
  gen : Word
  complete : Bool
  deriving DecidableEq, Repr

/-- The cadastre (10). -/
structure Cadastre where
  shH : List (Nat × Entry)
  inH : List (Nat × Entry)
  shP : List (Nat × Entry)
  inP : List (Nat × Entry)
  gen : Word
  running : Bool
  result : BitVec 4
  table : Bool
  ixA : BitVec 13
  ixB : BitVec 13
  /-- CAD_FAULT_ADDR, CAD_FAULT_INFO -/
  faultAddr : Word
  faultInfo : Word
  tokens : Nat
  /-- when a token was last added, or the tokens last set to 8 (10:R269) -/
  tokenAt : Stamp
  suppressed : BitVec 16
  /-- a reload of the gate is pending (10:R258) -/
  reload : List Bool
  /-- parts whose parcel copy or index is damaged: gate, address, true for a double match -/
  damage : List (Fin 5 × BitVec 40 × Bool)
  /-- the recalled copy is loaded (10 Table 10-13) -/
  loaded : Bool
  copy0 : CadCopy
  copy1 : CadCopy
  deriving DecidableEq, Repr

/-- One copy of the plan in the charter region (18:R443). -/
structure PlanCopy where
  entries : List (Nat × Entry)
  gen : Word
  complete : Bool
  deriving DecidableEq, Repr

/-- The survey plan (03). -/
structure Plan where
  sh : List (Nat × Entry)
  inf : List (Nat × Entry)
  gen : Word
  copy0 : PlanCopy
  copy1 : PlanCopy
  deriving DecidableEq, Repr

/-- Where a running commit stands (01:R31). -/
inductive CommitPhase where
  | validating
  | persisting
  | reporting
  deriving DecidableEq, Repr

/-- The running commit (01:R31-R37). -/
structure Commit where
  isPlan : Bool
  phase : CommitPhase
  /-- it was started through the mailbox background commands (11:R293) -/
  byMailbox : Option Port
  result : BitVec 16
  ixA : BitVec 16
  ixB : BitVec 16
  table : Bool
  /-- the channels whose doorbells a plan commit holds, and those of them whose owner the plan would change (03:R98) -/
  touched : List Nat
  reowned : List Nat
  deriving DecidableEq, Repr

/-- A doorbell write held during a plan commit (03:R98). -/
structure HeldBell where
  channel : Nat
  holder : Holder
  data : Line
  enables : Mask
  source : Byte
  deriving DecidableEq, Repr

/-- Channel states (04 Table 04-9). -/
inductive ChState where
  | idle
  | loading
  | running
  | stalled
  | halted
  | aborting
  | parked
  deriving DecidableEq, Repr

/-- A leg as fetched (04 Table 04-7). -/
structure Leg where
  source : BitVec 40
  dest : BitVec 40
  count : Word
  deriving DecidableEq, Repr

/-- One ferry channel (04). -/
structure Chan where
  state : ChState
  halt : Byte
  stall : Byte
  result : Byte
  op : Byte
  outcome : Byte
  tag : Word
  pattern : Word
  route : Dpa
  legs : BitVec 16
  /-- index of the current leg, and the leg once fetched -/
  leg : BitVec 16
  cur : Option Leg
  /-- tile index within the leg -/
  tile : Word
  /-- tiles of the legs before the current one -/
  base : Word
  done : Word
  total : Word
  mark : Word
  filled : Word
  /-- since when the channel is STALLED without a break for a cause other than WINDOW (04:R111) -/
  stallSince : Option Stamp
  stallTold : Bool
  /-- what a parked route was (04:R125) -/
  parkedRoute : Option (Byte × BitVec 16 × Word × Word)
  /-- a transfer has been issued and has waited for its bank grant (04 Table 04-10) -/
  bankWait : Bool
  /-- the channel reads total etc. again from its header (04:R113) -/
  resumed : Bool
  /-- a page retry runs for the transfer's read, whose outcome this is (07:R176, 04 Table 04-10 RETRY) -/
  reading : Option TileRead
  /-- the sectors that a COPY's record needs, once its CAPACITY stall has shown them (04 Table 04-10) -/
  need : Option Nat
  cnt : ChCounters
  deriving DecidableEq, Repr

/-- The ferry (04). -/
structure Ferry where
  chans : List Chan
  /-- FERRY_GLB.HALTS -/
  halts : BitVec 16
  held : List HeldBell
  deriving DecidableEq, Repr

/-- A T0 line: 64 byte-code words and the poison bit (06:R156, 07:R168). -/
structure T0Line where
  words : BitVec 832
  poison : Bool
  deriving DecidableEq, Repr

/-- Slot states (02 Table 02-4); a FREE slot is not listed. -/
inductive SlotState where
  | filling
  | clean
  | dirty
  | writing
  | pinned
  | window
  deriving DecidableEq, Repr

/-- What becomes of a slot when its write-back has entered its buffer (02:R66): it stays, or, a victim, it is taken for another tile by a
demand access of a port or by a ferry channel's fill. -/
inductive AfterWb where
  | keep
  | take (tile : Nat) (holder : Holder) (port : Option Port) (chan : Option Nat) (win : Option Nat) (pos : Nat)
  deriving DecidableEq, Repr

/-- What a write-back in flight has read (06:R159): lines, their poison and the lines that were dirty. -/
structure Snapshot where
  lines : List (Nat × Line)
  poison : Mask
  dirty : Mask
  /-- the tile CRC-64 that covers it (06 hop 0x05) -/
  crc : BitVec 64
  next : AfterWb
  deriving DecidableEq, Repr

/-- A tile-pool slot in use (02, "Slots and line state"). -/
structure Slot where
  idx : Nat
  st : SlotState
  tile : Nat
  holder : Holder
  /-- the port of the demand access that took it; none for a ferry fill (01:R52) -/
  port : Option Port
  /-- the ferry channel whose fill it waits for -/
  chan : Option Nat
  /-- the stream window that holds it -/
  win : Option Nat
  /-- its route position while a window holds it (04:R119) -/
  pos : Nat
  age : Stamp
  valid : Mask
  dirty : Mask
  poison : Mask
  lines : List (Nat × BitVec 832)
  /-- lines that a partial store reached before the fetch, with the bytes stored so far (02:R62, R64, log entry 20) -/
  pen : List (Nat × Mask)
  wb : Option Snapshot
  /-- released while FILLING or WRITING: freed when the transfer ends (02:R79) -/
  doomed : Bool
  deriving DecidableEq, Repr

/-- A store waiting for its tile without a slot (02:R72). -/
structure WStore where
  tile : Nat
  line : Nat
  /-- the line's byte-code words (06 hop 0x02, log entry 65) -/
  words : BitVec 832
  enables : Mask
  poison : Bool
  holder : Holder
  /-- the port it came by; none for a line that replay installs -/
  port : Option Port
  deriving DecidableEq, Repr

/-- T0 (02): scratch and tile pool. -/
structure Buffer where
  /-- scratch size in force, MiB (02:R58) -/
  scratchMiB : Nat
  scratch : List (Nat × T0Line)
  pool : List Slot
  stores : List WStore
  deriving DecidableEq, Repr

/-- A T1 write-queue entry (02:R544). -/
structure WqEntry where
  /-- line address A (07:R168) -/
  line : Nat
  /-- the 64 byte-code words of its data, poison words where an enabled byte is corrupt (06 hop 0x03, R154, 11:R283) -/
  words : BitVec 832
  enables : Mask
  /-- the key slot of a sealed line, whose words hold the plaintext until it is programmed (19:R473) -/
  key : Option Byte
  /-- ferry channel whose transfer made it -/
  channel : Option Nat
  deriving DecidableEq, Repr

/-- A recent-write queue entry (08:R204). -/
structure RwEntry where
  line : Nat
  mask : Mask
  ts : BitVec 48
  deriving DecidableEq, Repr

/-- A correction write-back not yet granted (07:R179). -/
structure Correction where
  /-- true for T1 (line address A), false for T0 (slot * 64 + line) -/
  t1 : Bool
  line : Nat
  /-- it is the gap line that holds the line's words (07 Table 07-4) -/
  gap : Bool
  byte : Nat
  word : Code13
  deriving DecidableEq, Repr

/-- A rotating-gap group of T1 (08:R211). -/
structure Group where
  start : Nat
  gap : Nat
  /-- line programs since the last move (08:R212) -/
  programs : Nat
  deriving DecidableEq, Repr

/-- T1 (02, 07, 08): arrays and queues. -/
structure Fast where
  /-- raw words by physical byte key; an unlisted byte holds no valid word (07:R177) -/
  cells : List (Nat × Code13)
  groups : List (Nat × Group)
  wq : List WqEntry
  rwq : List RwEntry
  /-- inline verify because the recent-write queue was full (08:R207) -/
  inlineFull : Bool
  corrections : List Correction
  deriving DecidableEq, Repr

/-- A record of one tile (05 Table 05-2): its bytes as 64 B units, ciphertext where the tile is sealed, and what its directory entry says. -/
structure TileRec where
  tile : Nat
  sectors : Nat
  /-- the units that are not zero -/
  units : List (Nat × Line)
  crc : BitVec 64
  /-- the line that holds the stored poison map (05:R130) -/
  poisonL : Option Nat
  deriving DecidableEq, Repr

/-- A piece of a record in a page or packing buffer (05 Table 05-5). -/
structure Piece where
  tile : Nat
  crc : BitVec 64
  first : Nat
  count : Nat
  tail : Bool
  poisonL : Option Nat
  deriving DecidableEq, Repr

/-- The image of a page that its codeword covers (05:R140, R141): directory fields, entries and data lines. -/
structure PageImg where
  magic : Byte
  t : Nat
  cls : Nat
  gen : Word
  dir : List Piece
  /-- the 64 B data lines that are not zero -/
  data : List (Nat × Line)
  deriving DecidableEq, Repr

/-- A programmed page that is not preset (05:R138-R141). -/
structure Page where
  img : PageImg
  /-- the first sectors of the pieces freed since its program (05:R144) -/
  freed : List Nat
  /-- positions (07:R173) of the cells that its program left wrong (08:R202) -/
  errs : List Nat
  deriving DecidableEq, Repr

/-- Where a charter page lies on a part with a dense tier (18:R442), and its wrong cells. -/
structure CharterAt where
  page : Nat
  gen : Word
  errs : List Nat
  deriving DecidableEq, Repr

/-- A tile-map entry (05, "The tile map"). -/
structure MapEntry where
  page : Nat
  first : Nat
  sectors : Nat
  page2 : Option Nat
  gen : Word
  gen2 : Word
  t : Nat
  t2 : Nat
  deriving DecidableEq, Repr

/-- One image being filled or waiting for its program (05:R137). -/
structure PackBuf where
  t : Nat
  pieces : List Piece
  /-- set once a program of the image was rejected: rejects so far, and when (08:R203) -/
  rejects : Nat
  rejectedAt : Option Stamp
  /-- the bank of the last rejected page -/
  lastBank : Option Nat
  deriving DecidableEq, Repr

/-- A record on its way to the map (05:R143): its bytes, and the pages its pieces went to. -/
structure Moving where
  tile : Nat
  sectors : Nat
  crc : BitVec 64
  poisonL : Option Nat
  /-- the byte-code words of its units, as the packing buffer holds them; a unit not listed is zero (06 hop 0x06, 07 Table 07-4) -/
  coded : List (Nat × BitVec 832)
  cls : Nat
  /-- where the head and the tail piece were programmed: page, strength, generation -/
  head : Option (Nat × Nat × Word)
  tail : Option (Nat × Nat × Word)
  split : Bool
  first : Nat
  /-- a moved record (reclaim, relocation) keeps the map entry it was read by (07:R182) -/
  origin : Option MapEntry
  deriving DecidableEq, Repr

/-- A start-gap region of a dense bank (05:R146). -/
structure Region where
  start : Nat
  gap : Nat
  programs : Nat
  deriving DecidableEq, Repr

/-- Release Tiles in progress (11:R294, R295). -/
inductive ReleasePhase where
  | prepare
  | persisted
  | cleanup
  deriving DecidableEq, Repr

/-- Release Tiles state (11:R294-R297). -/
structure Release where
  phase : ReleasePhase
  port : Port
  runs : List (Nat × Nat)
  denied : Bool
  permitted : Nat
  sectors : Nat
  deriving DecidableEq, Repr

/-- T2 (05). -/
structure Dense where
  tileMap : List (Nat × MapEntry)
  pages : List (Nat × Page)
  /-- packing buffers by class, oldest image first -/
  bufs : List (Nat × List PackBuf)
  moving : List Moving
  /-- pages waiting for relocation (07:R183) -/
  relocQ : List Nat
  /-- charter pages that no longer lie at their place of manufacture (18:R442) -/
  charter : List (Nat × CharterAt)
  /-- cells that the preset of a free page left at 1 (08:R202) -/
  left : List (Nat × List Nat)
  /-- dense program sequence number (14:R361) -/
  seqNo : Nat
  regions : List (Nat × Region)
  /-- pages whose last piece was freed and that are not yet preset (05:R139) -/
  toPreset : List Nat
  release : Option Release
  lastReleasedTiles : Word
  lastReleasedSectors : BitVec 64
  capacityLow : Bool
  /-- LZ4 engines: mismatches since recall, in service (05:R135) -/
  lz4 : List (Nat × Bool)
  xtsOn : Bool
  /-- BCH instances in service (07 Table 07-11) -/
  bch : List Bool
  deriving DecidableEq, Repr

/-- The tide gauge and budget (17:R421-R425, 01:R38-R41). -/
structure Tide where
  millivolts : Nat
  /-- the last valid slope difference, uV/s; none stands for C = 0 (17:R422) -/
  slope : Option Nat
  energy : BitVec 24
  seq : Byte
  /-- gauge budget and budget in force, KiB -/
  gauge : Nat
  budget : Nat
  src : Bool
  ceiling : BitVec 20
  lock : Bool
  /-- invalid measurements in a row -/
  invalid : Nat
  /-- TIDE_LOW may be set again (17:R424) -/
  lowArmed : Bool
  /-- forced write-back runs (01:R40) -/
  forced : Bool
  deriving DecidableEq, Repr

/-- The Compass and temperature (09). -/
structure Compass where
  x : BitVec 16
  y : BitVec 16
  z : BitVec 16
  level : BitVec 2
  src : BitVec 2
  valid : BitVec 3
  seq : BitVec 4
  witF : Byte
  witD : Byte
  ro : BitVec 10
  inhibit : BitVec 10
  caution : BitVec 10
  lock : Bool
  belowSince : Option Stamp
  /-- last valid magnitude of each sensor, 0.01 mT -/
  mags : List Nat
  /-- a valid sample has been taken since the start of recall (09:R223) -/
  sampled : Bool
  /-- TEMP -/
  tempMax : BitVec 10
  tempDie : BitVec 5
  warnThr : Byte
  /-- TEMP_WARN may be set again (09:R235) -/
  warnArmed : Bool
  /-- the pulse band of each die, 0 below 25 C to 3 at 85 C and above (08:R209) -/
  bands : List Nat
  /-- the sensor whose coil check runs, and since when (09:R222) -/
  check : Option (Nat × Stamp)
  /-- the witness cells of each die, numbered as TEMP.DIE, that differ from their pattern (09:R236): cell j lies in bank j mod 32 of its die
  and its pattern is j[0] XOR j[7] -/
  wrongCells : List (Nat × BitVec 4096)
  deriving DecidableEq, Repr

/-- One tier's traverse (08:R195-R200). -/
structure Trav where
  pass : Word
  /-- lines or pages done in this pass -/
  done : Nat
  /-- T2: the lowest page not yet read in this pass -/
  pos : Nat
  /-- SERVICE time counted, cycles, and its value at the start of the pass -/
  served : Nat
  passStart : Nat
  period : BitVec 10
  esc : Bool
  late : Bool
  /-- the pass runs escalated until it completes (08:R199, 09:R239) -/
  forced : Bool
  /-- this pass has missed its deadline (08:R198) -/
  told : Bool
  deriving DecidableEq, Repr

/-- The traverse (08 Table 08-2). -/
structure Traverse where
  t1 : Trav
  t2 : Trav
  t2en : Bool
  /-- a full T1 pass has completed since EXPIRED was set (09:R242) -/
  passSinceExpired : Bool
  deriving DecidableEq, Repr

/-- A store word that is written (14:R339, R340); a blank word is not listed. -/
structure SWord where
  val : Word
  /-- 0 good, 1 single error, 2 double error -/
  err : Nat
  deriving DecidableEq, Repr

/-- An operation of the store's program engine (14:R345). -/
inductive StoreOp where
  | pageProgram (page : Nat) (words : List (Nat × Word))
  | autoPreset (page : Nat) (words : List (Nat × Word))
  | pagePreset (page : Nat)
  | mcount (index : Nat) (value : BitVec 64) (rebase : Bool)
  | mcountNone (index : Nat) (code : Byte)
  | refused (page : Nat) (code : Byte)
  deriving DecidableEq, Repr

/-- What waits for the end of a warden's operation (14:R349): BMK_CTL's own status, or the latched table command of a path's registers. -/
inductive StoreWait where
  | preset
  | table
  deriving DecidableEq, Repr

/-- What waits for the end of a key command (19:R479, R481): the latched table command, a TBL_WRITE, a key command of a port, or, once a
steward restart has ended the command (19:R482), nothing. -/
inductive KeyWait where
  | nothing
  | table
  | run
  | command (port : Port)
  deriving DecidableEq, Repr

/-- A device-internal operation waiting for the engine (14:R363). -/
inductive IntOp where
  | counter (index : Nat) (value : BitVec 64) (causeway : Bool)
  | param (k : Nat)
  | tracePreset
  /-- a key-slot record: the key and its origin, none for an erase; whether the key is then installed; who asked (14:R365, 19:R479, R481) -/
  | record (slot : Nat) (key : Option (BitVec 512 × Byte)) (install : Bool) (source : BitVec 16) (wait : KeyWait)
  deriving DecidableEq, Repr

/-- A device-internal operation that the engine runs (14:R345): an append of so many records, or one of the queue's, with the image that a
parameter page takes. -/
inductive DevOp where
  | append (n : Nat)
  | int (op : IntOp) (image : List Word)
  deriving DecidableEq, Repr

/-- The resolved view of one counter (14 Table 14-5). -/
structure MView where
  value : BitVec 64
  gen : Word
  /-- 0 BLANK, 1 slot 0, 2 slot 1, 3 DAMAGED -/
  state : Nat
  other : Bool
  deriving DecidableEq, Repr

/-- The benchmark store (14). -/
structure Store where
  words : List (Nat × SWord)
  ready : Bool
  /-- the warden's operation that runs, and what waits for it -/
  op : Option (StoreOp × StoreWait)
  /-- the device's own operation that runs -/
  dev : Option DevOp
  last : Byte
  page : BitVec 9
  /-- no internal operation starts before this (14:R346) -/
  holdUntil : Option Stamp
  /-- a warden command ended with BUSY during the running operation (14:R346) -/
  hold : Bool
  queue : List IntOp
  views : List (Nat × MView)
  /-- generations of the device parameter pages in force, and which copy stands (14:R353): none when neither is valid -/
  params : List (Option (Word × Bool))
  /-- the witness bits of parameter page 1 (14 Table 14-3) -/
  witSuspect : Bool
  witExpired : Bool
  witPass : Bool
  /-- the stored seed of parameter page 2 -/
  seed : BitVec 384
  deriving DecidableEq, Repr

/-- Entropy states (19 Table 19-3). -/
inductive EntState where
  | off
  | provisional
  | stored
  | ready
  | failed
  | restarting
  deriving DecidableEq, Repr

/-- The entropy source (19:R463-R471). -/
structure Entropy where
  st : EntState
  ready : Bool
  seededOnly : Bool
  healthFail : Bool
  /-- the noise source runs, a start-up test is due, blocks complete toward the seeding -/
  source : Bool
  startup : Bool
  blocks : List (BitVec 256)
  fails : Nat
  /-- generate requests made: the index of the next draw -/
  draws : Nat
  lastReseed : Stamp
  requests : Nat
  /-- a replacement of the stored seed is due (19:R470) -/
  seedDue : Bool
  deriving DecidableEq, Repr

/-- One key slot (19 Table 19-5). -/
structure KeySlot where
  /-- 0 EMPTY, 1 VALID, 2 LOST -/
  state : Nat
  origin : Byte
  key : BitVec 512
  hits : BitVec 16
  changed : BitVec 48
  deriving DecidableEq, Repr

/-- The key unit (19:R475-R481). `records` holds the key wrapped in each key-store record: the model's own reading of the record. -/
structure Keys where
  slots : List (Nat × KeySlot)
  records : List (Nat × BitVec 512 × Byte)
  deriving DecidableEq, Repr

/-- One microcode bundle (18:R446), as its header gives it. `authentic` says whether R447 held when it was stored. -/
structure Bundle where
  ferry : BitVec 16
  lz4 : BitVec 16
  steppings : List (Byte × Byte × Byte)
  authentic : Bool
  /-- its bytes, header and body -/
  len : Nat
  deriving DecidableEq, Repr

/-- One firmware image (18:R445, Table 18-3), as its header gives it. `authentic` says whether R447 held when it was stored. -/
structure Image where
  version : Word
  steppings : List (Byte × Byte × Byte)
  pairings : List (BitVec 16 × BitVec 16)
  bundle : Option Bundle
  installUcode : Bool
  authentic : Bool
  /-- its bytes, to the end of the code and bundle -/
  len : Nat
  deriving DecidableEq, Repr

/-- A firmware transfer (18:R455-R459). -/
structure Transfer where
  path : Path
  slotB : Bool
  /-- the bytes that have arrived, from the image's first -/
  data : List Byte
  deriving DecidableEq, Repr

/-- One boot record copy (18:R444). -/
structure BootRec where
  gen : Word
  slotB : Bool
  valid : Bool
  deriving DecidableEq, Repr

/-- The steward, its firmware and microcode (18). -/
structure Steward where
  run : Bool
  /-- a restart is in progress (18:R452) -/
  restarting : Bool
  /-- the restart loads this slot because of an online activation (18:R457) -/
  restartTo : Option Bool
  slotB : Bool
  restarts : Byte
  imgA : Option Image
  imgB : Option Image
  /-- the slot being written (18:R456) -/
  writing : Option Bool
  ucode0 : Option Bundle
  ucode1 : Option Bundle
  /-- slots A and B and microcode copies 0 and 1 of which a page was uncorrectable when BOOT last read them (18:R448) -/
  unread : BitVec 4
  boot0 : BootRec
  boot1 : BootRec
  /-- microcode in use: ferry, LZ4 -/
  ferryVer : BitVec 16
  lz4Ver : BitVec 16
  resident : Bool
  pairing : BitVec 2
  xfer : Option Transfer
  /-- an abandoned transfer's next part returns FW Transfer Aborted (18 Table 18-4) -/
  xferAborted : Bool
  /-- the image staged in T0 in a stopped recall (18:R460) -/
  staged : Option (Bool × Image)
  stagedAuth : Bool
  deriving DecidableEq, Repr

/-- Who made a DRAIN record's entry and its bytes (17:R429-R431). Each byte is data, a poison word or a skip word. -/
inductive DrainByte where
  | data (b : Byte)
  | poison
  | skip
  deriving DecidableEq, Repr

/-- One entry of a group descriptor (17 Table 17-7): its target, kind and index. -/
structure DrainEntry where
  target : Nat
  kind : Nat
  index : Nat
  deriving DecidableEq, Repr

/-- A drain in progress (17 Table 17-3) and the settle phase (15:R382). -/
structure Drain where
  /-- 0 none; 2 intake; 4 copy; 5 verify; 6 witness; 7 mark; 8 PD7 off; 9 trace save; 10 WEAR persistence (17:R428) -/
  step : Nat
  /-- settle step 1 to 7; 0 when not settling (15:R382) -/
  settle : Nat
  /-- a settle drain replaces step 2 (15:R383) -/
  settleDrain : Bool
  origin : Byte
  epoch : BitVec 48
  /-- the Compass level at the epoch -/
  level : BitVec 2
  maxLevel : BitVec 2
  witnessShort : Bool
  /-- counter 1,543 as this causeway's increment leaves it (14:R364) -/
  count : Word
  /-- lines written as poison words -/
  poisoned : Word
  /-- dirty data at port close, KiB -/
  dirtyKiB : Word
  /-- the half being written, and the entries of the groups written into it -/
  target : Option Bool
  groups : List (List DrainEntry)
  traceSaved : Bool
  /-- the causeway region (17:R431): the byte-code words of each of its lines, as stored; a line not listed is the zero line -/
  region : List (Nat × BitVec 832)
  deriving DecidableEq, Repr

/-- One WEAR entry (08 Table 08-7), wear_ppm being computed. -/
structure WearCnt where
  programs : BitVec 64
  presets : Word
  gapMoves : Word
  writeFails : Word
  hardFaults : Word
  deriving DecidableEq, Repr

/-- Error counters and tallies (07:R185, 08:R215, R216). -/
structure Errors where
  ce : Word
  ue : Word
  addrFault : Word
  banks : List (Nat × BankErr)
  wear : List (Nat × WearCnt)
  /-- the pulse steps of the last write's pulse sequence (08:R208, R209) -/
  pulses : List Nat
  deriving DecidableEq, Repr

/-- The arbiter of one bank (01:R51, R52): where its rounds among the members of rank 4, the ferry classes, the channels of a class and
the ports stand. -/
structure Arb where
  /-- the next place of the 25 of rank 4 -/
  slot : Nat
  /-- the next place of the 7 of the ferry classes -/
  cls : Nat
  /-- the channel last granted, in each class -/
  chans : List Nat
  /-- the port last granted -/
  port : Option Port
  deriving DecidableEq, Repr

/-- The TAP (21:R514-R516). -/
structure Jtag where
  ir : BitVec 4
  /-- the boundary-scan register -/
  bsr : BitVec 18
  /-- outputs driven from the boundary cells, held, or floated -/
  drive : Bool
  float : Bool
  deriving DecidableEq, Repr

/-- Mailbox return codes (11:R290, 18:R456, R457; CXL 3.1's names). -/
inductive MboxRc where
  | success
  | backgroundStarted
  | invalidInput
  | unsupported
  | internalError
  | busy
  | invalidPayloadLength
  | fwInProgress
  | fwOutOfOrder
  | fwAuthFailed
  | fwAborted
  | invalidSlot
  | coldResetRequired
  | invalidHandle
  | invalidLog
  deriving DecidableEq, Repr

/-- What a standard mailbox command returns (11:R285-R289). -/
inductive MboxOut where
  | none
  | bytes (b : List Byte)
  | events (overflow more : Bool) (count : BitVec 16) (recs : List (List Byte))
  | policy (p : Word)
  | fwInfo (slots active staged : Nat) (online : Bool) (revA revB : List Byte)
  | time (ns : Stamp)
  | logs (uuid : BitVec 128) (size : Nat)
  | effects (opcodes : List (BitVec 16 × BitVec 16))
  | identify (total persistent volatile partition : Nat) (lsa poisonList : Nat)
  | partition (volatile persistent : Nat)
  deriving DecidableEq, Repr

/-- What a warden register write answers on its path (12 Table 12-4, 11 Table 11-9). -/
inductive WStatus where
  | ok
  | notOwner
  | denied
  | dataError
  | badFrame
  | busy
  | notReady
  | wrongMode
  | noRequest
  | noResponse
  deriving DecidableEq, Repr

/-- The metadata value of a CXL.mem response: the device has no metadata, and every response carries the no-op value (11 Table 11-2). -/
inductive MetaValue where
  | noOp
  deriving DecidableEq, Repr

/-- The capability structures and CDAT of a port, for the items of 11 Table 11-2 that a host reads there. -/
structure CxlCaps where
  /-- protocols and device type: CXL.io, CXL.mem, no CXL.cache; Type 3, one single logical device -/
  io : Bool
  mem : Bool
  cache : Bool
  deviceType : Nat
  logicalDevices : Nat
  backInvalidate : Bool
  dynamicCapacity : Bool
  /-- decoders offered, and interleave ways and granularities of decoders 1 and 2 -/
  decoders : Nat
  ways : List Nat
  granularities : List Nat
  metadata : Bool
  viral : Bool
  ide : Bool
  tsp : Bool
  cxlReset : Bool
  memClr : Bool
  gpf : Bool
  /-- GPF DVSEC: phase 2 duration in us and power in mW (11:R284) -/
  gpfPhase2Us : Nat
  gpfPhase2Mw : Nat
  primaryMailboxes : Nat
  secondaryMailboxes : Nat
  mctpCci : Bool
  fmApi : Bool
  /-- the mailbox's Payload Size (11:R288) -/
  payloadSize : Nat
  /-- CDAT: one DSMAS entry per offered decoder range (DPA base, size), each with read latency in ns and bandwidth in GB/s -/
  dsmas : List (Nat × Nat × Nat × Nat)
  deriving DecidableEq, Repr

/-- Media Status of the Memory Device Status register (16:R411). -/
inductive MediaStatus where
  | notReady
  | ready
  | error
  deriving DecidableEq, Repr

/-- What a host reads of a trained port's readiness (16:R411): Memory_Active with its timeout in seconds, Media Status and Mailbox Interface
Ready. -/
structure PortStatus where
  memActive : Bool
  memActiveTimeout : Nat
  media : MediaStatus
  mailboxReady : Bool
  deriving DecidableEq, Repr

/-- What the device does to an output ball: nothing, or a level (21:R510, R516). -/
inductive Ball where
  | floats
  | low
  | high
  deriving DecidableEq, Repr

/-- The output balls that have a control cell (21:R516). -/
structure Balls where
  muster : Ball
  alert : Ball
  miso : Ball
  mosi : Ball
  deriving DecidableEq, Repr

/-- Outputs of a command, as an outside party sees them. -/
inductive Resp where
  | memData (port : Port) (data : Line) (poison : Bool) (mv : MetaValue := .noOp)
  | memCmp (port : Port) (mv : MetaValue := .noOp)
  | memUnsupported (port : Port)
  | creditReturned (port : Port)
  | gpfAck (port : Port) (phase : Nat)
  | decoder (port : Port) (n : Nat) (committed : Bool)
  | cxlCaps (port : Port) (caps : CxlCaps)
  | portStatus (port : Port) (status : PortStatus)
  | mbox (port : Port) (rc : MboxRc) (ext : WStatus) (out : MboxOut)
  | strait (bytes : List Byte)
  | write (path : Path) (status : WStatus)
  | table (path : Path) (code : Byte)
  | value (path : Path) (v : Word)
  | i3cNak
  | i3cAck
  | i3cBytes (bytes : List Byte)
  | ibi (byte : Byte)
  | hotJoin
  | eventInterrupt (log : Nat) (setting : Byte)
  | tdo (select : Nat) (bits : Word)
  | balls (balls : Balls)
  deriving DecidableEq, Repr

/-- The whole block. `pending` is the queue of commands that wait; `free` counts free values; `resp` holds the last command's
outputs. -/
@[ext]
structure State where
  fuse : Fuses
  strap : Straps
  clk : Clock
  pwr : Power
  md : ModeRegs
  pin : Pins
  rcl : Recall
  evt : Events
  elog : EventLog
  lh : Lighthouse
  own : OwnerTok
  tbl : TableIf
  strait : Strait
  i3c : I3c
  link : Link
  mbox : Mailbox
  cad : Cadastre
  plan : Plan
  commit : Option Commit
  ferry : Ferry
  t0 : Buffer
  t1 : Fast
  t2 : Dense
  tide : Tide
  comp : Compass
  trav : Traverse
  store : Store
  ent : Entropy
  keys : Keys
  stew : Steward
  drain : Drain
  err : Errors
  arb : List (Nat × Arb)
  jtag : Jtag
  free : Nat
  resp : List Resp
  pending : List Instr
  deriving DecidableEq, Repr

/-! ### The state after reset

Right after the PD0 power-on of a part as shipped (00:R18, R19, 23:R539): PD0 is powered, the main supplies are good (15:R391) and
PD3 is ramping (15:R373). Values marked DESIGN CHOICE or PRESUMED are those of notes/assumptions/10. -/

/-- An idle ferry channel with its entry zeroed (04:R109, R121, 16:R404). -/
def Chan.zero : Chan where
  state := .idle
  halt := 0
  stall := 0
  result := 0
  op := 0
  outcome := 0
  tag := 0
  pattern := 0
  route := 0
  legs := 0
  leg := 0
  cur := none
  tile := 0
  base := 0
  done := 0
  total := 0
  mark := 0
  filled := 0
  stallSince := none
  stallTold := false
  parkedRoute := none
  bankWait := false
  resumed := false
  reading := none
  need := none
  cnt := ⟨0, 0, 0, 0, 0, 0, 0, 0⟩

/-- A port with its link shore and CXL.io state reset (11:R276). -/
def PortSt.down : PortSt where
  trained := false
  width := 0
  rate := 0
  memOn := false
  credits := 0
  req := 0
  decoders := List.replicate 3 ⟨false, 0, 0, 0, 0⟩

/-- An empty CXL log (11:R287). -/
def CxlLog.empty : CxlLog := ⟨[], false, 0⟩

/-- A cycle in which nothing has happened yet. -/
def Cycle.empty : Cycle where
  events := []
  traces := []
  faults := []
  setNow := 0
  cadHeld := false
  hits := []
  lateNow := 0
  bankInc := []
  chanInc := []
  mboxClaim := false
  mboxCmd := false
  straitSel := false
  straitIndex := false
  capture := none

/-- The six restrictions clear (15:R389). -/
def Restrict.clear : Restrict := ⟨false, false, false, false, false, false⟩

/-- A traverse that has done nothing, with the period given (14 Table 14-6: counters BLANK). -/
def Trav.fresh (period : BitVec 10) : Trav where
  pass := 0
  done := 0
  pos := 0
  served := 0
  passStart := 0
  period := period
  esc := false
  late := false
  forced := false
  told := false

/-- The microcode paired with the shipped image (23:R539). The version numbers are a DESIGN CHOICE (log entry 10). -/
def shippedBundle : Bundle where
  ferry := 0x0031
  lz4 := 0x0014
  steppings := [(1, 0, 255)]
  authentic := true
  len := 262144

/-- The image both slots hold at shipment (23:R539). The version number is a DESIGN CHOICE (log entry 10). -/
def shippedImage : Image where
  version := 0x03020075
  steppings := [(1, 0, 255)]
  pairings := [(0x0031, 0x0014)]
  bundle := none
  installUcode := false
  authentic := true
  len := 3149824

/-- The header entry of the empty plan of generation g (03:R84). -/
def planHeader (g : Word) : Entry :=
  (0x4C505653 : BitVec 256) ||| ((1 : BitVec 256) <<< 32) ||| ((g.setWidth 256) <<< 192)

/-- The empty plan's entries: the header alone (03:R84). -/
def emptyPlan (g : Word) : List (Nat × Entry) := [(0, planHeader g)]

/-- The device parameters a PD0 power-on starts with: their factory values (13 Tables 13-6, 13-11, 13-12, 13-13). -/
def Compass.atReset : Compass where
  x := 0
  y := 0
  z := 0
  level := 1
  src := 0
  valid := 0
  seq := 0
  witF := 0
  witD := 0
  ro := 250
  inhibit := 80
  caution := 30
  lock := false
  belowSince := none
  mags := [0, 0, 0]
  sampled := false
  tempMax := 0
  tempDie := 0
  warnThr := 95
  warnArmed := true
  bands := List.replicate 17 0
  check := none
  wrongCells := []

/-- The machine right after reset. -/
def State.reset : State where
  fuse := ⟨.rbk9216E, 1, 0, 0, 0⟩
  strap := ⟨false, false, false, 0⟩
  clk := ⟨0, false, false, 0⟩
  pwr := { vaon := true, vdd := true, vddm := true, vpp := true, vdda := true, vddio := true, on := 1, group := 1,
           ramping := 0x08, down := false, portOff := 0, lock := false, portOffNow := 0 }
  md := ⟨.recall, .recall, 0, .clear, true, false⟩
  pin := { pfail := false, pfailInCauseway := false, pfailSinceDormant := false, pfailLatched := false, musterLatched := false,
           musterDriven := false, musterReleased := none, wake := false, armed := false, pfailHighSince := none,
           perst0 := false, perst1 := false }
  rcl := { stage := 0, outcome := 0, detail := 0, timeUs := 0, start := 0, byReset := true, heldStage := 0, traps := 0,
           deferred := [], pd3Lost := false }
  evt := ⟨0, 0, List.replicate 24 ⟨0, 0⟩, .empty⟩
  elog := ⟨[], 0, 1, false, 0⟩
  lh := ⟨false, false, 0, 0, []⟩
  own := ⟨none, 0⟩
  tbl := ⟨0, 0, 0, 0, 0, false, false, none⟩
  strait := ⟨false, 0, none, [], none⟩
  i3c := ⟨none, 0, true, true, false, 0, false, 0, 0, none, false⟩
  link := ⟨.down, .down, [], [], false, none⟩
  mbox := ⟨0, none, List.replicate 4 .empty, 1, [], none, none, none⟩
  cad := { shH := [], inH := [], shP := [], inP := [], gen := 0, running := false, result := 0, table := false, ixA := 0, ixB := 0,
           faultAddr := 0, faultInfo := 0, tokens := 8, tokenAt := 0, suppressed := 0, reload := List.replicate 5 false, damage := [],
           loaded := false, copy0 := ⟨[], [], 1, true⟩, copy1 := ⟨[], [], 0, false⟩ }
  plan := { sh := emptyPlan 0, inf := emptyPlan 0, gen := 0, copy0 := ⟨emptyPlan 1, 1, true⟩, copy1 := ⟨[], 0, false⟩ }
  commit := none
  ferry := ⟨List.replicate 64 .zero, 0, []⟩
  t0 := ⟨0, [], [], []⟩
  t1 := ⟨[], [], [], [], false, []⟩
  t2 := { tileMap := [], pages := [], bufs := [], moving := [], relocQ := [], charter := [], left := [], seqNo := 0, regions := [], toPreset := [],
          release := none, lastReleasedTiles := 0, lastReleasedSectors := 0, capacityLow := false,
          lz4 := List.replicate 4 (0, true), xtsOn := true, bch := List.replicate 8 true }
  tide := { millivolts := 0, slope := none, energy := 0, seq := 0, gauge := 0, budget := 0, src := false, ceiling := 49152,
            lock := false, invalid := 0, lowArmed := true, forced := false }
  comp := .atReset
  trav := ⟨.fresh 480, .fresh 168, true, false⟩
  store := { words := [], ready := false, op := none, dev := none, last := 0, page := 0, holdUntil := none, hold := false, queue := [],
             views := [], params := List.replicate 8 none, witSuspect := false, witExpired := false, witPass := false, seed := 0 }
  ent := ⟨.off, false, false, false, false, false, [], 0, 0, 0, 0, false⟩
  keys := ⟨[], []⟩
  stew := { run := false, restarting := false, restartTo := none, slotB := false, restarts := 0, imgA := some shippedImage,
            imgB := some shippedImage, writing := none, ucode0 := some shippedBundle, ucode1 := some shippedBundle, unread := 0, boot0 := ⟨1, false, true⟩,
            boot1 := ⟨0, false, false⟩, ferryVer := 0, lz4Ver := 0, resident := false, pairing := 0, xfer := none,
            xferAborted := false, staged := none, stagedAuth := false }
  drain := { step := 0, settle := 0, settleDrain := false, origin := 0, epoch := 0, level := 0, maxLevel := 0, witnessShort := false,
             count := 0, poisoned := 0, dirtyKiB := 0, target := none, groups := [], traceSaved := false, region := [] }
  err := ⟨0, 0, 0, [], [], []⟩
  arb := []
  jtag := ⟨2, 0, false, false⟩
  free := 0
  resp := []
  pending := []

end Sys2Proof.Machine
end

