-- ==== Sys2Proof/Machine/Ops.lean ====
section
/-! DEFINITION. The shared operations: sparse tables, byte fields, what a part has, event and trace records, the end of a cycle,
restrictions and mode epochs. -/

namespace Sys2Proof.Machine

open Sys2Proof

abbrev Out := Host.Outcome State Fault Refusal

/-! ### Sparse tables -/

/-- The value listed at k. -/
def tget {α : Type} : List (Nat × α) → Nat → Option α
  | [], _ => none
  | (j, v) :: t, k => if j = k then some v else tget t k

/-- The value at k, d where unlisted. -/
def tgetD {α : Type} (l : List (Nat × α)) (k : Nat) (d : α) : α := (tget l k).getD d

/-- List v at k, keeping the keys rising. -/
def tset {α : Type} : List (Nat × α) → Nat → α → List (Nat × α)
  | [], k, v => [(k, v)]
  | (j, w) :: t, k, v => if k < j then (k, v) :: (j, w) :: t else if j = k then (k, v) :: t else (j, w) :: tset t k v

/-- Unlist k. -/
def tdel {α : Type} : List (Nat × α) → Nat → List (Nat × α)
  | [], _ => []
  | (j, w) :: t, k => if j = k then t else (j, w) :: tdel t k

/-- Write v at k of a table whose unlisted entries read d. -/
def tput {α : Type} [DecidableEq α] (d : α) (l : List (Nat × α)) (k : Nat) (v : α) : List (Nat × α) :=
  if v = d then tdel l k else tset l k v

/-- Keys rise strictly. -/
def rising {α : Type} : List (Nat × α) → Bool
  | [] => true
  | (j, _) :: t => t.all (fun p => decide (j < p.1)) && rising t

/-- Replace the n-th element. -/
def lset {α : Type} (l : List α) (n : Nat) (v : α) : List α := l.set n v

/-- The n-th element, d where there is none. -/
def lgetD {α : Type} (l : List α) (n : Nat) (d : α) : α := (l[n]?).getD d

/-- Insert by key, after the equal ones. -/
def insKey {α : Type} (key : α → Nat) (x : α) : List α → List α
  | [] => [x]
  | y :: t => if key x < key y then x :: y :: t else y :: insKey key x t

/-- Stable sort by key. -/
def sortKey {α : Type} (key : α → Nat) (l : List α) : List α := l.foldl (fun acc x => insKey key x acc) []

def sumBy {α : Type} (f : α → Nat) (l : List α) : Nat := l.foldl (fun n x => n + f x) 0

/-! ### Byte fields (00:R11) -/

/-- Bytes off to off + n − 1 of a little-endian word, as a number. -/
def fld {w : Nat} (e : BitVec w) (off n : Nat) : Nat := (e.extractLsb' (8 * off) (8 * n)).toNat

/-- Bits lo to lo + n − 1, as a number. -/
def bits {w : Nat} (e : BitVec w) (lo n : Nat) : Nat := (e.extractLsb' lo n).toNat

/-- A word built from (byte offset, bytes, value) fields. -/
def pack (w : Nat) (l : List (Nat × Nat × Nat)) : BitVec w :=
  l.foldl (fun acc (o, n, v) => acc ||| (BitVec.ofNat w (v % 2 ^ (8 * n)) <<< (8 * o))) 0

/-- An event payload: offsets count from byte 16 of the record (20 Table 20-4). -/
def pay (l : List (Nat × Nat × Nat)) : BitVec 96 := pack 96 (l.map fun (o, n, v) => (o - 16, n, v))

/-- Add with saturation. -/
def satAdd {w : Nat} (x : BitVec w) (n : Nat) : BitVec w := BitVec.ofNat w (min (2 ^ w - 1) (x.toNat + n))

def bnat (b : Bool) : Nat := if b then 1 else 0
def bbit (b : Bool) (n : Nat) : Nat := if b then 2 ^ n else 0

/-- The bytes of a word, lowest first. -/
def toBytes {w : Nat} (e : BitVec w) (n : Nat) : List Byte := (List.range n).map fun i => e.extractLsb' (8 * i) 8

/-- The word of a list of bytes, lowest first. -/
def ofBytes (w : Nat) (l : List Byte) : BitVec w := l.reverse.foldl (fun acc b => (acc <<< 8) ||| b.setWidth w) 0

/-- The bits of a mask that are 1, in ascending order. -/
def ones {w : Nat} (m : BitVec w) : List Nat := (List.range w).filter fun i => m.getLsbD i

def popcount {w : Nat} (m : BitVec w) : Nat := (ones m).length

/-! ### Parts (00 Table 00-2, 13 Table 13-5) -/

namespace Part
def channels : Part → Nat
  | .rbk9208 => 32
  | .rbk9204 => 16
  | _ => 64
def ports : Part → Nat
  | .rbk9208 => 1
  | _ => 2
def dense : Part → Bool
  | .rbk9204 => false
  | _ => true
def encrypt : Part → Bool
  | .rbk9216E => true
  | _ => false
def compress (p : Part) : Bool := p.dense
def fastGiB : Part → Nat
  | .rbk9208 => 8
  | _ => 16
def fastDies : Part → Nat
  | .rbk9208 => 2
  | _ => 4
def denseDies : Part → Nat
  | .rbk9208 => 6
  | .rbk9204 => 0
  | _ => 12
/-- Tiles of the dense range (02:R55). -/
def tiles : Part → Nat
  | .rbk9208 => 0x2000000
  | .rbk9204 => 0
  | _ => 0x4000000
/-- Usable sectors (02 Table 02-5). -/
def usableSectors : Part → Nat
  | .rbk9208 => 133812224
  | .rbk9204 => 0
  | _ => 267755520
def bchEngines : Part → Nat
  | .rbk9208 => 4
  | .rbk9204 => 2
  | _ => 8
def number : Part → Nat
  | .rbk9208 => 0x9208
  | .rbk9204 => 0x9204
  | _ => 0x9216
def cap0 : Part → Word
  | .rbk9216E => 0x00C44037
  | .rbk9216 => 0x00C44035
  | .rbk9208 => 0x00622015
  | .rbk9204 => 0x00041030
def cap1 : Part → Word
  | .rbk9216E => 0x01008010
  | .rbk9216 => 0x01008010
  | .rbk9208 => 0x00804008
  | .rbk9204 => 0x00000010
def cap2 : Part → Word
  | .rbk9216E => 0x40048100
  | .rbk9216 => 0x40048000
  | .rbk9208 => 0x40044000
  | .rbk9204 => 0x40002000
end Part

def State.part (s : State) : Part := s.fuse.part

/-- One microsecond in CCLK cycles (01:R23). -/
def usec : Nat := 1600
/-- One millisecond in CCLK cycles. -/
def msec : Nat := 1600000

def State.now (s : State) : Nat := s.clk.ts.toNat
/-- Bits 47:0 of the counter (20:R486). -/
def State.ts48 (s : State) : BitVec 48 := s.clk.ts.setWidth 48

/-- At least n cycles have passed since t. -/
def State.since (s : State) (t : Stamp) (n : Nat) : Bool := t.toNat + n ≤ s.now

/-! ### Event flags and records (01:R46-R48, 13:R330, R331, 20:R494, R495) -/

/-- The order of one cycle's records (01:R48): the flag's bit, hardware before forced, then the source, or the gate that a record of a
damaged stone index names; after them the records that name no bit, by code and source. -/
def evKey (bit : Option (Fin 24)) (forced : Bool) (code : Byte) (sub : Nat) : Nat :=
  match bit with
  | some b => b.val * 2 ^ 40 + bnat forced * 2 ^ 39 + sub
  | none => 24 * 2 ^ 40 + code.toNat * 2 ^ 32 + sub

/-- Set a flag; a hardware occurrence is counted (01:R47). -/
def Events.hit (e : Events) (ts : Stamp) (b : Fin 24) (forced : Bool) : Events :=
  let m : BitVec 24 := 1 <<< b.val
  let c := lgetD e.cnt b.val ⟨0, 0⟩
  { e with
    stat := e.stat ||| m
    cnt := if forced then e.cnt else e.cnt.set b.val ⟨satAdd c.count 1, ts.setWidth 48⟩
    cyc := { e.cyc with setNow := e.cyc.setNow ||| m, hits := if forced then e.cyc.hits else e.cyc.hits ++ [b] } }

/-- A hardware occurrence of flag b, with no record. -/
def State.flagHit (s : State) (b : Fin 24) : State := { s with evt := s.evt.hit s.clk.ts b false }

/-- A record of this cycle. -/
def State.addEvent (s : State) (bit : Option (Fin 24)) (code : Byte) (source : BitVec 16) (payload : BitVec 96)
    (rise : Bool := false) (forced : Bool := false) : State :=
  let gate := if code = 0x22 && fld payload 0 1 == 4 then fld payload 1 1 else 0
  let d : EvDraft := ⟨evKey bit forced code (source.toNat * 256 + gate), bit, code, forced, rise, source, payload⟩
  { s with evt := { s.evt with cyc := { s.evt.cyc with events := s.evt.cyc.events ++ [d] } } }

/-- A hardware occurrence of flag b with its record (20:R495). -/
def State.raise (s : State) (b : Fin 24) (code : Byte) (source : BitVec 16) (payload : BitVec 96) : State :=
  (s.flagHit b).addEvent (some b) code source payload true

/-- A record that names no flag. -/
def State.note (s : State) (code : Byte) (source : BitVec 16) (payload : BitVec 96) : State :=
  s.addEvent none code source payload

/-- A forced set of flag b (13:R330, 20:R495). -/
def State.force (s : State) (b : Fin 24) (source : BitVec 16) : State :=
  let s := { s with evt := s.evt.hit s.clk.ts b true }
  s.addEvent (some b) 0x01 source (pay [(16, 1, b.val)]) true true

/-! Sources (20 Table 20-5). -/
def srcDevice : BitVec 16 := 0
def srcPort (p : Port) : BitVec 16 := BitVec.ofNat 16 (0x1000 + p.val)
def srcPath : Path → BitVec 16
  | .strait => 0x2000
  | .mailbox => 0x2001
def srcChan (c : Nat) : BitVec 16 := BitVec.ofNat 16 (0x3000 + c)
def srcBank (b : Nat) : BitVec 16 := BitVec.ofNat 16 (0x4000 + b)
def srcDie (d : Nat) : BitVec 16 := BitVec.ofNat 16 (0x5000 + d)
def srcSensor (n : Nat) : BitVec 16 := BitVec.ofNat 16 (0x6000 + n)
def srcAccess (c : Nat) : BitVec 16 := BitVec.ofNat 16 (0x7000 + c)
def srcEngine (c i : Nat) : BitVec 16 := BitVec.ofNat 16 (0x8000 + c * 256 + i)

/-! ### The trace (20:R489-R492) -/

/-- A trace record of this cycle. -/
def State.addTrace (s : State) (type : Byte) (source : BitVec 16) (payload : BitVec 128) : State :=
  let rank : Nat := match type.toNat with
    | 4 => 0 | 5 => 1 | 6 => 2 | 1 => 3 | 2 => 4 | 3 => 5 | 7 => 6 | _ => 7
  let d : TrDraft := ⟨rank * 2 ^ 20 + (if rank < 4 then 0 else source.toNat), type, source, payload, 0, 0⟩
  { s with evt := { s.evt with cyc := { s.evt.cyc with traces := s.evt.cyc.traces ++ [d] } } }

/-- A trace payload: offsets count from byte 12 of the record (20 Table 20-2). -/
def tpay (l : List (Nat × Nat × Nat)) : BitVec 128 := pack 128 (l.map fun (o, n, v) => (o - 12, n, v))

/-- The 32 B of a trace record. -/
def trEntry (seq : BitVec 16) (t : TrDraft) : Entry :=
  t.ts.setWidth 256 ||| (seq.setWidth 256 <<< 48) ||| (t.type.setWidth 256 <<< 64) ||| (t.flags.setWidth 256 <<< 72) |||
  (t.source.setWidth 256 <<< 80) ||| (t.payload.setWidth 256 <<< 96)

/-- Put one record into the ring, or only consume its seq (20:R490-R492). The result says whether the index wrapped. -/
def Lighthouse.put (l : Lighthouse) (drop : Bool) (t : TrDraft) : Lighthouse × Bool :=
  let l' := { l with seq := l.seq + 1 }
  if l.freeze || drop then (l', false)
  else
    let wrap := l.index.toNat == 8191
    ({ l' with ring := tset l.ring l.index.toNat (trEntry l.seq t), index := l.index + 1, wrapped := l.wrapped || wrap }, wrap)

/-- Put a cycle's records in order; at most 256 wait for the ring (20:R491). -/
def Lighthouse.puts : Lighthouse → Nat → List TrDraft → Lighthouse × Bool
  | l, _, [] => (l, false)
  | l, n, t :: ts =>
    let (l1, w1) := l.put (decide (256 ≤ n)) t
    let (l2, w2) := l1.puts (n + 1) ts
    (l2, w1 || w2)

/-! ### The PD0 event queue (14:R363, 20:R494) -/

/-- The next event seq, passing over 0. -/
def nextSeqOf (w : Word) : Word := if w + 1 = 0 then 1 else w + 1

/-- The EVENT trace record of an event record; seq 0 for a lost one (20 Table 20-3). -/
def eventTrace (seq : Word) (r : EvRec) : TrDraft :=
  ⟨3 * 2 ^ 20, 1, r.source, pack 128 [(0, 4, seq.toNat), (4, 1, r.code.toNat), (5, 11, (r.payload.extractLsb' 0 88).toNat)], r.ts,
   r.flags &&& 3⟩

/-- A record enters the queue, or is lost when 64 wait (14:R363). The second part holds its EVENT trace record. -/
def EventLog.push (q : EventLog) (r : EvRec) : EventLog × List TrDraft :=
  if 64 ≤ q.queue.length then ({ q with lost := satAdd q.lost 1 }, [eventTrace 0 r])
  else if q.numbered then
    let r' := { r with seq := q.nextSeq, lost := q.lost }
    ({ q with queue := q.queue ++ [r'], lost := 0, nextSeq := nextSeqOf q.nextSeq }, [eventTrace q.nextSeq r'])
  else ({ q with queue := q.queue ++ [{ r with lost := q.lost }], lost := 0 }, [])

/-- Push a cycle's records in order. -/
def EventLog.pushes : EventLog → List EvRec → EventLog × List TrDraft
  | q, [] => (q, [])
  | q, r :: rs =>
    let (q1, t1) := q.push r
    let (q2, t2) := q1.pushes rs
    (q2, t1 ++ t2)

/-- The record of a draft, in the cycle that ends. -/
def EvDraft.record (d : EvDraft) (ts : BitVec 48) (est : Bool) : EvRec :=
  ⟨0, ts, d.bit, d.code, BitVec.ofNat 8 (bbit est 0 + bbit d.forced 1 + bbit d.rise 2), 0, d.source, d.payload⟩

/-! ### Cadastre faults of one cycle (10:R268, R269) -/

/-- The order of faults in one cycle (10:R268). -/
def CadFault.key (f : CadFault) : Nat := f.gate.val * 2 ^ 48 + f.source.toNat * 2 ^ 40 + f.addr.toNat

/-- Capture a fault in CAD_FAULT_ADDR and CAD_FAULT_INFO (10 Table 10-12, 13 Table 13-11). -/
def Cadastre.capture (c : Cadastre) (f : CadFault) : Cadastre :=
  { c with
    faultAddr := f.addr.extractLsb' 6 32
    faultInfo := BitVec.ofNat 32 (f.holder.toNat * 2 ^ 20 + f.source.toNat * 2 ^ 12 + f.kind.toNat * 2 ^ 9 + f.gate.val * 2 ^ 6 +
      f.cause.toNat * 4 + bits f.addr 38 2) }

/-- A failing part: the flag, its count, the capture (10:R268). -/
def State.cadFault (s : State) (f : CadFault) : State :=
  let s := s.flagHit 1
  let fs := insKey CadFault.key f s.evt.cyc.faults
  let s := { s with evt := { s.evt with cyc := { s.evt.cyc with faults := fs } } }
  if s.evt.cyc.cadHeld then s
  else { s with cad := match fs with
                  | f0 :: _ => s.cad.capture f0
                  | [] => s.cad }

/-- The draft of a fault that found a token (10:R269, 20 Table 20-6 code 0x40). -/
def CadFault.draft (f : CadFault) (n : Nat) (suppressed : BitVec 16) : EvDraft :=
  ⟨2 ^ 40 + n, some 1, 0x40, false, true, srcAccess f.source.toNat,
   pay [(16, 1, f.cause.toNat + f.kind.toNat * 16), (17, 5, f.addr.toNat), (22, 2, f.holder.toNat),
        (24, 2, f.parcel.getD 0xFFFF), (26, 2, suppressed.toNat)]⟩

/-- Spend the tokens of a cycle's faults in order (10:R269). -/
def spendTokens : List CadFault → Nat → Cadastre → Cadastre × List EvDraft
  | [], _, c => (c, [])
  | f :: fs, n, c =>
    if c.tokens = 0 then spendTokens fs n { c with suppressed := satAdd c.suppressed 1 }
    else
      let (c', ds) := spendTokens fs (n + 1) { c with tokens := c.tokens - 1, suppressed := 0 }
      (c', f.draft n c.suppressed :: ds)

/-! ### The end of a cycle -/

/-- The CXL log of a flag: 0 Informational, 1 Warning, 2 Failure (11 Table 11-5). -/
def mirrorLog (b : Nat) : Option Nat :=
  if [0, 2, 4, 6, 18, 22, 23].contains b then some 0
  else if [1, 7, 9, 10, 13, 15, 20].contains b then some 1
  else if [3, 8, 14, 16].contains b then some 2
  else none

/-- The record is placed in a CXL log (11:R285). -/
def EvRec.mirrored (r : EvRec) : Bool :=
  match r.bit with
  | some b => (mirrorLog b.val).isSome
  | none => false

/-- The happenings of the present cycle with these drafts beside them: faults take their tokens, event records enter the queue (01:R48), and
trace records take the ring (20:R490; an EVENT record drafted when the store recall numbers the queue keeps its own stamp). The second part
says whether the ring's index passed to 0. -/
def State.flushCycle (s : State) (more : List EvDraft) : State × Bool :=
  let cyc := s.evt.cyc
  let (cad, fd) := spendTokens cyc.faults 0 s.cad
  let recs := (sortKey EvDraft.key (cyc.events ++ more ++ fd)).map fun d => d.record s.ts48 s.clk.estimated
  let (q, et) := s.elog.pushes recs
  let own := cyc.traces.map fun t => if t.type = 1 then t else { t with ts := s.ts48, flags := BitVec.ofNat 8 (bnat s.clk.estimated) }
  let trs := sortKey TrDraft.key (own ++ et)
  let (lh, wrap) := s.lh.puts 0 trs
  ({ s with
      cad := cad
      elog := q
      lh := lh
      mbox := if q.numbered then { s.mbox with toPlace := s.mbox.toPlace ++ (q.queue.drop s.elog.queue.length).filter EvRec.mirrored }
              else s.mbox }, wrap)

/-- LH_WRAP's record; LH_HEAD.SEQ as the index passes to 0 (20:R490). -/
def Lighthouse.wrapDraft (l : Lighthouse) : EvDraft :=
  ⟨evKey (some 17) false 0x55 0, some 17, 0x55, false, true, srcDevice, pay [(16, 2, (l.seq.toNat + (8192 - l.index.toNat)) % 65536)]⟩

/-- End the present CCLK cycle. A pass of the ring's index to 0 sets LH_WRAP in this cycle, and its record takes its place among the cycle's
(01:R48, log entry 12); an in-band interrupt with no flag left is withdrawn, and a flag that has fallen may ask for one again (12:R313). -/
def State.endCycle (s : State) : State :=
  let (s1, wrap) := s.flushCycle []
  let s := if wrap then ((s.flagHit 17).flushCycle [s.lh.wrapDraft]).1 else s1
  let on := s.evt.stat &&& s.evt.en
  { s with
    i3c := { s.i3c with ibi := s.i3c.ibi && !(on == 0), withdrawn := s.i3c.withdrawn &&& on }
    evt := { s.evt with cyc := { Cycle.empty with cadHeld := s.evt.stat.getLsbD 1 } } }

/-- ERA records when bits 47:0 of the counter have passed to 0 (20:R486). -/
def State.era (s : State) : State :=
  if s.ts48 = 0 && !(s.clk.ts = 0) then
    let hi := bits s.clk.ts 48 16
    (s.note 0x07 srcDevice (pay [(16, 2, hi)])).addTrace 0x05 srcDevice (tpay [(12, 2, hi)])
  else s

/-- The counter takes its next value, and SERVICE time passes for the traverse. -/
def State.advance (s : State) : State :=
  let served (t : Trav) : Trav := if s.md.mode = .service then { t with served := t.served + 1 } else t
  ({ s with
      clk := { s.clk with ts := s.clk.ts + 1 }
      trav := { s.trav with t1 := served s.trav.t1, t2 := served s.trav.t2 } } : State).era

/-- One cycle of the AON oscillator in DORMANT (01:R26, 20:R487). -/
def State.aonTick (s : State) : State :=
  if s.md.mode = .dormant then { s with clk := { s.clk with aon := satAdd s.clk.aon 1 } } else s

/-! ### Modes and restrictions (01:R42, R45) -/

def Mode.code : Mode → Nat
  | .recall => 0
  | .service => 1
  | .causeway => 2
  | .dormant => 3

def Restrict.toNat (r : Restrict) : Nat :=
  bbit r.fieldRo 0 + bbit r.versionLimited 1 + bbit r.witnessSuspect 2 + bbit r.witnessExpired 3 + bbit r.budgetClamp 4 +
  bbit r.capacityStall 5

/-- RESTRICT changes, with its record (01:R45); nothing where it stays. -/
def State.setRestrict (s : State) (r : Restrict) : State :=
  if r = s.md.restrict then s
  else { s with md := { s.md with restrict := r } }.note 0x04 srcDevice (pay [(16, 1, s.md.restrict.toNat), (17, 1, r.toNat)])

/-- A mode epoch (01:R42): MODE, MODE_CHG with its record, and the EPOCH trace record. -/
def State.modeEpoch (s : State) (m : Mode) (cause : BitVec 4) : State :=
  let old := s.md.mode
  let s := { s with md := { s.md with mode := m, prev := old, cause := cause } }
  let s := s.raise 0 0x03 srcDevice (pay [(16, 1, old.code), (17, 1, m.code), (18, 1, cause.toNat), (19, 1, s.md.restrict.toNat)])
  s.addTrace 0x06 srcDevice (tpay [(12, 1, 2), (13, 4, m.code)])

/-! ### Recall stages (16:R396) -/

/-- A stage begins: its code, and its STAGE trace record. -/
def State.beginStage (s : State) (n : Nat) : State :=
  ({ s with rcl := { s.rcl with stage := BitVec.ofNat 4 n } } : State).addTrace 0x02 srcDevice (tpay [(12, 1, n), (13, 1, s.md.cause.toNat)])

/-- REPLAY begins: PD7 is powered (15:R373, 16:R406). -/
def State.startReplay (s : State) : State :=
  let s := s.beginStage 7
  { s with pwr := { s.pwr with ramping := if s.pwr.on.getLsbD 7 then s.pwr.ramping else s.pwr.ramping ||| 0x80 } }

/-! ### Outputs and free values -/

def State.respond (s : State) (r : Resp) : State := { s with resp := s.resp ++ [r] }
/-- The command's outputs start empty. -/
def State.fresh (s : State) : State := { s with resp := [] }
/-- A draw of DRBG output (19:R466): a free value, and one generate request. -/
def State.draw (s : State) : BitVec 64 × State :=
  (Config.drbg s.ent.draws, { s with ent := { s.ent with draws := s.ent.draws + 1, requests := s.ent.requests + 1 } })
def State.bumpFree (s : State) : State := { s with free := s.free + 1 }

/-- A path that holds OWNER is active (12:R319). -/
def State.touch (s : State) (p : Path) : State :=
  if s.own.holder = some p then { s with own := { s.own with last := s.clk.ts } } else s

/-- The steward can take work (01:R29). -/
def State.stewardUp (s : State) : Bool := s.stew.run && !s.stew.restarting

/-- CXL.mem and commits act: SERVICE. -/
def State.inService (s : State) : Bool := s.md.mode = .service

end Sys2Proof.Machine
end

