-- ==== Sys2Proof/Machine/Flags.lean ====
section
/-! DEFINITION. The codes: frame CRC-8 (12:R303), CRC-32C (03:R85), tile CRC-64 (05:R132), the byte code and its address fold
(07:R165-R170), poison words (06:R154). -/

namespace Sys2Proof.Machine

open Sys2Proof

/-! ### Cyclic codes -/

/-- Run a step n times. -/
def iter {α : Type} (f : α → α) : Nat → α → α
  | 0, x => x
  | n + 1, x => iter f n (f x)

def crc8Bit (c : Byte) : Byte := if c.getLsbD 7 then (c <<< 1) ^^^ 0x07 else c <<< 1
/-- The frame CRC-8 (12:R303). -/
def crc8 (l : List Byte) : Byte := l.foldl (fun c b => iter crc8Bit 8 (c ^^^ b)) 0

def crc32Bit (c : Word) : Word := if c.getLsbD 0 then (c >>> 1) ^^^ 0x82F63B78 else c >>> 1
/-- CRC-32C (03:R85). -/
def crc32c (l : List Byte) : Word := (l.foldl (fun c b => iter crc32Bit 8 (c ^^^ b.setWidth 32)) 0xFFFFFFFF) ^^^ 0xFFFFFFFF

def crc64Bit (c : BitVec 64) : BitVec 64 := if c.getLsbD 63 then (c <<< 1) ^^^ 0x42F0E1EBA9EA3693 else c <<< 1
/-- The tile CRC-64 (05:R132). -/
def crc64 (l : List Byte) : BitVec 64 := l.foldl (fun (c : BitVec 64) (b : Byte) => iter crc64Bit 8 (c ^^^ ((b.setWidth 64 : BitVec 64) <<< (56 : Nat)))) 0

/-! ### The byte code -/

/-- XOR of the bits of A whose index is r modulo 3 (07:R167). -/
def foldBit (a : Word) (r : Nat) : Bool := (List.range 32).foldl (fun x i => if i % 3 = r then x ^^ a.getLsbD i else x) false

/-- The address fold a2:a0 (07:R167). -/
def addrFold (a : Word) : BitVec 3 := BitVec.ofNat 3 (bbit (foldBit a 0) 0 + bbit (foldBit a 1) 1 + bbit (foldBit a 2) 2)

/-- The fold of line a of a space (07:R168). -/
def lineFold (a : Nat) : BitVec 3 := addrFold (BitVec.ofNat 32 a)

/-- The column values of d0-d7 and a0-a2 (07 Table 07-3). -/
def columns : List (BitVec 4) := [3, 5, 6, 7, 9, 10, 11, 12, 13, 14, 15]

/-- The check value of a data byte at a fold: the XOR of the columns of its ones (07:R166). -/
def checkOf (f : BitVec 3) (d : Byte) : BitVec 4 :=
  let info : BitVec 11 := f ++ d
  ((List.range 11).zip columns).foldl (fun x (i, c) => if info.getLsbD i then x ^^^ c else x) 0

def parityOf {w : Nat} (x : BitVec w) : Bool := (List.range w).foldl (fun p i => p ^^ x.getLsbD i) false

/-- Encode a byte (07:R165, R166). -/
def encByte (f : BitVec 3) (d : Byte) : Code13 :=
  let c := checkOf f d
  let w : BitVec 12 := c ++ d
  (BitVec.ofBool (parityOf w ^^ parityOf f)) ++ w

/-- The poison word: the encoding of 0x00 with c0 and c1 inverted (06:R154). -/
def poisonWord (f : BitVec 3) : Code13 := encByte f 0 ^^^ 0x0300

/-- Decode classes (07 Table 07-5). -/
inductive ByteClass where
  | clean
  | corrected
  | addrFault
  | double
  deriving DecidableEq, Repr

/-- Decode a word at a fold: its class, its syndrome, and the data byte (07:R169). -/
def decByte (f : BitVec 3) (w : Code13) : ByteClass × BitVec 4 × Byte :=
  let d : Byte := w.extractLsb' 0 8
  let s := checkOf f d ^^^ w.extractLsb' 8 4
  let e := parityOf w ^^ parityOf f
  if s = 0 then (if e then .corrected else .clean, s, d)
  else if !e then (.double, s, d)
  else if s = 13 || s = 14 || s = 15 then (.addrFault, s, d)
  else
    match (List.range 8).find? fun i => lgetD columns i 0 == s with
    | some i => (.corrected, s, d ^^^ (1 <<< i))
    | none => (.corrected, s, d)

/-- What decoding a line shows (07:R170, 06:R154, 07 Table 07-8). -/
inductive LineClass where
  | clean
  | corrected
  | addrFault
  | double
  deriving DecidableEq, Repr

/-- One byte position's decode. -/
structure ByteDec where
  word : Code13
  cls : ByteClass
  syn : BitVec 4
  data : Byte
  deriving DecidableEq, Repr

structure LineDec where
  cls : LineClass
  /-- the data bits as stored, and as corrected -/
  asRead : Line
  data : Line
  /-- positions that decode corrected, with the corrected word -/
  fixes : List (Nat × Code13)
  bytes : List ByteDec
  deriving DecidableEq, Repr

/-- Decode the 64 words of a line (07:R170). -/
def decLine (f : BitVec 3) (ws : List Code13) : LineDec :=
  let bs := ws.map fun w => let (c, s, d) := decByte f w; (⟨w, c, s, d⟩ : ByteDec)
  let raw := ofBytes 512 (ws.map fun w => w.setWidth 8)
  let data := ofBytes 512 (bs.map (·.data))
  let same := (List.range 16).any fun v =>
    v ≠ 0 && decide (8 ≤ (bs.filter fun b => b.cls = .corrected && b.syn.toNat == v).length)
  if same || bs.any (fun b => b.cls = .addrFault) then ⟨.addrFault, raw, raw, [], bs⟩
  else
    let fixes := (((List.range 64).zip bs).filter fun p => p.2.cls = .corrected).map fun p => (p.1, encByte f p.2.data)
    if bs.any (fun b => b.cls = .double) then ⟨.double, raw, data, fixes, bs⟩
    else if fixes.isEmpty then ⟨.clean, raw, data, [], bs⟩
    else ⟨.corrected, raw, data, fixes, bs⟩

/-- Byte i of a line. -/
def lineByte (d : Line) (i : Nat) : Byte := d.extractLsb' (8 * i) 8

/-- The 64 words of a line's encoding. -/
def encLine (f : BitVec 3) (d : Line) : List Code13 := (List.range 64).map fun i => encByte f (lineByte d i)

/-- A T0 line's words as one value; word i is bits 13i to 13i + 12. -/
def packWords (l : List Code13) : BitVec 832 := l.reverse.foldl (fun acc w => (acc <<< 13) ||| w.setWidth 832) 0
def unpackWords (x : BitVec 832) : List Code13 := (List.range 64).map fun i => x.extractLsb' (13 * i) 13

/-- The enabled bytes of d over old. -/
def mergeLine (old d : Line) (en : Mask) : Line :=
  ofBytes 512 ((List.range 64).map fun i => if en.getLsbD i then lineByte d i else lineByte old i)

def allOnes : Mask := BitVec.allOnes 64

/-- The tile CRC-64 over a substituted tile and its number (05:R132). -/
def tileCrc (lines : List Line) (tile : Nat) : BitVec 64 :=
  crc64 (lines.flatMap (fun l => toBytes l 64) ++ toBytes (BitVec.ofNat 32 tile) 4)

end Sys2Proof.Machine
end

