-- ==== Sys2Proof/Machine/Codes.lean ====
section
/-! DEFINITION. The codes of records and pages: the carriage CRC (06:R152, R153), the LZ4 block format (05:R133, R134), the page BCH
(07:R172-R175) with its test vectors (07:R189), and the page image in the array (05:R127, R140, R141). -/

namespace Sys2Proof.Machine

open Sys2Proof

/-! ### The carriage CRC (06:R152, R153) -/

/-- What the carriage CRC covers beside the data (06 Table 06-2). -/
structure CarryKey where
  enables : Mask
  dpa : Nat
  holder : Holder
  direction : Byte
  deriving DecidableEq, Repr

def dirIn : Byte := 1
def dirOut : Byte := 2
def dirFerry : Byte := 3

/-- The 80-byte input of Table 06-2: bytes that the access does not enable enter as zero. -/
def carriageInput (d : Line) (k : CarryKey) : List Byte :=
  ((List.range 64).map fun i => if k.enables.getLsbD i then lineByte d i else 0) ++ toBytes k.enables 8 ++
  toBytes (BitVec.ofNat 40 (k.dpa / 64 * 64)) 5 ++ toBytes (k.holder.setWidth 16 : BitVec 16) 2 ++ [k.direction]

/-- The carriage CRC of a line (06:R153). -/
def carriageCrc (d : Line) (k : CarryKey) : Word := crc32c (carriageInput d k)

/-- CRC-32C of an error pattern: zero initial value and no final XOR (06:R152). -/
def crc32Patch (l : List Byte) : Word := l.foldl (fun c b => iter crc32Bit 8 (c ^^^ b.setWidth 32)) 0

/-- The carriage CRC that a hop computes over a line as read, patched by the correction `e` that decoding the old check found (06:R152). -/
def carriagePatched (asRead e : Line) (k : CarryKey) : Word :=
  carriageCrc asRead k ^^^ crc32Patch (((List.range 64).map fun i => if k.enables.getLsbD i then lineByte e i else 0) ++ List.replicate 16 0)

/-- The line as it arrives at a hop. -/
def carryLine (c : Carry) (d : Line) : Line := d ^^^ c.data

/-- The old check of a hop whose old check is the carriage CRC: the CRC that the line set out with equals the one over what arrives. -/
def carryOk (c : Option Carry) (crc : Word) (d : Line) (k : CarryKey) : Bool :=
  match c with
  | none => true
  | some c =>
    crc == carriageCrc (carryLine c d)
      ⟨k.enables ^^^ c.enables, (BitVec.ofNat 40 k.dpa ^^^ c.dpa).toNat, k.holder ^^^ c.holder, k.direction⟩

/-- What a line holds after a hop that passed. -/
def carried (c : Option Carry) (d : Line) : Line := match c with
  | none => d
  | some c => carryLine c d

/-- The fabric's effect on line i of a tile transfer. -/
def moveOf (l : List (Fin 64 × Carry)) (i : Nat) : Option Carry := (l.find? fun p => p.1.val == i).map (·.2)

/-! ### LZ4 blocks (05:R133, R134) -/

/-- One sequence: literals, then a match; the last of a block holds literals only. -/
structure Lz4Seq where
  lits : List Byte
  /-- offset and length of the match -/
  copy : Option (Nat × Nat)
  deriving DecidableEq, Repr

/-- The bytes that extend a length: each 255 goes on. None where the block ends inside. -/
def lz4Ext : List Byte → Nat → Option (Nat × List Byte)
  | [], _ => none
  | b :: t, n => if b = 255 then lz4Ext t (n + 255) else some (n + b.toNat, t)

/-- A length from its 4-bit field. -/
def lz4Len (nibble : Nat) (l : List Byte) : Option (Nat × List Byte) :=
  if nibble = 15 then lz4Ext l 15 else some (nibble, l)

/-- Split a block into its sequences; the fuel is the block's length. -/
def lz4Parse : Nat → List Byte → Option (List Lz4Seq)
  | 0, _ => none
  | _ + 1, [] => some []
  | n + 1, tok :: t =>
    match lz4Len (tok.toNat / 16) t with
    | none => none
    | some (ll, t) =>
      if t.length < ll then none
      else
        match t.drop ll with
        | [] => some [⟨t, none⟩]
        | [_] => none
        | lo :: hi :: t' =>
          match lz4Len (tok.toNat % 16) t' with
          | none => none
          | some (ml, t'') =>
            match lz4Parse n t'' with
            | none => none
            | some ss => some (⟨t.take ll, some (lo.toNat + 256 * hi.toNat, ml + 4)⟩ :: ss)

/-- Copy n bytes from `off` back; the output is held last byte first. -/
def lz4Copy (off : Nat) : Nat → List Byte → List Byte
  | 0, out => out
  | n + 1, out => lz4Copy off n (lgetD out (off - 1) 0 :: out)

/-- Run the sequences. None for a zero offset or one that reaches before the start of the output. -/
def lz4Run : List Lz4Seq → List Byte → Option (List Byte)
  | [], out => some out
  | q :: ss, out =>
    let out := q.lits.reverse ++ out
    match q.copy with
    | none => lz4Run ss out
    | some (off, len) => if off = 0 || out.length < off then none else lz4Run ss (lz4Copy off len out)

/-- The decoder (05:R134): exactly the block's bytes are consumed, and exactly 4,096 bytes produced. -/
def lz4Decode (block : List Byte) : Option (List Byte) :=
  match lz4Parse (block.length + 1) block with
  | none => none
  | some ss =>
    match lz4Run ss [] with
    | none => none
    | some out => if out.length = 4096 then some out.reverse else none

/-- Where each match starts, with its offset. -/
def lz4Matches : List Lz4Seq → Nat → List (Nat × Nat)
  | [], _ => []
  | q :: ss, n =>
    let n := n + q.lits.length
    match q.copy with
    | none => lz4Matches ss n
    | some (off, len) => (n, off) :: lz4Matches ss (n + len)

/-- The conditions on a block that the device produces (05:R133), but for the tile that it decodes to. -/
def lz4Conforms (block : List Byte) : Bool :=
  match lz4Parse (block.length + 1) block with
  | none => false
  | some ss =>
    let ms := lz4Matches ss 0
    (ms.all fun m => decide (1 ≤ m.2) && decide (m.2 ≤ 4095) && decide (m.2 ≤ m.1) && decide (m.1 + 12 ≤ 4096)) &&
    (match ss.getLast? with
     | some q => q.copy.isNone && decide (5 ≤ q.lits.length)
     | none => false)

/-- A conforming block of the tile whose 64 lines are all poisoned: 8 bytes 0xFF, then zeros. The choice of matches is the model's (log
entry 63). -/
def lz4AllPoison : List Byte :=
  [0x9F] ++ List.replicate 8 0xFF ++ [0x00] ++ [0x01, 0x00] ++ List.replicate 15 0xFF ++ [0xEE] ++ [0x50, 0, 0, 0, 0, 0]

/-! ### The page BCH (07:R172-R175) -/

/-- Multiply by x modulo the primitive polynomial 0x1100B. -/
def gfX (a : BitVec 16) : BitVec 16 := if a.getLsbD 15 then (a <<< 1) ^^^ 0x100B else a <<< 1

/-- Multiply in GF(2^16). -/
def gfMul (a b : BitVec 16) : BitVec 16 :=
  (List.range 16).foldl (fun acc i => if b.getLsbD (15 - i) then gfX acc ^^^ a else gfX acc) 0

/-- α^k. -/
def alphaPow (k : Nat) : BitVec 16 :=
  let k := k % 65535
  (List.range 16).foldl (fun acc i => let sq := gfMul acc acc; if k.testBit (15 - i) then gfX sq else sq) 1

/-- Multiply a polynomial over GF(2^16), lowest coefficient first, by (x + r). -/
def polyRoot (p : List (BitVec 16)) (r : BitVec 16) : List (BitVec 16) :=
  (List.zip (0 :: p) (p.map (gfMul r) ++ [0])).map fun (a, b) => a ^^^ b

/-- The minimal polynomial of α^i as a bit polynomial: the product over the sixteen conjugates. -/
def minPoly (i : Nat) : Nat :=
  let p := (List.range 16).foldl (fun p j => polyRoot p (alphaPow (i * 2 ^ j))) [1]
  ((List.range 17).zip p).foldl (fun n (k, c) => if c = 0 then n else n + 2 ^ k) 0

/-- The product of bit polynomials, the second of degree at most 16. -/
def clMul (a b : Nat) : Nat := (List.range 17).foldl (fun n i => if b.testBit i then n ^^^ (a <<< i) else n) 0

/-- The generator of strength t: the least common multiple of the minimal polynomials of α^1, α^3, ..., α^(2t − 1), which are distinct
(07:R172 gives the degree 16t). -/
def bchGen (t : Nat) : Nat := (List.range t).foldl (fun g i => clMul g (minPoly (2 * i + 1))) 1

/-- Codeword length in bits (07:R172). -/
def bchLen (t : Nat) : Nat := 33664 + 16 * t

/-- The bits of bytes, bit 7 of each byte first (07:R173). -/
def msbBits (l : List Byte) : List Bool := l.flatMap fun b => (List.range 8).map fun i => b.getLsbD (7 - i)

/-- The remainder of m(x) · x^(16t) divided by g(x). -/
def bchRem (t : Nat) (msg : List Bool) : Nat :=
  let g := bchGen t % 2 ^ (16 * t)
  msg.foldl (fun r b => let r' := (r * 2) % 2 ^ (16 * t); if xor (r.testBit (16 * t - 1)) b then r' ^^^ g else r') 0

/-- The parity bytes (07:R173): the coefficient of x^(16t − 1) is parity byte 0, bit 7. -/
def bchParity (t : Nat) (msg : List Byte) : List Byte :=
  let r := bchRem t (msbBits msg)
  (List.range (2 * t)).map fun i => BitVec.ofNat 8 (r >>> (8 * (2 * t - 1 - i)))

/-- The cells of a set of positions after those of another are inverted too. -/
def symDiff (a b : List Nat) : List Nat := (a.filter fun x => !b.contains x) ++ b.filter fun x => !a.contains x

/-- The bits at these positions, the first being the coefficient of x^(n − 1), form a codeword: g has the roots α^1, α^3, ..., α^(2t − 1). -/
def bchZero (t : Nat) (pos : List Nat) : Bool :=
  (List.range t).all fun i => pos.foldl (fun (x : BitVec 16) p => x ^^^ alphaPow ((2 * i + 1) * (bchLen t - 1 - p))) 0 == 0

/-- The decoder (07:R175) on a stored codeword of which the positions `errs` read inverted: the positions left inverted after it, and
whether it corrected; none where it reports the page uncorrectable. `found` is another codeword's distance where the decoder finds one. -/
def bchDecode (t : Nat) (errs : List Nat) (found : Option (List Nat)) : Option (List Nat × Bool) :=
  let errs := errs.filter fun p => decide (p < bchLen t)
  if errs.length ≤ t then some ([], !errs.isEmpty)
  else
    match found with
    | none => none
    | some l =>
      let rest := symDiff errs l
      if decide (l.length ≤ t) && decide (l.Nodup) && (l.all fun p => decide (p < bchLen t)) && bchZero t rest then some (rest, true) else none

/-! ### BCH test vectors (07:R189) -/

/-- One step of the PRBS-31 generator x^31 + x^28 + 1: the new bit is its output (log entry 64). -/
def prbs31 (r : BitVec 31) : Bool × BitVec 31 :=
  let b := r.getLsbD 30 ^^ r.getLsbD 27
  (b, (r <<< 1) ||| (BitVec.ofBool b).setWidth 31)

/-- n bytes of the generator, bit 7 of each first. -/
def prbsBytes : Nat → BitVec 31 → List Byte
  | 0, _ => []
  | n + 1, r =>
    let (v, r') := (List.range 8).foldl (fun (acc : Byte × BitVec 31) _ =>
      let (b, r) := prbs31 acc.2
      ((acc.1 <<< 1) ||| (BitVec.ofBool b).setWidth 8, r)) (0, r)
    v :: prbsBytes n r'

/-- The vector message: data and directory bytes. -/
def bchMessage : List Byte := prbsBytes 4208 (BitVec.allOnes 31)

/-- The error positions of a vector of j errors at strength t. -/
def bchVector (t j : Nat) : List Nat := (List.range j).map fun i => (i * 4099 + t) % bchLen t

/-- The strengths of Table 07-7. -/
def strengths : List Nat := [8, 16, 24, 32, 40, 48, 56, 64, 72]

/-! ### Self-test vectors (07:R188, R189) -/

/-- The tests of Table 07-10 in order: BC-WALK, BC-EXH, BC-FOLD, BCH-VEC, CRC-KAT. The class runs the test. -/
def runsTest (cls test : Nat) : Bool := if cls < 3 then decide (test < 3) else if cls = 3 then test == 3 else test == 4

/-- Vectors of a test. -/
def vectorCount : Nat → Nat
  | 0 => 11
  | 1 => 188416
  | 2 => 33
  | 3 => 27
  | _ => 1

/-- Bits that a BCH engine puts out for a vector: the parity, and two of the outcome. -/
def bchOutBits (t : Nat) : Nat := 16 * t + 2

/-- Bits that an engine puts out for a vector of a test. -/
def outBits (test vector : Nat) : Nat := match test with
  | 0 => 13
  | 1 => 10
  | 2 => 2
  | 3 => bchOutBits (lgetD strengths (vector / 3) 8)
  | _ => 64

def ByteClass.code : ByteClass → Nat
  | .clean => 0
  | .corrected => 1
  | .addrFault => 2
  | .double => 3

/-- The bits that pattern k of BC-EXH inverts: none, one of 13, or one of 78 pairs. -/
def exhFlip (k : Nat) : Code13 :=
  let pairs : List (Nat × Nat) := (List.range 13).flatMap fun i => (List.range i).map fun j => (j, i)
  if k = 0 then 0 else if k ≤ 13 then 1 <<< (k - 1) else match pairs[k - 14]? with
    | some (i, j) => (1 <<< i) ||| (1 <<< j)
    | none => 0

/-- What a sound engine puts out for a vector: the byte-code word; the class with the data of a word not beyond correction; the class; the parity
with the outcome 0 clean, 1 corrected, 2 bounded distance; the CRC. -/
def vectorOut (cls test vector : Nat) : Nat :=
  match test with
  | 0 => (if vector < 8 then encByte 0 (1 <<< vector) else encByte (1 <<< (vector - 8)) 0).toNat
  | 1 =>
    let d : Byte := BitVec.ofNat 8 (vector / 736)
    let f : BitVec 3 := BitVec.ofNat 3 (vector / 92)
    let (c, _, x) := decByte f (encByte f d ^^^ exhFlip (vector % 92))
    c.code + (if c = .double then 0 else 4 * x.toNat)
  | 2 =>
    if vector < 32 then (decByte (lineFold (2 ^ vector)) (encByte 0 0)).1.code
    else match (decLine 0 ((List.range 64).map fun i => encByte 0 0 ^^^ (if i < 8 then 1 else 0))).cls with
      | .addrFault => 2
      | _ => 0
  | 3 =>
    let t := lgetD strengths (vector / 3) 8
    bchRem t (msbBits bchMessage) * 4 + vector % 3
  | _ => if cls = 4 then (crc32c ("123456789".toUTF8.toList.map fun b => b.toBitVec)).toNat
         else (crc64 ("123456789".toUTF8.toList.map fun b => b.toBitVec)).toNat

/-- What an engine under test puts out: a sound one's output with the inverted bits; a bit beyond the output's width changes nothing, so that the
output differs from a sound one's exactly where `wrong` modulo the width does not vanish (07:R190). -/
def EngineFault.out (f : EngineFault) : Nat :=
  vectorOut f.cls.val f.test.val f.vector ^^^ (f.wrong % 2 ^ outBits f.test.val f.vector)

/-! ### The page image (05:R127, R140, R141) -/

/-- The header's piece flags byte (05 Table 05-4). -/
def Piece.flags (p : Piece) : Nat := (match p.poisonL with | some l => 128 + l | none => 0) + bbit p.tail 6

/-- The piece word (05 Table 05-5). -/
def Piece.word (p : Piece) : Nat := p.tile % 2 ^ 26 + p.first % 8 * 2 ^ 26 + (p.count + 7) % 8 * 2 ^ 29

/-- The page directory, spare bytes 0-111 (05 Tables 05-3 to 05-5). A charter page's holds magic, t and generation only (18:R441). -/
def PageImg.directory (x : PageImg) : List Byte :=
  let n := x.dir.length
  let smap := x.dir.foldl (fun m p => m ||| ((2 ^ p.count - 1) <<< p.first)) 0
  [x.magic, BitVec.ofNat 8 x.t, BitVec.ofNat 8 (x.cls % 8 + 16 * n), BitVec.ofNat 8 smap] ++ toBytes x.gen 4 ++
  ((List.range 8).map fun k => BitVec.ofNat 8 ((x.dir[k]?.map Piece.flags).getD 0)) ++
  (List.range 8).flatMap fun k => match x.dir[k]? with
    | some p => toBytes p.crc 8 ++ toBytes (BitVec.ofNat 32 p.word) 4
    | none => List.replicate 12 0

/-- Read a directory back from its bytes. -/
def imgOf (l : List Byte) (data : List (Nat × Line)) : PageImg :=
  let at' (o n : Nat) : Nat := (List.range n).foldl (fun acc i => acc + (lgetD l (o + i) 0).toNat * 256 ^ i) 0
  let cc := at' 2 1
  { magic := BitVec.ofNat 8 (at' 0 1), t := at' 1 1, cls := cc % 8, gen := BitVec.ofNat 32 (at' 4 4), data := data
    dir := (List.range (min 8 (cc / 16))).map fun k =>
      let f := at' (8 + k) 1
      let w := at' (24 + 12 * k) 4
      ⟨w % 2 ^ 26, BitVec.ofNat 64 (at' (16 + 12 * k) 8), w / 2 ^ 26 % 8, w / 2 ^ 29 + 1, f.testBit 6, if f.testBit 7 then some (f % 64) else none⟩ }

/-- The 4,096 data bytes; lines not listed are zero (05:R138). -/
def PageImg.dataBytes (x : PageImg) : List Byte := (List.range 64).flatMap fun i => toBytes (tgetD x.data i 0) 64

/-- The message of the page's codeword (05:R140, 07:R173). -/
def PageImg.message (x : PageImg) : List Byte := x.dataBytes ++ x.directory

/-- The 256 B spare area (05 Table 05-3): directory, parity of the page's strength, reserved bytes zero. -/
def PageImg.spare (x : PageImg) : List Byte :=
  (x.directory ++ bchParity x.t x.message ++ List.replicate 144 0).take 256

/-- The 4,352 bytes that programming the image intends (05:R127). -/
def PageImg.bytes (x : PageImg) : List Byte := x.dataBytes ++ x.spare

/-- A preset page, all zero (05:R139): what a read of one decodes to. -/
def PageImg.preset : PageImg := ⟨0, 0, 0, 0, [], []⟩

/-- The image with the bits at these codeword positions inverted; positions in the parity change nothing that is read. -/
def PageImg.flip (x : PageImg) (pos : List Nat) : PageImg :=
  if pos.isEmpty then x
  else
    let bit (p : Nat) : Nat := 7 - p % 8
    let data := (pos.filter fun p => decide (p < 32768)).foldl (fun d p =>
      let v := tgetD d (p / 512) (0 : Line) ^^^ ((1 : Line) <<< (p / 8 % 64 * 8 + bit p))
      tput 0 d (p / 512) v) x.data
    let dir := (pos.filter fun p => decide (32768 ≤ p) && decide (p < 33664)).foldl (fun (d : List Byte) p =>
      d.set (p / 8 - 4096) (lgetD d (p / 8 - 4096) 0 ^^^ (1 <<< bit p))) x.directory
    imgOf dir data

end Sys2Proof.Machine
end

