-- ==== Sys2Proof/Machine/Gates.lean ====
section
/-! DEFINITION. The cadastre: holder resolution, parcels, the gate lookup and what a failing part does (spec/10). -/

namespace Sys2Proof.Machine

open Sys2Proof

/-! ### Identities (10:R246, R248-R250) -/

inductive Level where
  | steward
  | warden
  | holder
  deriving DecidableEq, Repr

def levelOf (h : Holder) : Level :=
  if h = 0 then .steward else if h = 0xFFD || h = 0xFFE then .warden else .holder

def pathHolder : Path → Holder
  | .strait => 0xFFE
  | .mailbox => 0xFFD

/-- CAD_FAULT_INFO.SOURCE of a warden path (10 Table 10-12). -/
def pathSource : Path → Byte
  | .strait => 2
  | .mailbox => 3

/-! HOLDER entry fields (10 Table 10-3). -/
def hValid (e : Entry) : Bool := e.getLsbD 0
def hLock (e : Entry) : Bool := e.getLsbD 1
def hKind (e : Entry) : Bool := e.getLsbD 2
def hPort (e : Entry) : Nat := bits e 3 1
def hGmask (e : Entry) : Nat := bits e 8 4
def hSpid (e : Entry) : Nat := bits e 16 12
def hHolder (e : Entry) : Nat := bits e 32 12
/-- The groups the entry marks in use, ascending by field. -/
def hGroups (e : Entry) : List Nat := (List.range 4).filterMap fun k => if e.getLsbD (8 + k) then some (fld e (6 + k) 1) else none

/-- The holder ID of a request (10:R249). -/
def resolve (tbl : List (Nat × Entry)) (port : Port) (spid : Option (BitVec 12)) : Holder :=
  let hit (f : Entry → Bool) : Option Entry := (tbl.find? fun p => hValid p.2 && hPort p.2 == port.val && f p.2).map (·.2)
  let exact := match spid with
    | some s => hit fun e => hKind e && hSpid e == s.toNat
    | none => none
  match exact.or (hit fun e => !hKind e) with
  | some e => BitVec.ofNat 12 (hHolder e)
  | none => 0xFFF

/-- Holder h is a member of group g (10:R250). -/
def inGroup (tbl : List (Nat × Entry)) (h g : Nat) : Bool :=
  tbl.any fun p => hValid p.2 && hHolder p.2 == h && (hGroups p.2).contains g

/-! PARCEL entry fields (10 Table 10-6). -/
def pStart (e : Entry) : Nat := fld e 0 5
def pEnd (e : Entry) : Nat := fld e 5 5
def pGate (e : Entry) : Nat := bits e 80 3
def pValid (e : Entry) : Bool := e.getLsbD 88
def pLock (e : Entry) : Bool := e.getLsbD 89
def pSealed (e : Entry) : Bool := e.getLsbD 90
def pMode (e : Entry) : Nat := bits e 92 2
def pRights (e : Entry) : Nat := bits e 96 9
def pMatch (e : Entry) : Nat := fld e 14 2
def pKey (e : Entry) : Nat := fld e 16 1

/-- Rights: 0 R, 1 W, 2 X. The bit of a right at a level. -/
def rightBit (l : Level) (r : Nat) : Nat :=
  (match l with | .steward => 0 | .warden => 3 | .holder => 6) + r

def pGrants (e : Entry) (l : Level) (r : Nat) : Bool := (pRights e).testBit (rightBit l r)

/-- Two parcels' ranges meet. -/
def pCovers (e : Entry) (gate addr : Nat) : Bool :=
  pValid e && pGate e == gate && decide (pStart e ≤ addr) && decide (addr ≤ pEnd e)

/-- A HOLDER-level master matches a parcel (10:R255). -/
def pMatches (tbl : List (Nat × Entry)) (e : Entry) (h : Nat) : Bool :=
  match pMode e with
  | 0 => decide (1 ≤ h) && decide (h ≤ 0xFFC)
  | 1 => h == pMatch e % 0x1000
  | 2 => inGroup tbl h (pMatch e % 256)
  | _ => false

/-! ### Lookup (10:R257, R545) -/

def cNoParcel : BitVec 4 := 1
def cNotMatched : BitVec 4 := 2
def cNoRight : BitVec 4 := 3
def cUnbacked : BitVec 4 := 4
def cWitnessHold : BitVec 4 := 5
def cDoubleMatch : BitVec 4 := 6
def cIndexError : BitVec 4 := 7

/-- The default map (10 Table 10-7). -/
def defaultGrants (l : Level) (gate right : Nat) : Bool :=
  match l with
  | .steward => decide (right < 2)
  | .warden => decide (right < 2) || (right == 2 && decide (gate ≤ 1))
  | .holder => false

/-- A gate-0 address that reaches no memory (02:R57, 11:R278). -/
def unbacked0 (scratchMiB addr : Nat) : Bool :=
  if addr < 0x1000000 then decide (scratchMiB * 0x100000 ≤ addr)
  else decide (0x1001000 ≤ addr)

/-- The parcels in force; none before the recalled copy is loaded (10 Table 10-13). -/
def Cadastre.inForce (c : Cadastre) : List (Nat × Entry) := if c.loaded then c.inP else []
def Cadastre.holders (c : Cadastre) : List (Nat × Entry) := if c.loaded then c.inH else []

/-- The verdict on one 64 B part: none passes; otherwise the cause and the covering parcel (10:R257). -/
def State.verdict (s : State) (gate : Fin 5) (addr : Nat) (h : Holder) (right : Nat) : Option (BitVec 4 × Option Nat) :=
  let part := addr / 64 * 64
  let l := levelOf h
  let limited := s.md.restrict.versionLimited && right == 1 && (gate.val == 1 || gate.val == 2)
  if gate.val == 0 && unbacked0 s.t0.scratchMiB part then some (cUnbacked, none)
  else
    match s.cad.damage.find? fun d => d.1 == gate && d.2.1.toNat == part with
    | some d => some (if d.2.2 then cDoubleMatch else cIndexError, none)
    | none =>
      match s.cad.inForce.filter fun p => pCovers p.2 gate.val part with
      | [] =>
        if l = .holder then some (cNoParcel, none)
        else if defaultGrants l gate.val right && !limited then none
        else some (cNoRight, none)
      | [(i, e)] =>
        if l = .holder && !pMatches s.cad.holders e h.toNat then some (cNotMatched, some i)
        else if !pGrants e l right || limited then some (cNoRight, some i)
        else if l = .holder && right == 1 && (gate.val == 1 || gate.val == 2) && s.md.restrict.witnessSuspect then
          some (cWitnessHold, some i)
        else none
      | (_, _) :: _ => some (cDoubleMatch, none)

/-- A DOUBLE_MATCH or INDEX_ERROR at a gate with no reload pending sets ECC_UE and starts a reload (10:R258). -/
def State.startReload (s : State) (gate : Fin 5) : State :=
  if lgetD s.cad.reload gate.val false then s
  else
    let s := s.raise 3 0x22 srcDevice (pay [(16, 1, 4), (17, 1, gate.val)])
    { s with cad := { s.cad with reload := s.cad.reload.set gate.val true } }

/-- Look one part up; a failing part is a fault (10:R257, R258, R267, R268). The result says whether it passes. -/
def State.look (s : State) (gate : Fin 5) (addr : Nat) (h : Holder) (right : Nat) (kind : BitVec 3) (source : Byte) : Bool × State :=
  match s.verdict gate addr h right with
  | none => (true, s)
  | some (cause, parcel) =>
    let s := if cause = cDoubleMatch || cause = cIndexError then s.startReload gate else s
    (false, s.cadFault ⟨gate, source, BitVec.ofNat 40 (addr / 64 * 64), cause, kind, h, parcel⟩)

/-- Look up n parts from addr on; all must pass. Each failing part is a fault (10:R259). -/
def State.lookRun (s : State) (gate : Fin 5) (h : Holder) (right : Nat) (kind : BitVec 3) (source : Byte) :
    (addr : Nat) → (n : Nat) → Bool × State
  | _, 0 => (true, s)
  | addr, n + 1 =>
    let (ok, s1) := s.lookRun gate h right kind source (addr + 64) n
    let (ok1, s2) := s1.look gate addr h right kind source
    (ok1 && ok, s2)

/-- The covering parcel seals the part (10:R256): its key slot. -/
def State.sealKey (s : State) (gate : Fin 5) (addr : Nat) : Option Byte :=
  match s.cad.inForce.find? fun p => pCovers p.2 gate.val (addr / 64 * 64) with
  | some (_, e) => if pSealed e then some (BitVec.ofNat 8 (pKey e)) else none
  | none => none

/-- Gate 3 address of a table entry (10:R252). -/
def tableAddr (code index : Nat) : Nat := code * 0x1000000 + index * 0x40

end Sys2Proof.Machine
end

