-- ==== Sys2Proof/Machine/Store.lean ====
section
/-! DEFINITION. The benchmark store (spec/14): words, the program engine, counters, parameter pages, the event log ring and the
trace save sets. A word is addressed page * 128 + word. -/

namespace Sys2Proof.Machine

open Sys2Proof

/-! ### Words and pages (14:R339, R340) -/

abbrev SWords := List (Nat × SWord)

def swBlank (w : SWords) (a : Nat) : Bool := (tget w a).isNone
def swBad (w : SWords) (a : Nat) : Bool := match tget w a with
  | some x => decide (2 ≤ x.err)
  | none => false
/-- The value read: 0 for a blank word (14:R340). -/
def swVal (w : SWords) (a : Nat) : Word := match tget w a with
  | some x => x.val
  | none => 0

/-- Program words in order. -/
def swProgram (w : SWords) (l : List (Nat × Word)) : SWords := l.foldl (fun acc (a, v) => tset acc a ⟨v, 0⟩) w
/-- Preset n words from a on. -/
def swPreset (w : SWords) (a n : Nat) : SWords := w.filter fun p => decide (p.1 < a) || decide (a + n ≤ p.1)
/-- A word that still fails after the last attempt (14:R348). -/
def swFail (w : SWords) (a : Nat) : SWords := tset w a ⟨swVal w a, 2⟩

/-- The words of a run, as values. -/
def swRun (w : SWords) (a n : Nat) : List Word := (List.range n).map fun i => swVal w (a + i)
/-- A run of eight words as a table entry. -/
def swEntry (w : SWords) (a : Nat) : Entry := pack 256 ((List.range 8).map fun i => (4 * i, 4, (swVal w (a + i)).toNat))
def swAnyBad (w : SWords) (a n : Nat) : Bool := (List.range n).any fun i => swBad w (a + i)
def swAnyWritten (w : SWords) (a n : Nat) : Bool := (List.range n).any fun i => !swBlank w (a + i)
def swAllWritten (w : SWords) (a n : Nat) : Bool := (List.range n).all fun i => !swBlank w (a + i)

def wordBytes (l : List Word) : List Byte := l.flatMap fun v => toBytes v 4
/-- The words of an entry. -/
def entryWords (e : Entry) : List Word := (List.range 8).map fun i => e.extractLsb' (32 * i) 32

/-! ### The engine -/

/-- The page an operation concerns (14:R345). -/
def StoreOp.page : StoreOp → Nat
  | .pageProgram p _ => p
  | .autoPreset p _ => p
  | .pagePreset p => p
  | .mcount i _ _ => 256 + i / 16
  | .mcountNone i _ => 256 + i / 16
  | .refused p _ => p


/-- Appliance parameter pages (14 Table 14-2). -/
def appliancePage (p : Nat) : Bool := decide (24 ≤ p) && decide (p ≤ 39)
/-- The staging window (18:R458). -/
def stagingPage (p : Nat) : Bool := decide (24 ≤ p) && decide (p ≤ 32)

/-- What a program of one chunk will do (14:R343, R344). -/
def Store.planProgram (st : Store) (index : Nat) (chunk : Entry) : StoreOp :=
  let w := st.words
  let page := index / 16
  let a := index * 8
  let new := (List.range 8).zip (entryWords chunk) |>.map fun (i, v) => (a + i, v)
  if swAnyBad w a 8 then .refused page 0x0C
  else if !swAnyWritten w a 8 then .pageProgram page new
  else if !swBad w (page * 128) && (swVal w (page * 128)).getLsbD 0 then
    if swAnyBad w (page * 128) 128 then .refused page 0x0C
    else
      let old := (List.range 128).filterMap fun i =>
        let b := page * 128 + i
        if swBlank w b || (decide (a ≤ b) && decide (b < a + 8)) then none else some (b, swVal w b)
      .autoPreset page (sortKey (·.1) (old ++ new))
  else .refused page 0x0B

/-! ### Two-slot counters (14:R355-R359) -/

def slotAddr (i : Nat) (slot : Nat) : Nat := (256 + i / 16) * 128 + (i % 16) * 8 + slot * 4

/-- A slot is valid (14:R355). -/
def slotValid (w : SWords) (i slot : Nat) : Bool :=
  let a := slotAddr i slot
  swAllWritten w a 4 && !swAnyBad w a 4 && crc32c (wordBytes (swRun w a 3)) == swVal w (a + 3)

def slotGen (w : SWords) (i slot : Nat) : Word := swVal w (slotAddr i slot)
def slotValue (w : SWords) (i slot : Nat) : BitVec 64 := swVal w (slotAddr i slot + 2) ++ swVal w (slotAddr i slot + 1)

/-- Resolve a counter at the store's recall (14:R357). -/
def resolveCounter (w : SWords) (i : Nat) : MView :=
  let v0 := slotValid w i 0
  let v1 := slotValid w i 1
  if v0 && (!v1 || decide ((slotGen w i 1).toNat ≤ (slotGen w i 0).toNat)) then ⟨slotValue w i 0, slotGen w i 0, 1, v1⟩
  else if v1 then ⟨slotValue w i 1, slotGen w i 1, 2, v0⟩
  else if swAnyWritten w (slotAddr i 0) 8 then ⟨0, 0, 3, false⟩
  else ⟨0, 0, 0, false⟩

def Store.view (st : Store) (i : Nat) : MView := tgetD st.views i ⟨0, 0, 0, false⟩

/-- The read view of MCOUNT (14 Table 14-5). -/
def MView.entry (v : MView) : Entry := pack 256 [(0, 8, v.value.toNat), (8, 4, v.gen.toNat), (12, 1, v.state), (13, 1, bnat v.other)]

/-- Update a counter (14:R356): the slot that is not current is preset where written and programmed word by word. `fail` names a
word of the page that still fails; then the update is not acknowledged. -/
def Store.counterWrite (st : Store) (i : Nat) (v : BitVec 64) (fail : Option Nat) : Store × Bool :=
  let view := st.view i
  let slot := if view.state = 1 then 1 else 0
  let gen : Word := if view.state = 1 || view.state = 2 then view.gen + 1 else 1
  let a := slotAddr i slot
  let w := swPreset st.words a 4
  let l3 : List Word := [gen, v.extractLsb' 0 32, v.extractLsb' 32 32]
  let words := ((List.range 4).zip (l3 ++ [crc32c (wordBytes l3)])).map fun (k, x) => (a + k, x)
  match fail with
  | some f =>
    let b := (256 + i / 16) * 128 + f
    if decide (a ≤ b) && decide (b < a + 4) then
      ({ st with words := swFail (swProgram w (words.filter fun p => decide (p.1 ≤ b))) b }, false)
    else ({ st with words := swProgram w words, views := tset st.views i ⟨v, gen, slot + 1, view.state = 1 || view.state = 2⟩ }, true)
  | none => ({ st with words := swProgram w words, views := tset st.views i ⟨v, gen, slot + 1, view.state = 1 || view.state = 2⟩ }, true)

/-- What an MCOUNT write will do (14:R359); the entry holds the op and the operand. -/
def Store.planMcount (st : Store) (i : Nat) (e : Entry) : StoreOp :=
  let v := st.view i
  let opnd : BitVec 64 := e.extractLsb' 64 64
  let dmg := v.state = 3
  match fld e 0 1 with
  | 1 =>
    if dmg then .mcountNone i 0x0C
    else
      let inc := if opnd = 0 then 1 else opnd.toNat
      let n := min (2 ^ 64 - 1) (v.value.toNat + inc)
      if n = v.value.toNat then .mcountNone i 0 else .mcount i (BitVec.ofNat 64 n) false
  | 2 =>
    if dmg then .mcountNone i 0x0C
    else if v.value.toNat < opnd.toNat then .mcount i opnd false else .mcountNone i 0
  | 3 => if dmg then .mcount i opnd true else .mcountNone i 0
  | _ => .mcountNone i 0

/-! ### Device parameter pages (14:R353, Table 14-3) -/

def paramPage (k : Nat) (b : Bool) : Nat := if b then 16 + k else 8 + k

/-- A copy is valid (14:R353). -/
def paramValid (w : SWords) (k : Nat) (b : Bool) : Bool :=
  let a := paramPage k b * 128
  swAllWritten w a 128 && !swAnyBad w a 128 && crc32c (wordBytes (swRun w a 127)) == swVal w (a + 127)

/-- The copy that stands at store recall, with its generation (14:R353). -/
def paramStands (w : SWords) (k : Nat) : Option (Word × Bool) :=
  let ga := swVal w (paramPage k false * 128)
  let gb := swVal w (paramPage k true * 128)
  let a := paramValid w k false
  let b := paramValid w k true
  if a && (!b || decide (gb.toNat ≤ ga.toNat)) then some (ga, false)
  else if b then some (gb, true)
  else none

/-- The content words 1 to 126 of page k. -/
def State.paramContent (s : State) (k : Nat) : List Word :=
  let l : List Word := match k with
    | 0 => [s.trav.t1.period.setWidth 32, s.trav.t2.period.setWidth 32,
            BitVec.ofNat 32 (s.comp.ro.toNat * 2 ^ 20 + s.comp.inhibit.toNat * 2 ^ 10 + s.comp.caution.toNat),
            s.comp.warnThr.setWidth 32, s.tide.ceiling.setWidth 32, BitVec.ofNat 32 (bnat s.md.musterEn), s.pwr.portOff.setWidth 32]
    | 1 => [BitVec.ofNat 32 (bbit s.store.witSuspect 0 + bbit s.store.witExpired 1 + bbit s.store.witPass 2)]
    | 2 => (List.range 12).map fun i => s.store.seed.extractLsb' (32 * i) 32
    | _ => []
  l ++ List.replicate (126 - l.length) 0

/-- Update page k: the copy that does not stand (14:R353). A failing word leaves the previous copy in force. -/
def Store.paramWrite (st : Store) (k : Nat) (content : List Word) (fail : Option Nat) : Store :=
  let cur := lgetD st.params k none
  let (gen, copy) : Word × Bool := match cur with
    | some (g, b) => (g + 1, !b)
    | none => (1, false)
  let a := paramPage k copy * 128
  let body := gen :: content
  let all := body ++ [crc32c (wordBytes body)]
  let w := swProgram (swPreset st.words a 128) (((List.range 128).zip all).map fun (i, v) => (a + i, v))
  match fail with
  | some f => { st with words := swFail w (a + f) }
  | none => { st with words := w, params := st.params.set k (some (gen, copy)) }

/-- Ask for an update of page k; one that waits already carries the new value too (14:R354). -/
def State.persist (s : State) (k : Nat) : State :=
  if s.store.queue.contains (.param k) then s
  else { s with store := { s.store with queue := s.store.queue ++ [.param k] } }

/-- Queue a counter update. -/
def State.queueCounter (s : State) (i : Nat) (v : Nat) (causeway : Bool := false) : State :=
  { s with store := { s.store with queue := s.store.queue ++ [.counter i (BitVec.ofNat 64 v) causeway] } }

/-! ### Internal operations (14:R345, R346, R363, Table 14-8) -/

/-- 0 CAUSEWAY, 1 counter class, 3 parameter updates; event appends are 2. -/
def IntOp.rank : IntOp → Nat
  | .counter _ _ true => 0
  | .counter _ _ false => 1
  | .tracePreset => 1
  | .record _ _ _ _ _ => 1
  | .param _ => 3

/-- The first word of key slot k's record (14 Table 14-2). -/
def keyAddr (k : Nat) : Nat := (64 + k / 4) * 128 + k % 4 * 32

/-- A set's readable count of causeways (14:R364). -/
def traceCount (w : SWords) (set : Nat) : Option Word :=
  let a := (41 + 2 * set) * 128 + 127
  if swBlank w a || swBad w a then none else some (swVal w a)

/-- The newest set. -/
def newestSet (w : SWords) : Option Nat :=
  match traceCount w 0, traceCount w 1 with
  | some a, some b => some (if a.toNat < b.toNat then 1 else 0)
  | some _, none => some 0
  | none, some _ => some 1
  | none, none => none

/-- The set the next save uses. -/
def nextSet (w : SWords) : Nat := match newestSet w with
  | some 0 => 1
  | _ => 0

/-- The page of an internal operation; the first of the two that a trace set's preset concerns. -/
def Store.intPage (st : Store) : IntOp → Nat
  | .counter i _ _ => 256 + i / 16
  | .param k => paramPage k (match lgetD st.params k none with | some (_, b) => !b | none => false)
  | .tracePreset => 40 + 2 * nextSet st.words
  | .record k _ _ _ _ => keyAddr k / 128

/-- The engine runs an operation, a warden's or the device's own (14:R345). -/
def Store.busy (st : Store) : Bool := st.op.isSome || st.dev.isSome

/-- BMK_STAT.BUSY_PAGE: the page of the running operation. -/
def State.busyPage (s : State) : Nat := match s.store.op, s.store.dev with
  | some (op, _), _ => op.page
  | none, some (.append _) => 128 + s.elog.head / 16
  | none, some (.int o _) => s.store.intPage o
  | none, none => 0

/-- An internal operation of this rank may start now. -/
def State.mayStart (s : State) (rank : Nat) : Bool :=
  let st := s.store
  let held := match st.holdUntil with
    | some t => decide (s.now < t.toNat)
    | none => false
  st.ready && !st.busy && s.clk.run &&
  (rank == 0 || (!held && !s.md.restrict.fieldRo && s.md.mode ≠ .causeway)) &&
  st.queue.all (fun o => decide (rank ≤ o.rank) || (s.md.mode = .causeway && o.rank ≠ 0)) &&
  (decide (rank ≤ 2) || s.elog.queue.isEmpty)

/-- The first waiting operation that passes a test, taken out of the queue. -/
def takeFirst {α : Type} (f : α → Bool) : List α → Option (α × List α)
  | [] => none
  | x :: t => if f x then some (x, t) else match takeFirst f t with
    | some (y, r) => some (y, x :: r)
    | none => none

/-- The operation of this rank that starts next, if one may. -/
def State.nextInternal (s : State) (rank : Nat) : Option (IntOp × List IntOp) :=
  if s.mayStart rank then takeFirst (fun o : IntOp => o.rank == rank) s.store.queue else none

/-- An event append may start. -/
def State.appendDue (s : State) : Bool := s.mayStart 2 && s.elog.numbered && !s.elog.queue.isEmpty

/-- Records that an append started now programs: those that fit in the head page (14:R362, R363). -/
def State.appendCount (s : State) : Nat := min (16 - s.elog.head % 16) s.elog.queue.length

/-- The engine takes an operation of the queue; a parameter page takes the values of this moment. -/
def State.startInt (s : State) (o : IntOp) (rest : List IntOp) : State :=
  let image := match o with
    | .param k => s.paramContent k
    | _ => []
  { s with store := { s.store with queue := rest, dev := some (.int o image) } }

/-- The engine takes the next internal operation, where one may start: at the end of a cycle, so that a warden's command of the cycle goes
first (14:R345, R363). -/
def State.startInternal (s : State) : State :=
  match s.nextInternal 0, s.nextInternal 1 with
  | some (o, rest), _ => s.startInt o rest
  | none, some (o, rest) => s.startInt o rest
  | none, none =>
    if s.appendDue then { s with store := { s.store with dev := some (.append s.appendCount) } }
    else match s.nextInternal 3 with
      | some (o, rest) => s.startInt o rest
      | none => s

/-- A word failed after its reprograms (14:R348): ECC_UE and a STORE_WORD record. -/
def State.storeWordFailed (s : State) (page word : Nat) : State :=
  (s.flagHit 3).note 0x26 srcDevice (pay [(16, 2, page), (18, 1, word)])

/-- The end of an operation frees the engine and starts the hold-back of R346. -/
def State.engineFree (s : State) : State :=
  let st := s.store
  { s with store := { st with op := none, dev := none, hold := false,
                              holdUntil := if st.hold then some (s.clk.ts + 320000) else st.holdUntil } }

/-! ### The event log ring (14:R362, 20:R494, R496) -/

/-- Bytes 0-27 of an event record. -/
def EvRec.body (r : EvRec) : BitVec 224 :=
  pack 224 [(0, 4, r.seq.toNat), (4, 6, r.ts.toNat), (10, 1, r.code.toNat), (11, 1, r.flags.toNat), (12, 2, r.lost.toNat),
            (14, 2, r.source.toNat), (16, 12, r.payload.toNat)]

/-- The 32 B of an event record, crc included (20 Table 20-4). -/
def EvRec.entry (r : EvRec) : Entry := crc32c (toBytes r.body 28) ++ r.body

/-- The chunk of the ring is a record whose CRC matches: its seq (20:R496). -/
def evSeqAt (w : SWords) (i : Nat) : Option Word :=
  let a := 128 * 128 + i * 8
  if swAllWritten w a 8 && !swAnyBad w a 8 && crc32c (wordBytes (swRun w a 7)) == swVal w (a + 7) then some (swVal w a) else none

/-- Chunks of the ring that hold a written word. -/
def evChunks (w : SWords) : List Nat :=
  ((w.filter fun p => decide (16384 ≤ p.1) && decide (p.1 < 32768)).map fun p => (p.1 - 16384) / 8).dedup

/-- The newest record: its seq and chunk (20:R496). -/
def evNewest (w : SWords) : Option (Word × Nat) :=
  (evChunks w).foldl (fun best i => match evSeqAt w i, best with
    | some q, some (b, j) => if (q - b).toNat < 2 ^ 31 && q ≠ b then some (q, i) else some (b, j)
    | some q, none => some (q, i)
    | none, b => b) none

/-- The chunk the next append uses: the lowest blank chunk of the head's page after the head, or chunk 0 of the next page. -/
def evHead (w : SWords) : Nat :=
  match evNewest w with
  | none => 0
  | some (_, i) =>
    let rest := (List.range (15 - i % 16)).map fun k => i + 1 + k
    match rest.find? fun j => !swAnyWritten w (16384 + j * 8) 8 with
    | some j => j
    | none => ((i / 16 + 1) * 16) % 2048

/-- Program the first n queued records into the head page (14:R362, R363). -/
def State.appendEvents (s : State) (n : Nat) (fail : Option Nat) : State :=
  let h := s.elog.head
  let page := 128 + h / 16
  let w := if h % 16 = 0 then swPreset s.store.words (page * 128) 128 else s.store.words
  let recs := (List.range n).zip (s.elog.queue.take n)
  let l := recs.flatMap fun (k, r) => ((List.range 8).zip (entryWords r.entry)).map fun (i, v) => (16384 + (h + k) * 8 + i, v)
  let w := swProgram w l
  let s1 := { s with elog := { s.elog with queue := s.elog.queue.drop n, head := (h + n) % 2048 },
                     store := { s.store with words := w } }
  match fail with
  | some f =>
    if (l.any fun p => p.1 == page * 128 + f) then
      ({ s1 with store := { s1.store with words := swFail w (page * 128 + f) } }).storeWordFailed page f
    else s1
  | none => s1

/-! ### Trace save sets (14:R364, 20:R497) -/

/-- The 32 newest ring entries, oldest first; zero records at the start where fewer are written. -/
def Lighthouse.newest32 (l : Lighthouse) : List Entry :=
  (List.range 32).map fun k => tgetD l.ring ((l.index.toNat + 8160 + k) % 8192) 0

/-- Save the trace (14:R364); a failing word is counted from the set's first. -/
def State.saveTrace (s : State) (count : Word) (fail : Option Nat) : State :=
  let set := nextSet s.store.words
  let a := (40 + 2 * set) * 128
  let ws := (s.lh.newest32.flatMap entryWords).take 255 ++ [count]
  let w := swProgram (swPreset s.store.words a 256) (((List.range 256).zip ws).map fun (i, v) => (a + i, v))
  match fail with
  | some f => ({ s with store := { s.store with words := swFail w (a + f) } }).storeWordFailed (40 + 2 * set + f / 128) (f % 128)
  | none => { s with store := { s.store with words := w } }

/-- Preset the idle set (14:R364). -/
def State.presetTraceSet (s : State) : State :=
  { s with store := { s.store with words := swPreset s.store.words ((40 + 2 * nextSet s.store.words) * 128) 256 } }

/-! ### Ending a warden's operation (14:R348, R349) -/

/-- Apply an operation: the new store and its code; a failing word is named. -/
def State.applyOp (s : State) (op : StoreOp) (fail : Option Nat) : State × Byte :=
  let st := s.store
  let failed (s : State) : State := match fail with
    | some f => ({ s with store := { s.store with words := swFail s.store.words (op.page * 128 + f) } }).storeWordFailed op.page f
    | none => s
  let hits (l : List (Nat × Word)) : Bool := match fail with
    | some f => l.any fun p => p.1 == op.page * 128 + f
    | none => false
  match op with
  | .pageProgram _ l =>
    let s := { s with store := { st with words := swProgram st.words l } }
    (if hits l then failed s else s, 0)
  | .autoPreset p l =>
    let s := { s with store := { st with words := swProgram (swPreset st.words (p * 128) 128) l } }
    (if hits l then failed s else s, 0)
  | .pagePreset p => ({ s with store := { st with words := swPreset st.words (p * 128) 128 } }, 0)
  | .mcount i v _ =>
    let (st', ok) := st.counterWrite i v fail
    let s := { s with store := st' }
    if ok then (s, 0) else (s.storeWordFailed op.page (fail.getD 0), 0x0C)
  | .mcountNone _ c => (s, c)
  | .refused _ c => (s, c)

/-- End a warden's operation: apply it, set LAST, BMK_DONE with its record, and free the engine. -/
def State.endOp (s : State) (op : StoreOp) (fail : Option Nat) : State × Byte :=
  let (s, code) := s.applyOp op fail
  let s := { s with store := { s.store with last := code } }
  let s := s.raise 11 0x50 srcDevice (pay [(16, 2, op.page), (18, 1, code.toNat)])
  (s.engineFree, code)

/-- A warden command that ends at once with BUSY (14:R345, R346). -/
def State.storeBusy (s : State) : State := { s with store := { s.store with hold := true, last := 0x0A } }

/-- A warden's operation starts, whatever waits for it. -/
def State.startOp (s : State) (op : StoreOp) (w : StoreWait) : State := { s with store := { s.store with op := some (op, w) } }

end Sys2Proof.Machine
end

