-- ==== Sys2Proof/Machine/Fast.lean ====
section
/-! DEFINITION. The fast tier: raw words at levelled positions, error counting, reads, the write queue, verify and corrections
(spec/07, 08, 06). -/

namespace Sys2Proof.Machine

open Sys2Proof

/-! ### Error counters (07:R185, R186, 08 Tables 08-6, 08-7) -/

def BankErr.zero : BankErr := ⟨0, 0, 0, 0, 0, 0, 0, 0, 0, 0, 0, 0, 0, 0, 0⟩
def WearCnt.zero : WearCnt := ⟨0, 0, 0, 0, 0⟩

def State.bankErr (s : State) (b : Nat) : BankErr := tgetD s.err.banks b .zero
/-- Add to a bank's counters and stamp last_ts (08 Table 08-6); the cycle keeps what it adds (13:R328). -/
def State.setBank (s : State) (b : Nat) (f : BankErr → BankErr) : State :=
  let stamp (e : BankErr) : BankErr := { f e with lastTs := s.clk.ts.setWidth 32 }
  let cyc := s.evt.cyc
  { s with
    err := { s.err with banks := tput .zero s.err.banks b (stamp (s.bankErr b)) }
    evt := { s.evt with cyc := { cyc with bankInc := tset cyc.bankInc b (stamp (tgetD cyc.bankInc b .zero)) } } }
def State.wearOf (s : State) (b : Nat) : WearCnt := tgetD s.err.wear b .zero
def State.setWear (s : State) (b : Nat) (f : WearCnt → WearCnt) : State :=
  { s with err := { s.err with wear := tput .zero s.err.wear b (f (s.wearOf b)) } }

/-! ### Pulse steps and the trim's second (08:R208-R210) -/

/-- The pulse step in force of a bank: base for its die's temperature, trim and field, within 0 to 15 (08:R209). -/
def State.pulseStep (s : State) (b : Nat) : Int :=
  let die := if b < 128 then 1 + b / 32 else 5 + (b - 128) / 32
  let base : Int := match lgetD s.comp.bands die 0 with
    | 0 => 8
    | 1 => 6
    | 2 => 4
    | _ => 3
  let field : Int := if decide (b < 128) && decide (2 ≤ s.comp.level.toNat) then 3 else 0
  max 0 (min 15 (base + (s.bankErr b).trim + field))

/-- The steps of one write's pulses: retry k is 2k above the first, at most 15, and the sequence keeps the steps it began with (08:R208). -/
def pulseSteps (first retries : Nat) : List Nat := (List.range (retries + 1)).map fun k => min 15 (first + 2 * k)

/-- A write's pulse sequence is driven in a bank. -/
def State.pulse (s : State) (b retries : Nat) : State :=
  { s with err := { s.err with pulses := pulseSteps (s.pulseStep b).toNat retries } }

/-- The second that the timestamp lies in (log entry 66). -/
def State.second (s : State) : Nat := s.now / 1600000000

/-- Counts of an earlier second become those of the second before, or nothing. -/
def BankErr.roll (e : BankErr) (now : Nat) : BankErr :=
  if e.sec = now then e
  else { e with sec := now, secPrograms := 0, secRetries := 0,
                prevPrograms := if e.sec + 1 = now then e.secPrograms else 0, prevRetries := if e.sec + 1 = now then e.secRetries else 0 }

/-- Programs and retries of a bank enter the present second (08:R210). -/
def State.countSecond (s : State) (b n retries : Nat) : State :=
  let e := (s.bankErr b).roll s.second
  { s with err := { s.err with banks := tput .zero s.err.banks b
                                 { e with secPrograms := e.secPrograms + n, secRetries := e.secRetries + retries } } }

/-- One corrected line or page event (07 Table 07-8, R186). -/
def State.countCe (s : State) (bank : Option Nat) : State :=
  let n := satAdd s.err.ce 1
  let s1 := { s with err := { s.err with ce := n } }
  let s2 := match bank with
    | some b => s1.setBank b fun e => { e with corrections := satAdd e.corrections 1 }
    | none => s1
  if n ≠ s.err.ce && (n = 1 || n.toNat % 4096 == 0) then
    s2.raise 2 0x20 (match bank with | some b => srcBank b | none => srcDevice) (pay [(16, 4, n.toNat)])
  else s2

/-- One uncorrectable event; `addr` when it is an address fault. The flag is the caller's (06:R161). -/
def State.countUe (s : State) (bank : Option Nat) (addr : Bool) : State :=
  let s1 := { s with err := { s.err with ue := satAdd s.err.ue 1,
                                         addrFault := if addr then satAdd s.err.addrFault 1 else s.err.addrFault } }
  match bank with
  | some b => s1.setBank b fun e =>
      { e with uncorrectable := satAdd e.uncorrectable 1, addrFaults := if addr then satAdd e.addrFaults 1 else e.addrFaults }
  | none => s1

/-- A custody failure that sets ECC_UE (06:R161): hop, DPA, holder, and the source that names the actor. -/
def State.custody (s : State) (hop : Nat) (source : BitVec 16) (dpa : Nat) (h : Holder) : State :=
  s.raise 3 0x21 source (pay [(16, 1, hop), (17, 5, dpa), (22, 2, h.toNat)])

/-- As custody, naming a tile. -/
def State.custodyTile (s : State) (hop : Nat) (source : BitVec 16) (tile : Nat) (h : Holder) : State :=
  s.raise 3 0x21 source (pay [(16, 1, hop), (17, 4, tile), (22, 2, h.toNat)])

/-- An uncorrectable event found by the traverse or the verify lane (20 Table 20-6 code 0x22). -/
def State.eccUe (s : State) (kind : Nat) (source : BitVec 16) (x : Nat) : State :=
  s.raise 3 0x22 source (pay [(16, 1, kind), (17, 4, x)])

/-! ### Rotating-gap positions (08:R211, R213) -/

def gapN : Nat := 65536
def Group.zero : Group := ⟨0, gapN, 0⟩
def State.group (s : State) (g : Nat) : Group := tgetD s.t1.groups g .zero

/-- The position of logical line q in a levelled set of n lines. -/
def gapPos (n start gap q : Nat) : Nat :=
  let p := (q + start) % n
  if gap ≤ p then p + 1 else p

/-- The physical line of line address a. -/
def State.physLine (s : State) (a : Nat) : Nat :=
  let g := a / gapN
  let gr := s.group g
  g * (gapN + 1) + gapPos gapN gr.start gr.gap (a % gapN)

/-- The physical line of a group's gap line, and the logical line whose words it holds (07 Table 07-4). -/
def State.gapLine (s : State) (g : Nat) : Nat := g * (gapN + 1) + (s.group g).gap
def heldByGap (gr : Group) : Nat := ((if gr.gap = gapN then 0 else gr.gap) + gapN - gr.start) % gapN

/-- Fast banks of the part. -/
def Part.fastBanks (p : Part) : Nat := p.fastDies * 32

/-- The bank of line address a (08:R213). -/
def State.lineBank (s : State) (a : Nat) : Nat :=
  let g := a / gapN
  let gr := s.group g
  (gapPos gapN gr.start gr.gap (a % gapN) + g) % s.part.fastBanks

/-- The bank of a physical line (08:R213). -/
def State.physBank (s : State) (phys : Nat) : Nat := (phys % (gapN + 1) + phys / (gapN + 1)) % s.part.fastBanks

/-- Lines of the fast range. -/
def Part.fastLines (p : Part) : Nat := p.fastGiB * 0x1000000

/-- The stored word at a physical byte key; an unlisted byte holds no valid word (07:R177), but for the gap lines, which the device keeps
formatted: a group's gap line of manufacture holds zero bytes of the group's first line (08:R211). -/
def Fast.cell (t : Fast) (k : Nat) : Code13 := match tget t.cells k with
  | some w => w
  | none =>
    if k / 64 % (gapN + 1) = gapN then encByte (lineFold (k / 64 / (gapN + 1) * gapN)) 0 else Config.t1Initial k

/-- The 64 stored words of a physical line. -/
def Fast.physWords (t : Fast) (phys : Nat) : List Code13 := (List.range 64).map fun i => t.cell (phys * 64 + i)

/-- The 64 stored words of a line. -/
def State.t1Words (s : State) (a : Nat) : List Code13 := s.t1.physWords (s.physLine a)

/-- The byte-code words of a write-queue entry: its data's code, or poison words (06:R154). -/
def wqWords (a : Nat) (d : Line) (poison : Bool) : BitVec 832 :=
  if poison then packWords (List.replicate 64 (poisonWord (lineFold a))) else packWords (encLine (lineFold a) d)

/-- Word i of an entry. -/
def WqEntry.word (e : WqEntry) (i : Nat) : Code13 := e.words.extractLsb' (13 * i) 13

/-- What decoding an entry's words gives. -/
def WqEntry.dec (e : WqEntry) : LineDec := decLine (lineFold e.line) (unpackWords e.words)

/-- The entry's words hold data, not poison. -/
def WqEntry.sound (e : WqEntry) : Bool := match e.dec.cls with
  | .clean => true
  | .corrected => true
  | _ => false

/-- Lay the queue's unsealed entries for a line over its words, oldest first (02:R62, R544). -/
def overlay (a : Nat) (ws : List Code13) : List WqEntry → List Code13
  | [] => ws
  | e :: t =>
    let ws' := if e.line = a && e.key.isNone then
        (List.range 64).zip ws |>.map fun (i, w) => if e.enables.getLsbD i then e.word i else w
      else ws
    overlay a ws' t

/-- The newest sealed entry of a line. -/
def lastSealed (a : Nat) (l : List WqEntry) : Option WqEntry := (l.reverse.find? fun e => e.line = a && e.key.isSome)

/-! ### Keys (19:R472, R474) -/

def State.keySlot (s : State) (k : Nat) : KeySlot := tgetD s.keys.slots k ⟨0, 0, 0, 0, 0⟩
/-- The installed key of a VALID slot. -/
def State.keyOf (s : State) (k : Byte) : Option (BitVec 512) :=
  let sl := s.keySlot k.toNat
  if sl.state = 1 then some sl.key else none
/-- A key-absent decryption (19:R474). -/
def State.absentHit (s : State) (k : Byte) : State :=
  let sl := s.keySlot k.toNat
  { s with keys := { s.keys with slots := tset s.keys.slots k.toNat { sl with hits := satAdd sl.hits 1 } } }

def fastBase : Nat := 0x400000000
def denseBase : Nat := 0x4000000000

/-- The tweak of a fast line: 2^63 + (DPA >> 6) (19 Table 19-4). -/
def fastTweak (a : Nat) : BitVec 128 := BitVec.ofNat 128 (2 ^ 63 + (fastBase + a * 64) / 64)

/-! ### Reads -/

/-- What a read of a line gives: the data bits as stored and as corrected, poison, and the hop whose failure must be reported. -/
structure LineRead where
  data : Line
  poison : Bool
  hop : Option Nat
  asRead : Line
  deriving DecidableEq, Repr

/-- A read that is not decoded, or that decodes clean. -/
def LineRead.of (d : Line) : LineRead := ⟨d, false, none, d⟩
/-- A read that returns poison, with the hop to report. -/
def LineRead.bad (hop : Option Nat) : LineRead := ⟨0, true, hop, 0⟩

/-- The carriage CRC that a read hop puts on the line: over the bits as read, patched by the correction (06:R152, hops 0x0B, 0x0C). -/
def LineRead.crc (r : LineRead) (k : CarryKey) : Word :=
  if r.asRead = r.data then carriageCrc r.data k else carriagePatched r.asRead (r.asRead ^^^ r.data) k

/-- The line passes the carriage check after the fabric (06 hops 0x0D, 0x0E). -/
def LineRead.passes (r : LineRead) (c : Option Carry) (k : CarryKey) : Bool :=
  match c with
  | none => true
  | some _ => carryOk c (r.crc k) r.data k

/-- Queue the correction write-backs of a line (07:R179). -/
def addCorrections (t1 gap : Bool) (line : Nat) (fixes : List (Nat × Code13)) (l : List Correction) : List Correction :=
  fixes.foldl (fun acc (i, w) =>
    (acc.filter fun c => !(c.t1 == t1 && c.gap == gap && c.line == line && c.byte == i)) ++ [⟨t1, line, gap, i, w⟩]) l

/-- A write to bytes of a line cancels their correction write-backs (07:R179). -/
def cancelCorrections (t1 : Bool) (line : Nat) (m : Mask) (l : List Correction) : List Correction :=
  l.filter fun c => !(c.t1 == t1 && !c.gap && c.line == line && m.getLsbD c.byte)

/-- Count one T1 line event in a bank and queue its corrections: a byte that decodes as corrected is corrected beside a double error too
(07:R179, R184, R185). -/
def State.countT1 (s : State) (b a : Nat) (gap : Bool) (cls : LineClass) (fixes : List (Nat × Code13)) : State :=
  let fix (s : State) : State := { s with t1 := { s.t1 with corrections := addCorrections true gap a fixes s.t1.corrections } }
  match cls with
  | .clean => s
  | .corrected => fix (s.countCe (some b))
  | .double => fix (s.countUe (some b) false)
  | .addrFault => s.countUe (some b) true

/-- Invert the bits that a second read shows inverted. -/
def rereadWords (ws : List Code13) (again : List (Nat × Nat)) : List Code13 :=
  (List.range 64).zip ws |>.map fun (i, w) => again.foldl (fun x (j, b) => if j = i then x ^^^ ((1 : Code13) <<< b) else x) w

/-- The noise of a transfer's line n. -/
def rereadOf (l : Reread) (n : Nat) : List (Nat × Nat) := (l.filter fun x => x.1 == n).map fun x => x.2

/-- A checked read (09:R241): under WITNESS_EXPIRED a line that does not decode clean is read and decoded again. It is used only when both
decodes give the same data with no byte uncorrectable and at most 2 bytes corrected; else it is an uncorrectable line event, and none of
its bytes is rewritten. -/
def checked (expired : Bool) (d : LineDec) (second : Unit → LineDec) : LineClass × List (Nat × Code13) :=
  if !expired || d.cls = .clean then (d.cls, d.fixes)
  else
    let e := second ()
    if d.cls = .corrected && (e.cls = .clean || e.cls = .corrected) && d.data == e.data && decide (d.fixes.length ≤ 2) &&
       decide (e.fixes.length ≤ 2) then (.corrected, d.fixes)
    else (if d.cls = .addrFault then .addrFault else .double, [])

/-- Read line a through hop 0x0C, decrypting under the key slot of a sealed line (06:R157, 19:R472-R474). -/
def State.readT1 (s : State) (a : Nat) (key : Option Byte) (again : List (Nat × Nat)) : LineRead × State :=
  match (if key.isSome then lastSealed a s.t1.wq else none) with
  | some e => (if e.sound then .of e.dec.data else .bad (some 0x0C), s)
  | none =>
    let ws := overlay a (s.t1Words a) s.t1.wq
    let d := decLine (lineFold a) ws
    let (cls, fixes) := checked s.md.restrict.witnessExpired d fun _ => decLine (lineFold a) (rereadWords ws again)
    let s := s.countT1 (s.lineBank a) a false cls fixes
    match cls with
    | .double => (.bad (some 0x0C), s)
    | .addrFault => (.bad (some 0x0C), s)
    | _ =>
      match key with
      | none => (⟨d.data, false, none, d.asRead⟩, s)
      | some k =>
        match s.keyOf k with
        | none => (.bad none, s.absentHit k)
        | some kv => if s.t2.xtsOn then (.of ((Config.xts kv (fastTweak a) 0).symm d.data), s) else (.bad (some 0x07), s)

/-! ### The write queue (02:R544, 19:R473) -/

/-- An entry joins the queue. -/
def State.enqueue (s : State) (a : Nat) (d : Line) (poison : Bool) (en : Mask) (key : Option Byte) (ch : Option Nat) : State :=
  { s with t1 := { s.t1 with wq := s.t1.wq ++ [⟨a, wqWords a d poison, en, key, ch⟩] } }

/-- Accept a write of line a by holder h. A sealed line is read, merged and queued whole (02:R60, 19:R473); where its own bytes are corrupt
(06 hop 0x03) or its data unit cannot be read, the unit's bytes that are lost are poison words (log entry 67). -/
def State.queueT1 (s : State) (a : Nat) (data : Line) (en : Mask) (poison : Bool) (key : Option Byte) (ch : Option Nat)
    (src : BitVec 16) (h : Holder) : State :=
  match key with
  | none => s.enqueue a data poison en none ch
  | some k =>
    if en = allOnes then s.enqueue a data poison allOnes (some k) ch
    else if poison then s.enqueue a 0 true en (some k) ch
    else
      let (r, s) := s.readT1 a key []
      let s := match r.hop with
        | some hop => s.custody hop src (fastBase + a * 64) h
        | none => s
      s.enqueue a (if r.poison then 0 else mergeLine r.data data en) r.poison allOnes (some k) ch

/-- A program of line a would make an entry of a full recent-write queue (08:R204, R207); one that merges makes none. -/
def State.rwFull (s : State) (a : Nat) : Bool := decide (65536 ≤ s.t1.rwq.length) && !(s.t1.rwq.any fun e => e.line == a)

/-- A program of line a is verified inline (08:R207): CAUTION or above, or after a full queue. -/
def State.inlineVerify (s : State) (a : Nat) : Bool := decide (1 ≤ s.comp.level.toNat) || s.t1.inlineFull || s.rwFull a

/-- Make or merge a recent-write entry (08:R204). -/
def mergeRw (l : List RwEntry) (a : Nat) (m : Mask) (ts : BitVec 48) : List RwEntry :=
  if l.any fun e => e.line == a then l.map fun e => if e.line = a then { e with mask := e.mask ||| m } else e
  else l ++ [⟨a, m, ts⟩]

/-- The words an entry puts into the array; none while a sealed entry's engine is out of service (06 Table 06-4 hop 0x07). -/
def State.programWords (s : State) (e : WqEntry) : Option (List (Nat × Code13)) :=
  let idx := (List.range 64).filter fun i => e.enables.getLsbD i
  let poisoned := idx.map fun i => (i, poisonWord (lineFold e.line))
  match e.key with
  | none => some (idx.map fun i => (i, e.word i))
  | some k =>
    if !e.sound then some poisoned
    else
      match s.keyOf k with
      | none => some poisoned
      | some kv =>
        if s.t2.xtsOn then
          let ct := Config.xts kv (fastTweak e.line) 0 e.dec.data
          some (idx.map fun i => (i, encByte (lineFold e.line) (lineByte ct i)))
        else none

/-- The bits that a pulse leaves wrong, per byte. -/
def flipped (flips : List (Fin 64 × Fin 13)) (i : Nat) (w : Code13) : Code13 :=
  flips.foldl (fun x (j, b) => if j.val = i then x ^^^ ((1 : Code13) <<< b.val) else x) w

/-- Store words at a physical line, with the bits that the pulses left wrong inverted. -/
def State.storeWords (s : State) (phys : Nat) (ws : List (Nat × Code13)) (flips : List (Fin 64 × Fin 13)) : State :=
  { s with t1 := { s.t1 with cells := ws.foldl (fun c (i, w) => tset c (phys * 64 + i) (flipped flips i w)) s.t1.cells } }

/-- Count line programs in a bank, and in the group of a levelled line, rewrites and retries included (08:R210, R212, R216). -/
def State.countPrograms (s : State) (g : Option Nat) (b n retries : Nat) : State :=
  let s : State := match g with
    | some g =>
      let gr := s.group g
      { s with t1 := { s.t1 with groups := tput .zero s.t1.groups g { gr with programs := gr.programs + n } } }
    | none => s
  let s := s.setWear b fun w => { w with programs := satAdd w.programs n }
  s.countSecond b n retries

/-- Count write retries of a bank. -/
def State.countRetries (s : State) (b n : Nat) : State :=
  if n = 0 then s else s.setBank b fun e => { e with writeRetries := satAdd e.writeRetries n }

/-- A T1 byte whose retries are exhausted (08 Table 08-3). -/
def State.writeFailed (s : State) (b a : Nat) : State :=
  let s := s.setBank b fun e => { e with writeFails := satAdd e.writeFails 1, hardFaults := satAdd e.hardFaults 1 }
  let s := s.setWear b fun w => { w with writeFails := satAdd w.writeFails 1, hardFaults := satAdd w.hardFaults 1 }
  s.note 0x24 (srcBank b) (pay [(16, 1, 0), (17, 4, a)])

/-- The retries that a wrong byte takes until it reads right; 1 where the operand names none. -/
def triesOf (tries : Tries) (i : Nat) : Nat := ((tries.find? fun p => p.1.val == i).map (·.2)).getD 1

/-- Rewrite the wrong bytes of a verified line: each takes at most 3 retries and is left with its error after them (08:R208). The bytes are
given with the retries each needs. -/
def State.retryBytes (s : State) (g : Option Nat) (a b : Nat) (bytes : List (Nat × Nat)) : State :=
  let n := sumBy (fun p : Nat × Nat => max 1 (min 3 p.2)) bytes
  if bytes.isEmpty then s
  else
    let s := (s.countPrograms g b n n).countRetries b n
    let s := s.pulse b (bytes.foldl (fun m p => max m (max 1 (min 3 p.2))) 0)
    (bytes.filter fun p => decide (3 < p.2)).foldl (fun s _ => s.writeFailed b a) s

/-- Program words at a physical line under inline verify (08:R207, R208): wrong bytes are retried, and those never right keep their error. -/
def State.writeVerified (s : State) (phys a : Nat) (ws : List (Nat × Code13)) (flips : List (Fin 64 × Fin 13)) (tries : Tries) : State :=
  let b := s.physBank phys
  let wrong := (ws.map (·.1)).filter fun i => flips.any fun p => p.1.val == i
  let s := s.storeWords phys ws (flips.filter fun p => decide (3 < triesOf tries p.1.val))
  (s.pulse b 0).retryBytes (some (a / gapN)) a b (wrong.map fun i => (i, triesOf tries i))

/-- The i-th entry may be issued: no earlier entry is bound for its bank, and its group owes no gap move (02:R544, 08:R212). -/
def State.mayProgram (s : State) (i : Nat) : Option WqEntry :=
  match s.t1.wq[i]? with
  | none => none
  | some e =>
    let b := s.lineBank e.line
    if (s.t1.wq.take i).any (fun x => s.lineBank x.line == b) then none
    else if 64 ≤ (s.group (e.line / gapN)).programs then none
    else some e

/-- The third failure of the XTS engine for one tile or data unit (06 Table 06-4 hop 0x07): out of service until the next recall. -/
def State.xtsFails (s : State) : State :=
  ({ s with t2 := { s.t2 with xtsOn := false } } : State).note 0x57 srcDevice (pay [(16, 1, 1), (17, 1, 0), (18, 1, 1)])

/-- Program the i-th queue entry (08:R204, R207). `xtsOk`: encryption of a sealed entry passes within its three tries. -/
def State.programEntry (s : State) (i : Nat) (flips : List (Fin 64 × Fin 13)) (tries : Tries) (xtsOk : Bool) : State :=
  match s.mayProgram i with
  | none => s
  | some e =>
    match s.programWords e with
    | none => s
    | some ws =>
      let a := e.line
      if e.key.isSome && e.sound && !xtsOk && ((e.key.bind s.keyOf).isSome) then
        (s.custody 0x07 srcDevice (fastBase + a * 64) 0).xtsFails
      else
        let inl : Bool := s.inlineVerify a
        let full : Bool := s.comp.level = 0 && s.rwFull a
        let s : State := { s with
          t1 := { s.t1 with wq := s.t1.wq.eraseIdx i, corrections := cancelCorrections true a e.enables s.t1.corrections } }
        let b := s.lineBank a
        let s := s.countPrograms (some (a / gapN)) b 1 0
        if inl then
          let s := { s with t1 := { s.t1 with inlineFull := s.t1.inlineFull || full } }
          s.writeVerified (s.physLine a) a ws flips tries
        else
          let s := (s.storeWords (s.physLine a) ws flips).pulse b 0
          { s with t1 := { s.t1 with rwq := mergeRw s.t1.rwq a e.enables s.ts48 } }

/-! ### Gap moves (08:R212) -/

/-- Move a group's gap: copy the 13-bit words unchanged and verify the target inline. -/
def State.moveGap (s : State) (g : Nat) (flips : List (Fin 64 × Fin 13)) (tries : Tries) : State :=
  let gr := s.group g
  let base := g * (gapN + 1)
  let (src, dst, gr') : Nat × Nat × Group :=
    if gr.gap = 0 then (gapN, 0, { gr with gap := gapN, start := (gr.start + 1) % gapN })
    else (gr.gap - 1, gr.gap, { gr with gap := gr.gap - 1 })
  let ws := (List.range 64).zip (s.t1.physWords (base + src))
  let b := s.physBank (base + dst)
  let s := { s with t1 := { s.t1 with
    groups := tput .zero s.t1.groups g { gr' with programs := gr.programs - 64 }
    corrections := s.t1.corrections.filter fun c => !(c.t1 && c.gap && c.line / gapN == g) } }
  let s := s.setWear b fun w => { w with programs := satAdd w.programs 1, gapMoves := satAdd w.gapMoves 1 }
  s.writeVerified (base + dst) (g * gapN + heldByGap gr') ws flips tries

/-- The moves that a group owes are made (08:R212); the number is the fuel. -/
def State.payMoves (s : State) (g : Nat) : Nat → State
  | 0 => s
  | n + 1 => if 64 ≤ (s.group g).programs then (s.moveGap g [] []).payMoves g n else s

/-! ### The verify lane (08:R205, R206, 06:R155) -/

/-- Decode a line with its exact poison words passed over (06:R155). -/
def decPast (a : Nat) (ws : List Code13) : LineDec :=
  let f := lineFold a
  let clean := encByte f 0
  decLine f (ws.map fun w => if w = poisonWord f then clean else w)

/-- A line event that the traverse or the verify lane found is counted and reported (07:R184, R185, 20 Table 20-6 code 0x22). -/
def State.patrolEvent (s : State) (b a : Nat) (gap : Bool) (cls : LineClass) (fixes : List (Nat × Code13)) : State :=
  let s := s.countT1 b a gap cls fixes
  match cls with
  | .double => s.eccUe 0 (srcBank b) a
  | .addrFault => s.eccUe 1 (srcBank b) a
  | _ => s

/-- More than 200 us have passed since a 48-bit stamp, which may have wrapped since (08:R206, 20:R486). -/
def State.lateSince (s : State) (t : BitVec 48) : Bool := decide (320000 < (s.ts48 - t).toNat)

/-- Verify the oldest recent-write entry: a corrected byte inside its mask is rewritten, one outside it gets a correction write-back. -/
def State.verifyOldest (s : State) (tries : Tries) : State :=
  match s.t1.rwq with
  | [] => s
  | e :: rest =>
    let a := e.line
    let b := s.lineBank a
    let s := if s.lateSince e.ts then s.setBank b fun x => { x with verifyLate := satAdd x.verifyLate 1 } else s
    let s := { s with t1 := { s.t1 with rwq := rest, inlineFull := s.t1.inlineFull && decide (16384 < rest.length) } }
    let d := decPast a (s.t1Words a)
    let inside := d.fixes.filter fun p => e.mask.getLsbD p.1
    let s := s.patrolEvent b a false d.cls (d.fixes.filter fun p => !e.mask.getLsbD p.1)
    let good := inside.filter fun p => decide (triesOf tries p.1 ≤ 3)
    let s := { s with t1 := { s.t1 with corrections := inside.foldl (fun l (p : Nat × Code13) => cancelCorrections true a (bit p.1) l) s.t1.corrections } }
    (s.storeWords (s.physLine a) good []).retryBytes (some (a / gapN)) a b (inside.map fun p => (p.1, triesOf tries p.1))
where bit (i : Nat) : Mask := (1 : Mask) <<< i

end Sys2Proof.Machine
end

