-- ==== Sys2Proof/Machine/Operands.lean ====
section
/-! DEFINITION. Operand forms: survey-plan records (03 Tables 03-2 to 03-4), address ranges (02 Table 02-2), Strait request frames
(12 Table 12-3) and Dexaris payload fields (11 Table 11-10). -/

namespace Sys2Proof.Machine

open Sys2Proof

/-! ### Survey-plan entries (03 Tables 03-2, 03-3) -/

def rKind (e : Entry) : Nat := fld e 0 1
def rRelease (e : Entry) : Bool := e.getLsbD 8
def aHolder (e : Entry) : Nat := bits e 32 12
def aSlots (e : Entry) : Nat := fld e 6 2
def wWindow (e : Entry) : Nat := fld e 4 1
def wSlots (e : Entry) : Nat := fld e 6 2
def wLead (e : Entry) : Nat := fld e 8 2
def cChannel (e : Entry) : Nat := fld e 4 1
def cClass (e : Entry) : Nat := fld e 5 1
def cOwner (e : Entry) : Nat := bits e 48 12
def cWindow (e : Entry) : Nat := fld e 8 1
def cOps (e : Entry) : Nat := bits e 72 6
def vFirst (e : Entry) : Nat := fld e 4 4
def vCount (e : Entry) : Nat := fld e 8 4
def kClass (e : Entry) : Nat := fld e 4 1
def kT (e : Entry) : Nat := fld e 5 1
def mClass (e : Entry) : Nat := fld e 4 1
def mFirst (e : Entry) : Nat := fld e 8 4
def mCount (e : Entry) : Nat := fld e 12 4
def sTier (e : Entry) : Nat := fld e 4 1
def sKey (e : Entry) : Nat := fld e 5 1
def sStart (e : Entry) : Nat := fld e 8 5
def sEnd (e : Entry) : Nat := fld e 16 5

/-- Entry i of a plan copy; unlisted entries are zero. -/
def planEntry (l : List (Nat × Entry)) (i : Nat) : Entry := tgetD l i 0

/-- Header fields (03 Table 03-2). -/
def hMagic (e : Entry) : Nat := fld e 0 4
def hVersion (e : Entry) : Nat := fld e 4 2
def hCount (e : Entry) : Nat := fld e 6 2
def hScratch (e : Entry) : Nat := fld e 8 1
def hReleaseRemoved (e : Entry) : Bool := e.getLsbD 73
def hOvercommitOk (e : Entry) : Bool := e.getLsbD 72
def hCrc (e : Entry) : Nat := fld e 12 4

/-- The records of a plan copy: entries 1 to count, with their indices. -/
def planRecords (l : List (Nat × Entry)) : List (Nat × Entry) :=
  let n := hCount (planEntry l 0)
  l.filter fun p => decide (1 ≤ p.1) && decide (p.1 ≤ n)

def recordsOf (l : List (Nat × Entry)) (kind : Nat) : List (Nat × Entry) := (planRecords l).filter fun p => rKind p.2 == kind

def Plan.recs (p : Plan) (kind : Nat) : List Entry := (recordsOf p.inf kind).map (·.2)

/-- allot(h) (02:R70). -/
def Plan.allot (p : Plan) (h : Holder) : Nat :=
  match (p.recs 1).find? fun e => aHolder e == h.toNat with
  | some e => aSlots e
  | none => 0

def Plan.window (p : Plan) (w : Nat) : Option Entry := (p.recs 2).find? fun e => wWindow e == w
/-- A channel's record: its owner, class, window and operations (04:R99). -/
def Plan.channel (p : Plan) (c : Nat) : Option Entry := (p.recs 3).find? fun e => cChannel e == c
/-- The tile lies in a RESERVE run (02:R77). -/
def reservedIn (rs : List Entry) (tile : Nat) : Bool := rs.any fun e => decide (vFirst e ≤ tile) && decide (tile < vFirst e + vCount e)
def Plan.reserved (p : Plan) (tile : Nat) : Bool := reservedIn (p.recs 4) tile
/-- Tiles in RESERVE runs. -/
def Plan.reservedTiles (p : Plan) : Nat := (p.recs 4).foldl (fun n e => n + vCount e) 0
/-- A class's strength (03 Table 03-4). The spec gives t = 40 without a record for class 0 only; for the other classes it is the model's
choice (log entry 87). -/
def Plan.strength (p : Plan) (k : Nat) : Nat :=
  match (p.recs 5).find? fun e => kClass e == k with
  | some e => kT e
  | none => 40
/-- A tile's class. -/
def Plan.classOf (p : Plan) (tile : Nat) : Nat :=
  match (p.recs 6).find? fun e => decide (mFirst e ≤ tile) && decide (tile < mFirst e + mCount e) with
  | some e => mClass e
  | none => 0
/-- The key slot of the SEAL record that covers a dense tile (05:R136). -/
def Plan.sealOf (p : Plan) (tile : Nat) : Option Byte :=
  let a := denseStart + tile * 4096
  match (p.recs 7).find? fun e => sTier e == 2 && decide (sStart e ≤ a) && decide (a ≤ sEnd e) with
  | some e => some (BitVec.ofNat 8 (sKey e))
  | none => none
where denseStart : Nat := 0x4000000000

/-! ### Address ranges (02 Table 02-2) -/

/-- What a DPA names. -/
inductive Target where
  /-- scratch line -/
  | scratch (line : Nat)
  /-- doorbell line of a channel -/
  | harbor (channel : Nat)
  /-- fast line address -/
  | fast (line : Nat)
  /-- dense tile and line -/
  | dense (tile line : Nat)
  | hole
  deriving DecidableEq, Repr

def Part.fastEnd (p : Part) : Nat := 0x400000000 + p.fastGiB * 0x40000000

/-- Decode a DPA on a part with the scratch size in force (02:R54, R55, R57). -/
def targetOf (p : Part) (scratchMiB dpa : Nat) : Target :=
  if dpa < scratchMiB * 0x100000 then .scratch (dpa / 64)
  else if 0x1000000 ≤ dpa && dpa < 0x1001000 then .harbor ((dpa - 0x1000000) / 64)
  else if 0x400000000 ≤ dpa && dpa < p.fastEnd then .fast ((dpa - 0x400000000) / 64)
  else if 0x4000000000 ≤ dpa && dpa < 0x4000000000 + p.tiles * 4096 then
    .dense ((dpa - 0x4000000000) / 4096) (dpa / 64 % 64)
  else .hole

/-- The gate of a target (02 Table 02-2). -/
def Target.gate : Target → Fin 5
  | .fast _ => 1
  | .dense _ _ => 2
  | _ => 0

/-- The gate address of a line: its DPA (10 Table 10-5). -/
def lineAddr (dpa : Nat) : Nat := dpa / 64 * 64

/-! ### Byte lists -/

def byteAt (l : List Byte) (i : Nat) : Nat := (lgetD l i 0).toNat
/-- n bytes from offset o, little-endian. -/
def num (l : List Byte) (o n : Nat) : Nat := (List.range n).foldl (fun acc i => acc + byteAt l (o + i) * 256 ^ i) 0
/-- The 32 B entry at offset o. -/
def entryAt (l : List Byte) (o : Nat) : Entry := BitVec.ofNat 256 (num l o 32)
/-- n zero bytes. -/
def zeros (n : Nat) : List Byte := List.replicate n 0
/-- The n low bytes of a number. -/
def leBytes (v n : Nat) : List Byte := (List.range n).map fun i => BitVec.ofNat 8 (v / 256 ^ i)

end Sys2Proof.Machine
end

