-- ==== Sys2Proof/Machine/Pool.lean ====
section
/-! DEFINITION. T0: scratch and slot lines, slot choice and the demand path; dense capacity and write-back read-out
(spec/02, 06, 07). -/

namespace Sys2Proof.Machine

open Sys2Proof

/-! ### T0 lines (07 Table 07-4, R178) -/

def encT0 (a : Nat) (d : Line) : BitVec 832 := packWords (encLine (lineFold a) d)

/-- Read a T0 line through hop 0x0B; an unwritten line reads zero (07:R178), a poisoned one returns poison (02:R68). -/
def State.readT0 (s : State) (a : Nat) (w : Option (BitVec 832)) (poison : Bool) : LineRead × State :=
  if poison then (.bad none, s)
  else match w with
    | none => (.of 0, s)
    | some w =>
      let d := decLine (lineFold a) (unpackWords w)
      let fix (s : State) : State := { s with t1 := { s.t1 with corrections := addCorrections false false a d.fixes s.t1.corrections } }
      match d.cls with
      | .clean => (.of d.data, s)
      | .corrected => (⟨d.data, false, none, d.asRead⟩, fix (s.countCe none))
      | .double => (.bad (some 0x0B), fix (s.countUe none false))
      | .addrFault => (.bad (some 0x0B), s.countUe none true)

/-- The stored words of a T0 line after a write of its enabled bytes. -/
def writeT0 (a : Nat) (w : Option (BitVec 832)) (d : Line) (en : Mask) : BitVec 832 :=
  let f := lineFold a
  let old := unpackWords (w.getD (encT0 a 0))
  packWords ((List.range 64).zip old |>.map fun (i, x) => if en.getLsbD i then encByte f (lineByte d i) else x)

/-! ### Slots (02 Table 02-4) -/

def State.slotAt (s : State) (idx : Nat) : Option Slot := s.t0.pool.find? fun x => x.idx == idx
/-- The slot that holds a tile; one released while FILLING or WRITING serves no later access (02:R79). -/
def State.slotOf (s : State) (tile : Nat) : Option Slot := s.t0.pool.find? fun x => x.tile == tile && !x.doomed

/-- Put a slot back at its index, keeping the pool in index order. -/
def putSlot (x : Slot) : List Slot → List Slot
  | [] => [x]
  | y :: t => if x.idx < y.idx then x :: y :: t else if x.idx = y.idx then x :: t else y :: putSlot x t

def State.setSlot (s : State) (x : Slot) : State := { s with t0 := { s.t0 with pool := putSlot x s.t0.pool } }
/-- A slot becomes FREE. -/
def State.freeSlot (s : State) (idx : Nat) : State := { s with t0 := { s.t0 with pool := s.t0.pool.filter fun x => !(x.idx == idx) } }

/-- The lowest index at or above n that is not in use. -/
def firstGap (n : Nat) : List Slot → Nat
  | [] => n
  | x :: t => if x.idx = n then firstGap (n + 1) t else n

def State.lowestFree (s : State) : Option Nat :=
  let i := firstGap (256 * s.t0.scratchMiB) s.t0.pool
  if i < 16384 then some i else none

/-- held(h) and the tiles a window holds (02:R70, 04:R117). -/
def State.held (s : State) (h : Holder) : Nat := (s.t0.pool.filter fun x => x.win.isNone && x.holder == h).length
def State.windowHeld (s : State) (w : Nat) : Nat := (s.t0.pool.filter fun x => x.win == some w).length

/-- The words of a slot's line. -/
def Slot.word (x : Slot) (line : Nat) : Option (BitVec 832) := tget x.lines line

def bitOf (line : Nat) : Mask := (1 : Mask) <<< line
def setBit (m : Mask) (line : Nat) (b : Bool) : Mask := if b then m ||| bitOf line else m &&& ~~~ bitOf line

/-- A store to a slot's line (02:R64, R68, 11:R283). A partial store that arrives before the fetch keeps its bytes, and its line
becomes valid when every byte has been stored or fetched (log entry 20). A host store renews the age, a ferry store does not (02:R63). -/
def Slot.store (x : Slot) (line : Nat) (d : Line) (en : Mask) (poison : Bool) (now : Option Stamp) : Slot :=
  let x := { x with age := now.getD x.age }
  if en = 0 then x
  else
    let a := x.idx * 64 + line
    let seen := tgetD x.pen line 0 ||| en
    let whole : Bool := x.valid.getLsbD line || seen == allOnes
    { x with
      lines := tset x.lines line (writeT0 a (x.word line) d en)
      valid := if whole then setBit x.valid line true else x.valid
      pen := if whole then tdel x.pen line else tset x.pen line seen
      dirty := setBit x.dirty line true
      poison := if poison then setBit x.poison line true else if en = allOnes then setBit x.poison line false else x.poison
      st := if x.st = .clean then .dirty else x.st
      wb := x.wb.map fun b => { b with dirty := setBit b.dirty line false } }

/-- Store to a resident tile, cancelling the bytes' correction write-backs (07:R179). -/
def State.storeSlot (s : State) (x : Slot) (line : Nat) (d : Line) (en : Mask) (poison host : Bool) : State :=
  let s := s.setSlot (x.store line d en poison (if host then some s.clk.ts else none))
  { s with t1 := { s.t1 with corrections := cancelCorrections false (x.idx * 64 + line) en s.t1.corrections } }

/-! ### When dense programs may start (05:R148, 09:R226) -/

def State.pd (s : State) (n : Nat) : Bool := s.pwr.on.getLsbD n
/-- The dense arrays can be programmed: a part with a dense tier, below INHIBIT, PD6 and PD7 on. -/
def State.denseOn (s : State) : Bool := s.part.dense && decide (s.comp.level.toNat < 2) && s.pd 6 && s.pd 7

/-- Programs of write-backs may start: SERVICE, RECALL, and settle steps 1 and 2 of a DORMANT entry (15:R382), which no drain has replaced. -/
def State.denseWriteOk (s : State) : Bool :=
  s.denseOn && (s.md.mode = .service || s.md.mode = .recall ||
    (s.md.mode = .dormant && decide (1 ≤ s.drain.settle) && decide (s.drain.settle ≤ 2) && !s.drain.settleDrain))

/-- Reclaim, relocation, gap moves and background presets may start: not once a DORMANT or CAUSEWAY epoch has passed (05:R148, 15:R382). -/
def State.denseCareOk (s : State) : Bool := s.denseOn && s.md.mode = .service

/-- The tile's write-backs and moves wait while a release walks it (11:R295). -/
def State.releaseHolds (s : State) (tile : Nat) : Bool :=
  match s.t2.release with
  | some r => r.phase == .prepare && r.runs.any fun (a, n) => decide (a ≤ tile) && decide (tile < a + n)
  | none => false

/-! ### Dense capacity (02:R73-R78, 05:R145) -/

def Part.denseBanks (p : Part) : Nat := p.denseDies * 32

/-- The sectors a tile is charged: its stored copy, or a larger copy in flight (02:R74). -/
def State.charges (s : State) : List (Nat × Nat) :=
  s.t2.moving.foldl (fun l m => if m.origin.isSome then l else tset l m.tile (max (tgetD l m.tile 0) m.sectors))
    (s.t2.tileMap.map fun p => (p.1, p.2.sectors))

def State.charge (s : State) (tile : Nat) : Nat := tgetD s.charges tile 0
/-- Usable free sectors (02:R76, 05:R145). -/
def State.usableFree (s : State) : Nat := s.part.usableSectors - sumBy (·.2) s.charges
/-- Sectors occupied by tiles in no RESERVE run. -/
def State.outside (s : State) : Nat := sumBy (fun p => if s.plan.reserved p.1 then 0 else p.2) s.charges
/-- Unreserved usable sectors that are free (02:R77). -/
def State.unreservedFree (s : State) : Nat := s.part.usableSectors - (8 * s.plan.reservedTiles + s.outside)
/-- The growth of a write-back is allowed (02:R75, R77). -/
def State.growthOk (s : State) (tile sectors : Nat) : Bool :=
  s.plan.reserved tile || decide (sectors - s.charge tile ≤ s.unreservedFree)

/-- Pinned dirty data in bytes (02:R78). -/
def State.pinnedBytes (s : State) : Nat := 64 * sumBy (fun x : Slot => if x.st = .pinned then popcount x.dirty else 0) s.t0.pool

/-- Dirty data in bytes (01:R38, 17:R425). -/
def State.dirtyBytes (s : State) : Nat :=
  64 * (sumBy (fun x : Slot => if x.doomed then 0 else popcount x.dirty) s.t0.pool + s.t1.wq.length + s.t0.stores.length) +
  512 * sumBy (fun m : Moving => m.sectors) s.t2.moving

/-- During settle steps 1 to 3 a drain replaces step 2 (15:R383); the device drives MUSTER low (17:R419). -/
def State.startSettleDrain (s : State) : State :=
  if s.md.mode = .dormant && decide (1 ≤ s.drain.settle) && decide (s.drain.settle ≤ 3) && !s.drain.settleDrain then
    { s with drain := { s.drain with settle := 2, settleDrain := true, dirtyKiB := BitVec.ofNat 32 ((s.dirtyBytes + 1023) / 1024) },
             pin := { s.pin with musterDriven := true } }
  else s

/-- CAPACITY_LOW is judged again (02:R76). -/
def State.evalCapacity (s : State) : State :=
  if !s.part.dense then s
  else
    let f := s.usableFree
    let p := pay [(16, 4, f)]
    if !s.t2.capacityLow && decide (f < 4194304) then
      ({ s with t2 := { s.t2 with capacityLow := true } }).raise 15 0x3A srcDevice p
    else if s.t2.capacityLow && decide (5242880 < f) then
      ({ s with t2 := { s.t2 with capacityLow := false } }).addEvent (some 15) 0x3A srcDevice p
    else s

/-! ### Write-back read-out (06 hop 0x05, R159) -/

/-- The lowest poisoned line (05:R130). -/
def lowestPoison (m : Mask) : Option Nat := (ones m).head?

/-- The substituted tile (05:R130). -/
def substituted (lines : List (Nat × Line)) (poison : Mask) : List Line :=
  (List.range 64).map fun i =>
    if lowestPoison poison = some i then poison.setWidth 512 else if poison.getLsbD i then 0 else tgetD lines i 0

/-- Read every valid line of a slot once: its data, poison, and a custody failure for each line that does not decode. -/
def State.readOut (s : State) (x : Slot) : List (Nat × Line) × Mask × State :=
  (List.range 64).foldl (fun (acc : List (Nat × Line) × Mask × State) i =>
    let (ls, m, s) := acc
    let (r, s) := s.readT0 (x.idx * 64 + i) (x.word i) (x.poison.getLsbD i)
    let s := if r.hop.isSome then s.custody 0x05 srcDevice (denseBase + x.tile * 4096 + i * 64) x.holder else s
    (if r.poison || r.data = 0 then ls else ls ++ [(i, r.data)], if r.poison then setBit m i true else m, s)) ([], 0, s)

/-- The read-out of a slot under its tile CRC-64 (06 hop 0x05). The CRC of lines as read, patched by their corrections, is the CRC of the
corrected lines (06:R152). -/
def State.snapshot (s : State) (x : Slot) (next : AfterWb) : Snapshot × State :=
  let (ls, m, s) := s.readOut x
  (⟨ls, m, x.dirty, tileCrc (substituted ls m) x.tile, next⟩, s)

/-- Start the write-back of a slot; it becomes WRITING. -/
def State.startWb (s : State) (x : Slot) (next : AfterWb) : State :=
  let (b, s) := s.snapshot x next
  s.setSlot { x with st := .writing, wb := some b }

/-- Pinned tiles are retried, lowest tile number first, when usable free sectors have increased (02:R75). -/
def State.retryPinned (s : State) : State :=
  if s.denseWriteOk then
    (sortKey (fun x : Slot => x.tile) (s.t0.pool.filter fun x => x.st = .pinned)).foldl
      (fun s x => if s.releaseHolds x.tile then s else s.startWb x .keep) s
  else s

/-! ### Slot choice (02:R71) -/

inductive Pick where
  | free (idx : Nat)
  | clean (x : Slot)
  | dirty (x : Slot)
  | nothing
  deriving DecidableEq, Repr

/-- The oldest slot of a list: lowest age stamp, then lowest index. -/
def oldest : List Slot → Option Slot
  | [] => none
  | x :: t => match oldest t with
    | some y => if x.age.toNat ≤ y.age.toNat then some x else some y
    | none => some x

/-- Choose a slot for a demand access by h, or for a window (04:R117). -/
def State.pickFor (s : State) (h : Holder) (win : Option Nat) : Pick :=
  match s.lowestFree with
  | some i => .free i
  | none =>
    let elig (x : Slot) : Bool := (x.st = .clean || (x.st = .dirty && !s.releaseHolds x.tile)) && x.win.isNone
    let above := s.t0.pool.filter fun x => elig x && decide (s.plan.allot x.holder < s.held x.holder)
    let cands :=
      if above.isEmpty && win.isNone && decide (s.plan.allot h ≤ s.held h) then s.t0.pool.filter fun x => elig x && x.holder == h
      else above
    match oldest (cands.filter fun x => x.st = .clean) with
    | some x => .clean x
    | none =>
      match (if s.denseWriteOk then oldest (cands.filter fun x => x.st = .dirty) else none) with
      | some x => .dirty x
      | none => .nothing

/-- No correction write-back of a slot's lines waits any longer: its lines are filled anew (07:R179). -/
def State.dropCorrections (s : State) (idx : Nat) (m : Mask) : State :=
  { s with t1 := { s.t1 with corrections := s.t1.corrections.filter fun c => c.t1 || !(c.line / 64 == idx) || !m.getLsbD (c.line % 64) } }

/-- A slot begins a fetch. -/
def State.takeSlot (s : State) (idx tile : Nat) (h : Holder) (port : Option Port) (chan win : Option Nat) (pos : Nat) : State :=
  (s.dropCorrections idx allOnes).setSlot
    { idx := idx, st := .filling, tile := tile, holder := h, port := port, chan := chan, win := win, pos := pos, age := s.clk.ts, valid := 0,
      dirty := 0, poison := 0, lines := [], pen := [], wb := none, doomed := false }

/-- A victim's write-back is under way for this tile. -/
def State.beingTaken (s : State) (tile : Nat) : Bool :=
  s.t0.pool.any fun x => match x.wb with
    | some b => match b.next with
      | .take t _ _ _ _ _ => t == tile
      | .keep => false
    | none => false

/-- Take a slot as R71 chooses it, a DIRTY victim after its write-back; false where there is no candidate. -/
def State.allocate (s : State) (tile : Nat) (h : Holder) (port : Option Port) (chan win : Option Nat) (pos : Nat) : Bool × State :=
  match s.pickFor h win with
  | .free i => (true, s.takeSlot i tile h port chan win pos)
  | .clean x => (true, s.takeSlot x.idx tile h port chan win pos)
  | .dirty x => (true, s.startWb x (.take tile h port chan win pos))
  | .nothing => (false, s)

/-- A demand access by h to a tile that is not resident (02:R64, R71). -/
def State.demandMiss (s : State) (tile : Nat) (h : Holder) (port : Option Port) : State :=
  if (s.slotOf tile).isSome || s.beingTaken tile then s else (s.allocate tile h port none none 0).2

/-- Tiles that wait for a slot choose again (02:R71, R72): the waiting reads in the order they came, then the waiting stores. The spec gives
no order among them: the model's choice (log entry 68). -/
def State.retryWaits (s : State) : State :=
  let s := s.link.waits.foldl (fun s w => s.demandMiss w.tile w.holder (some w.port)) s
  s.t0.stores.foldl (fun s w => s.demandMiss w.tile w.holder w.port) s

/-- Usable free sectors have increased since `before` (02:R75), and CAPACITY_LOW is judged again (02:R76). -/
def State.freed (s : State) (before : Nat) : State :=
  let s := s.evalCapacity
  if before < s.usableFree then s.retryPinned else s

/-! ### Host stores and loads of the dense range -/

def State.storesFor (s : State) (tile : Nat) : Bool := s.t0.stores.any fun w => w.tile == tile

/-- A waiting store: its line's byte-code words, coded at the line's place within the tile until a slot is chosen (log entry 65). -/
def WStore.make (tile line : Nat) (d : Line) (en : Mask) (poison : Bool) (h : Holder) (port : Option Port) : WStore :=
  ⟨tile, line, packWords (encLine (lineFold line) d), en, poison, h, port⟩

/-- What decoding a waiting store's words gives. -/
def WStore.data (w : WStore) : Line := (decLine (lineFold w.line) (unpackWords w.words)).data

/-- An accepted dense store (02:R64, R72). -/
def State.storeDense (s : State) (tile line : Nat) (d : Line) (en : Mask) (poison : Bool) (h : Holder) (port : Option Port) : State :=
  if en = 0 then s
  else
    let s := s.demandMiss tile h port
    match (if s.storesFor tile then none else s.slotOf tile) with
    | some x => s.storeSlot x line d en poison true
    | none => { s with t0 := { s.t0 with stores := s.t0.stores ++ [.make tile line d en poison h port] } }

/-- The stores that waited for the tile are applied to its slot in order (02:R72). -/
def State.installStores (s : State) (tile : Nat) : State :=
  match s.slotOf tile with
  | none => s
  | some _ =>
    let (mine, rest) := s.t0.stores.partition fun w => w.tile == tile
    let s := { s with t0 := { s.t0 with stores := rest } }
    mine.foldl (fun s w => match s.slotOf tile with
      | some x => s.storeSlot x w.line w.data w.enables w.poison true
      | none => s) s

/-- The carriage CRC's key of read data on its way to a port (06 Table 06-2). -/
def outKey (dpa : Nat) (h : Holder) : CarryKey := ⟨allOnes, dpa, h, dirOut⟩

/-- A line's data leaves through hop 0x0D under the carriage CRC of its read hop, or the read returns poison (06 Table 06-4). -/
def State.answerLine (s : State) (p : Port) (dpa : Nat) (h : Holder) (r : LineRead) (out : Option Carry) : State :=
  match r.hop with
  | some hop => (s.custody hop (srcPort p) dpa h).respond (.memData p 0 true)
  | none =>
    if r.poison then s.respond (.memData p 0 true)
    else if r.passes out (outKey dpa h) then s.respond (.memData p (carried out r.data) false)
    else (s.custody 0x0D (srcPort p) dpa h).respond (.memData p 0 true)

/-- Answer a host read of a resident line; the slot's age is renewed (02:R63). -/
def State.answerDense (s : State) (x : Slot) (port : Port) (line : Nat) (h : Holder) (out : Option Carry) : State :=
  let (r, s) := s.readT0 (x.idx * 64 + line) (x.word line) (x.poison.getLsbD line)
  let s := match s.slotAt x.idx with
    | some y => s.setSlot { y with age := s.clk.ts }
    | none => s
  s.answerLine port (denseBase + x.tile * 4096 + line * 64) h r out

/-- Serve the waiting reads of a tile whose lines are valid (02:R64). -/
def State.serveReads (s : State) (tile : Nat) : State :=
  if s.storesFor tile then s
  else
    match s.slotOf tile with
    | none => s
    | some x =>
      let (now, rest) := s.link.waits.partition fun w => w.tile == tile && x.valid.getLsbD w.line
      let s := { s with link := { s.link with waits := rest } }
      now.foldl (fun s w => match s.slotOf tile with
        | some y => s.answerDense y w.port w.line w.holder w.out
        | none => s) s

end Sys2Proof.Machine
end

