-- ==== Sys2Proof/Machine/Pages.lean ====
section
/-! DEFINITION. Dense pages: geometry and the charter pages among them, reading a page and a stored tile, building records, packing
buffers, page programs and the tile map (spec/05, 06 hops 0x06 to 0x0A, 07 R172-R185, 08 R202, R203, 18 R441, R442). -/

namespace Sys2Proof.Machine

open Sys2Proof

/-! ### Pages (05:R128, R146) -/

def Part.bigPages (p : Part) : Nat := p.denseBanks / 3 * 87382
/-- The dense bank of a page. -/
def Part.pageBank (p : Part) (page : Nat) : Nat :=
  if page < p.bigPages then 128 + page / 87382 else 128 + p.denseBanks / 3 + (page - p.bigPages) / 87381
def Part.pageIndex (p : Part) (page : Nat) : Nat :=
  if page < p.bigPages then page % 87382 else (page - p.bigPages) % 87381
/-- Pages of a dense bank. -/
def Part.bankPages (p : Part) (bank : Nat) : Nat := if bank < 128 + p.denseBanks / 3 then 87382 else 87381
/-- Region pages M of region r of a bank: its pages but the gap page. -/
def Part.regionPages (p : Part) (bank r : Nat) : Nat := (p.bankPages bank - r + 7) / 8 - 1
def Part.pageRegion (p : Part) (page : Nat) : Nat := p.pageIndex page % 8
/-- The number names a region page of a bank that is present. -/
def Part.pageOk (p : Part) (page : Nat) : Bool :=
  decide (p.pageBank page < 128 + p.denseBanks) && decide (p.pageIndex page / 8 < p.regionPages (p.pageBank page) (p.pageRegion page))
/-- The page at an index of a dense bank. -/
def Part.pageAt (p : Part) (bank index : Nat) : Nat :=
  let k := bank - 128
  let big := p.denseBanks / 3
  if k < big then k * 87382 + index else p.bigPages + (k - big) * 87381 + index
/-- Region pages of a bank. -/
def Part.bankRegionPages (p : Part) (bank : Nat) : Nat := sumBy (fun r => p.regionPages bank r) (List.range 8)
/-- Pages of the rewrite reserve (02 Table 02-5). -/
def Part.rewriteReserve : Part → Nat
  | .rbk9208 => 32768
  | .rbk9204 => 0
  | _ => 65536

def regionKey (bank r : Nat) : Nat := bank * 8 + r
def State.region (s : State) (bank r : Nat) : Region :=
  tgetD s.t2.regions (regionKey bank r) ⟨0, s.part.regionPages bank r, 0⟩

/-! ### Charter pages (18:R441, R442) -/

/-- Pages of the charter region (02 Table 02-5). -/
def charterPages : Nat := 16384

/-- The dense page where charter page c lies when the part leaves manufacture: the model's choice (log entry 69). -/
def Part.charterHome (p : Part) (c : Nat) : Nat := p.pageAt (128 + c % p.denseBanks) (c / p.denseBanks)

/-- Where charter page c lies; on the RBK-9204 its number stands for its place in the fast dies. -/
def State.charterAt (s : State) (c : Nat) : CharterAt :=
  tgetD s.t2.charter c ⟨if s.part.dense then s.part.charterHome c else c, 0, []⟩

/-- The bank that holds a page: a dense bank, or on the RBK-9204 the fast bank of a charter page (18:R442). -/
def State.pageBank (s : State) (page : Nat) : Nat := if s.part.dense then s.part.pageBank page else page % 128

/-- The charter page that lies at a page. -/
def State.charterOf (s : State) (page : Nat) : Option Nat :=
  if !s.part.dense then (if page < charterPages then some page else none)
  else
    match s.t2.charter.find? fun p => p.2.page == page with
    | some (c, _) => some c
    | none =>
      let c := s.part.pageIndex page * s.part.denseBanks + (s.part.pageBank page - 128)
      if decide (c < charterPages) && s.part.charterHome c == page && (tget s.t2.charter c).isNone then some c else none

/-- Charter pages that lie in a dense bank. -/
def State.charterIn (s : State) (bank : Nat) : Nat :=
  let n := s.part.denseBanks
  (charterPages + n - 1 - (bank - 128)) / n
    - (s.t2.charter.filter fun p => 128 + p.1 % n == bank).length + (s.t2.charter.filter fun p => s.part.pageBank p.2.page == bank).length

/-- The image of charter page c. Its 4,096 data bytes are held decoded where their content is used (log entry 19). -/
def State.charterImg (s : State) (c : Nat) : PageImg := ⟨0xA5, 72, 0, (s.charterAt c).gen, [], []⟩

/-- A region page that holds nothing: preset and free for a program (02:R73, 05:R138). -/
def State.pageFree (s : State) (page : Nat) : Bool := s.part.pageOk page && (tget s.t2.pages page).isNone && (s.charterOf page).isNone

/-- A bank has a preset page ready. -/
def State.bankReady (s : State) (bank : Nat) : Bool :=
  decide ((s.t2.pages.filter fun p => s.part.pageBank p.1 == bank).length + s.charterIn bank < s.part.bankRegionPages bank)

/-- Whole free preset pages outside the rewrite reserve (05:R144). -/
def State.freePages (s : State) : Nat :=
  sumBy (fun b => s.part.bankRegionPages (128 + b)) (List.range s.part.denseBanks) - charterPages - s.t2.pages.length - s.part.rewriteReserve

/-! ### Reading a page (05:R142, 07:R173-R176, R185) -/

/-- The pieces of a page that are live. -/
def Page.pieces (p : Page) : List Piece := p.img.dir.filter fun x => !p.freed.contains x.first

/-- What the array holds at a page: the image its codeword encodes, and the positions of the cells that are wrong. -/
def State.stored (s : State) (page : Nat) : PageImg × List Nat :=
  match tget s.t2.pages page with
  | some p => (p.img, p.errs)
  | none =>
    match s.charterOf page with
    | some c => (s.charterImg c, (s.charterAt c).errs)
    | none => (.preset, tgetD s.t2.left page [])

/-- What reading a page gives. -/
inductive PageGot where
  | clean (img : PageImg)
  | corrected (img : PageImg)
  | uncorrectable
  | checkFailed
  deriving DecidableEq, Repr

def PageGot.img? : PageGot → Option PageImg
  | .clean i => some i
  | .corrected i => some i
  | _ => none

/-- The attempts of a read at strength t: the first, then the two retries (07:R176). What it decodes to, whether it was corrected, and
the retries made. -/
def attempts (t : Nat) (errs : List Nat) (r : PageRead) : Option (List Nat × Bool) × Nat :=
  match bchDecode t (symDiff errs r.first.flips) r.first.found with
  | some x => (some x, 0)
  | none =>
    match bchDecode t (symDiff errs r.retry1.flips) r.retry1.found with
    | some (l, _) => (some (l, true), 1)
    | none =>
      match bchDecode t (symDiff errs r.retry2.flips) r.retry2.found with
      | some (l, _) => (some (l, true), 2)
      | none => (none, 2)

/-- Read a page at the strength, generation and magic expected, with the entry that must stand in its directory (05:R142). A word of
another page decodes only at its own strength (log entry 70); on the RBK-9204 the generation is not compared. The number is the
retries made. -/
def State.decodePage (s : State) (page t : Nat) (gen : Word) (magic : Byte) (entry : PageImg → Bool) (r : PageRead) : PageGot × Nat :=
  let (img, errs) := s.stored (r.other.getD page)
  if !(img.t = t) && !(img = .preset) then (.uncorrectable, 2)
  else
    match attempts t errs r with
    | (none, n) => (.uncorrectable, n)
    | (some (rest, corr), n) =>
      let i := img.flip rest
      if i.magic = magic && i.t = t && (i.gen = gen || !s.part.dense) && entry i then (if corr then .corrected i else .clean i, n)
      else (.checkFailed, n)

/-- A page event is counted in the page's bank, and a corrected page is queued for relocation (07 Table 07-8, R181, R183). -/
def State.pageEvent (s : State) (page : Nat) (g : PageGot) : State :=
  let b := s.pageBank page
  match g with
  | .clean _ => s
  | .corrected _ =>
    let s := s.countCe (some b)
    if s.t2.relocQ.contains page || decide (1024 ≤ s.t2.relocQ.length) then s
    else { s with t2 := { s.t2 with relocQ := s.t2.relocQ ++ [page] } }
  | .uncorrectable => s.countUe (some b) false
  | .checkFailed => s.countUe (some b) false

/-- Read a page, and count what the read shows. -/
def State.readPage (s : State) (page t : Nat) (gen : Word) (magic : Byte) (entry : PageImg → Bool) (r : PageRead) : PageGot × State :=
  let (g, _) := s.decodePage page t gen magic entry r
  (g, s.pageEvent page g)

/-! ### Stored tiles (05:R130-R136, R142, 06 hops 0x07, 0x09, 0x0A) -/

/-- What reading a tile gives: its lines, the lines its stored map poisons, the lines that failed, and the failed hops to report. -/
structure TileGot where
  lines : List (Nat × Line)
  stored : Mask
  failed : Mask
  hops : List Nat
  deriving DecidableEq, Repr

def TileGot.zero : TileGot := ⟨[], 0, 0, []⟩
/-- Every line failed. -/
def TileGot.lost (hops : List Nat) : TileGot := ⟨[], 0, allOnes, hops⟩
def TileGot.ue (g : TileGot) : Bool := !g.hops.isEmpty

/-- The lines that sectors of a raw record hold. -/
def sectorLines (m : BitVec 8) : Mask :=
  (List.range 64).foldl (fun acc i => if m.getLsbD (i / 8) then acc ||| bitOf i else acc) 0

/-- Sectors 0 to n − 1. -/
def sectorMask (n : Nat) : BitVec 8 := BitVec.ofNat 8 (2 ^ n - 1)

/-- The units of a record, those not listed zero. -/
def TileRec.lines (r : TileRec) : List Line := (List.range (8 * r.sectors)).map fun i => tgetD r.units i 0

/-- The lines that are not zero, with their numbers. -/
def nonzero (l : List Line) : List (Nat × Line) := ((List.range l.length).zip l).filter fun p => !(p.2 = 0)

/-- 64 B units of bytes. -/
def unitsOf (l : List Byte) (n : Nat) : List (Nat × Line) :=
  nonzero ((List.range n).map fun i => ofBytes 512 ((l.drop (64 * i)).take 64))

/-- The key and the tweak of a tile that lies in a sealed range (05:R136, 19 Table 19-4): none outside every sealed range, some none where
the key is absent. -/
def State.tileKey (s : State) (tile : Nat) : Option (Byte × Option (BitVec 512)) :=
  match (if s.part.encrypt then s.plan.sealOf tile else none) with
  | none => none
  | some k => some (k, s.keyOf k)

def tileTweak (tile : Nat) : BitVec 128 := BitVec.ofNat 128 tile

/-- Encrypt a record as one data unit (05:R136). -/
def TileRec.encrypt (r : TileRec) (key : BitVec 512) : TileRec :=
  { r with units := nonzero (((List.range (8 * r.sectors)).zip r.lines).map fun (i, l) => Config.xts key (tileTweak r.tile) i l) }

/-- Decrypt a record. -/
def TileRec.decrypt (r : TileRec) (key : BitVec 512) : TileRec :=
  { r with units := nonzero (((List.range (8 * r.sectors)).zip r.lines).map fun (i, l) => (Config.xts key (tileTweak r.tile) i).symm l) }

/-- The block of a compressed record: bytes 2 to B + 1 (05 Table 05-2). -/
def TileRec.block (r : TileRec) : Option (List Byte) :=
  let bytes := r.lines.flatMap fun l => toBytes l 64
  let b := (lgetD bytes 0 0).toNat + 256 * (lgetD bytes 1 0).toNat
  if decide (1 ≤ b) && decide (b ≤ 3582) && decide (b + 2 ≤ bytes.length) then some ((bytes.drop 2).take b) else none

/-- The substituted tile that a record holds: as it stands when raw, decoded when compressed (05:R131, R134). -/
def TileRec.substituted (r : TileRec) : Option (List Line) :=
  if r.sectors = 8 then some r.lines
  else
    match r.block with
    | none => none
    | some b => (lz4Decode b).map fun l => (List.range 64).map fun i => ofBytes 512 ((l.drop (64 * i)).take 64)

/-- The stored poison map, and the substitution checks of R130: bit L is set and bytes 8-63 of line L are zero. -/
def poisonMap (lines : List Line) (poisonL : Option Nat) : Option Mask :=
  match poisonL with
  | none => some 0
  | some l =>
    let d := lgetD lines l 0
    let m : Mask := d.setWidth 64
    if m.getLsbD l && d >>> 64 == 0 then some m else none

/-- The tile's lines without those that are poisoned. -/
def soundLines (lines : List Line) (m : Mask) : List (Nat × Line) := (nonzero lines).filter fun p => !m.getLsbD p.1

/-- Decode and check a record in the clear: the sectors `bad` of a raw record are lost, and then its CRC-64 is not compared (06 Table
06-4 0x0A). Where the sector that holds the stored poison map is lost, every line is poisoned (06:R163, log entry 71). -/
def TileRec.check (r : TileRec) (bad : BitVec 8) : TileGot :=
  match r.substituted with
  | none => .lost [0x0A]
  | some lines =>
    if !(bad = 0) then
      let lost := sectorLines bad
      match (match r.poisonL with
             | some l => if lost.getLsbD l then none else poisonMap lines r.poisonL
             | none => some 0) with
      | none => .lost [0x09]
      | some m => ⟨soundLines lines (m ||| lost), m, lost &&& ~~~ m, [0x09]⟩
    else
      match poisonMap lines r.poisonL with
      | none => .lost [0x0A]
      | some m => if tileCrc lines r.tile = r.crc then ⟨soundLines lines m, m, 0, []⟩ else .lost [0x0A]

/-- Decrypt and check a record (05:R136). -/
def State.openRecord (s : State) (r : TileRec) (bad : BitVec 8) : TileGot × State :=
  match s.tileKey r.tile with
  | none => (r.check bad, s)
  | some (k, none) => (⟨[], 0, allOnes, []⟩, s.absentHit k)
  | some (_, some key) => if s.t2.xtsOn then ((r.decrypt key).check bad, s) else (.lost [0x07], s)

/-- The packing-buffer line of unit j of a record whose head lies at sector `first` (07 Table 07-4). -/
def bufferLine (first j : Nat) : Nat := (8 * first + j) % 64
def bufferFold (line : Nat) : BitVec 3 := lineFold (0x80000000 + line)

/-- The record that a packing buffer holds, decoded. -/
def Moving.record (m : Moving) : TileRec :=
  { tile := m.tile, sectors := m.sectors, crc := m.crc, poisonL := m.poisonL
    units := (m.coded.map fun p => (p.1, (decLine (bufferFold (bufferLine m.first p.1)) (unpackWords p.2)).data)).filter fun p => !(p.2 = 0) }

/-- The newest record of a tile that a write-back has put on its way and whose commit has not passed. -/
def State.onTheWay (s : State) (tile : Nat) : Option Moving := s.t2.moving.reverse.find? fun m => m.tile == tile && m.origin.isNone

/-- The pieces that a map entry implies (05:R142). -/
def MapEntry.headCount (e : MapEntry) : Nat := if e.page2.isSome then 8 - e.first else e.sectors
def MapEntry.headIn (e : MapEntry) (tile : Nat) (i : PageImg) : Option Piece :=
  i.dir.find? fun p => p.tile == tile && p.first == e.first && p.count == e.headCount && !p.tail
def MapEntry.tailIn (e : MapEntry) (tile : Nat) (i : PageImg) : Option Piece :=
  i.dir.find? fun p => p.tile == tile && p.first == 0 && p.count == e.sectors - e.headCount && p.tail

/-- The record that page images hold for a map entry. -/
def MapEntry.recordIn (e : MapEntry) (tile : Nat) (p : Piece) (i1 : PageImg) (i2 : Option PageImg) : TileRec :=
  let n1 := 8 * e.headCount
  { tile := tile, sectors := e.sectors, crc := p.crc, poisonL := p.poisonL
    units := (i1.data.filterMap fun x => if decide (8 * e.first ≤ x.1) && decide (x.1 < 8 * e.first + n1) then some (x.1 - 8 * e.first, x.2) else none) ++
      match i2 with
      | some i => i.data.filterMap fun x => if x.1 < 8 * (e.sectors - e.headCount) then some (n1 + x.1, x.2) else none
      | none => [] }

/-- Read the pages of a map entry: their images where the reads pass, and the number of uncorrectable page events. -/
def State.readPages (s : State) (tile : Nat) (e : MapEntry) (r : TileRead) : PageGot × Option PageGot × State :=
  let (g1, s) := s.readPage e.page e.t e.gen 0xC5 (fun i => (e.headIn tile i).isSome) r.first
  match e.page2 with
  | none => (g1, none, s)
  | some p =>
    let (g2, s) := s.readPage p e.t2 e.gen2 0xC5 (fun i => (e.tailIn tile i).isSome) r.second
    (g1, some g2, s)

/-- The sectors of a record that a failed page takes with it: those the operand names, or all of them; a failed check loses them all. -/
def lostSectors (g : PageGot) (m named : BitVec 8) : BitVec 8 :=
  match g with
  | .uncorrectable => if named &&& m = 0 then m else named &&& m
  | .checkFailed => m
  | _ => 0

/-- Read the stored copy that the map names from its pages; a tile without one is a zero tile (02:R65). -/
def State.readStored (s : State) (tile : Nat) (r : TileRead) : TileGot × State :=
  match tget s.t2.tileMap tile with
  | none => (.zero, s)
  | some e =>
    let (g1, g2, s) := s.readPages tile e r
    let m1 := sectorMask e.headCount
    let bad := lostSectors g1 m1 r.badSectors ||| (match g2 with
      | some g => lostSectors g (sectorMask e.sectors &&& ~~~ m1) r.badSectors
      | none => 0)
    let ues := (if g1.img?.isNone then 1 else 0) + (match g2 with
      | some g => if g.img?.isNone then 1 else 0
      | none => 0)
    if !(bad = 0) && !(e.sectors = 8) then (.lost (List.replicate ues 0x09), s)
    else
      let i1 := g1.img?.getD (s.stored e.page).1
      let i2 := (g2.map fun g => g.img?.getD ((e.page2.map fun p => (s.stored p).1).getD .preset))
      match (e.headIn tile i1).or ((i2.bind (e.tailIn tile))) with
      | none => (.lost (List.replicate (max 1 ues) 0x09), s)
      | some p =>
        let (g, s) := s.openRecord (e.recordIn tile p i1 i2) bad
        ({ g with hops := if g.hops = [0x09] then List.replicate (max 1 ues) 0x09 else g.hops }, s)

/-- Read a tile. A record that a write-back has put on its way is the tile's newest data and serves the read (02:R62, log entry 72). -/
def State.readTile (s : State) (tile : Nat) (r : TileRead) : TileGot × State :=
  match s.onTheWay tile with
  | some m => s.openRecord m.record 0
  | none => s.readStored tile r

/-- Report the failures of a tile's read, one for each page event (06:R161, 07:R186). -/
def State.reportTile (s : State) (g : TileGot) (source : BitVec 16) (tile : Nat) (h : Holder) : State :=
  g.hops.foldl (fun s hop => s.custodyTile hop source tile h) s

/-- The retries that a tile's read makes on its pages (07:R176). -/
def State.tileRetries (s : State) (tile : Nat) (r : TileRead) : Nat :=
  match s.onTheWay tile, tget s.t2.tileMap tile with
  | none, some e =>
    (s.decodePage e.page e.t e.gen 0xC5 (fun i => (e.headIn tile i).isSome) r.first).2 + (match e.page2 with
      | some p => (s.decodePage p e.t2 e.gen2 0xC5 (fun i => (e.tailIn tile i).isSome) r.second).2
      | none => 0)
  | _, _ => 0

/-- Fill a slot's lines from a fetched tile (02:R64, R67, R68). -/
def Slot.fill (x : Slot) (g : TileGot) (now : Stamp) (lost : Nat) : Slot :=
  let bad := g.stored ||| g.failed
  let y := (List.range 64).foldl (fun (x : Slot) i =>
    let a := x.idx * 64 + i
    let d := tgetD g.lines i 0
    if x.dirty.getLsbD i then
      match tget x.pen i with
      | none => x
      | some m =>
        let src := if g.failed.getLsbD i then Config.unfilled lost else d
        { x with lines := tset x.lines i (writeT0 a (x.word i) src (~~~ m)),
                 poison := if g.stored.getLsbD i then setBit x.poison i true else x.poison }
    else
      { x with lines := if d = 0 then tdel x.lines i else tset x.lines i (encT0 a d), poison := setBit x.poison i (bad.getLsbD i) }) x
  { y with valid := allOnes, pen := [], age := now, chan := none,
           st := if y.win.isSome then .window else if y.dirty = 0 then .clean else .dirty }

/-- A fetch ends: its slot is filled, and no correction of the lines it writes waits any longer (07:R179). -/
def State.fillSlot (s : State) (x : Slot) (g : TileGot) : State :=
  (s.dropCorrections x.idx (~~~ x.dirty)).bumpFree.setSlot (x.fill g s.clk.ts s.free)

/-! ### Packing (05:R137) -/

/-- The sectors of an image that are taken, from the first; a damaged piece leaves a gap among them. -/
def PackBuf.used (b : PackBuf) : Nat := b.pieces.foldl (fun n p => max n (p.first + p.count)) 0

/-- A record in the buffer of its class at the next free sector, under the buffer's byte codes; what does not fit continues on the next
page. An open buffer keeps the strength it was opened with (05, "Corners"). -/
def State.packRecord (s : State) (r : TileRec) (cls : Nat) (origin : Option MapEntry) : State :=
  let imgs := tgetD s.t2.bufs cls []
  let t := s.plan.strength cls
  let piece (first count : Nat) (tail : Bool) : Piece := ⟨r.tile, r.crc, first, count, tail, r.poisonL⟩
  let (imgs', split, first) : List PackBuf × Bool × Nat :=
    match imgs.getLast? with
    | none => ([⟨t, [piece 0 r.sectors false], 0, none, none⟩], false, 0)
    | some b =>
      let u := b.used
      if 8 ≤ u then (imgs ++ [⟨t, [piece 0 r.sectors false], 0, none, none⟩], false, 0)
      else
        let n := min r.sectors (8 - u)
        let b' := { b with pieces := b.pieces ++ [piece u n false] }
        if n = r.sectors then (imgs.dropLast ++ [b'], false, u)
        else (imgs.dropLast ++ [b', ⟨t, [piece 0 (r.sectors - n) true], 0, none, none⟩], true, u)
  let coded := r.units.map fun p => (p.1, packWords (encLine (bufferFold (bufferLine first p.1)) p.2))
  { s with t2 := { s.t2 with
      bufs := tset s.t2.bufs cls imgs'
      moving := s.t2.moving ++ [⟨r.tile, r.sectors, r.crc, r.poisonL, coded, cls, none, none, split, first, origin⟩] } }

/-! ### Freeing sectors (05:R138, R139, R143) -/

/-- Free the pieces of a page that a test names; a page left without a live piece waits for its preset. -/
def State.freePieces (s : State) (page : Nat) (f : Piece → Bool) : State :=
  match tget s.t2.pages page with
  | none => s
  | some p =>
    let gone := p.pieces.filter f
    if gone.isEmpty then s
    else
      let p' := { p with freed := p.freed ++ gone.map (·.first) }
      let none' := p'.pieces.isEmpty
      { s with t2 := { s.t2 with
          pages := tset s.t2.pages page p'
          relocQ := if none' then s.t2.relocQ.filter fun q => !(q == page) else s.t2.relocQ
          toPreset := if none' && !s.t2.toPreset.contains page then s.t2.toPreset ++ [page] else s.t2.toPreset } }

/-- Free the stored copy that a map entry names. -/
def State.freeCopy (s : State) (tile : Nat) (e : MapEntry) : State :=
  let s := s.freePieces e.page fun x => x.tile == tile && !x.tail && x.first == e.first
  match e.page2 with
  | some p => s.freePieces p fun x => x.tile == tile && x.tail
  | none => s

/-- Free the pieces a record on its way has already programmed. -/
def State.freeMoving (s : State) (m : Moving) : State :=
  let s := match m.head with
    | some (p, _, _) => s.freePieces p fun x => x.tile == m.tile && !x.tail && x.first == m.first
    | none => s
  match m.tail with
  | some (p, _, _) => s.freePieces p fun x => x.tile == m.tile && x.tail
  | none => s

/-- A tile becomes a zero tile: its stored copy and its records on the way are dropped (02:R74, R79). -/
def State.zeroTile (s : State) (tile : Nat) : State :=
  let s := (s.t2.moving.filter fun m => m.tile == tile).foldl (fun s m => s.freeMoving m) s
  let s := { s with t2 := { s.t2 with moving := s.t2.moving.filter fun m => !(m.tile == tile) } }
  match tget s.t2.tileMap tile with
  | some e => let s := s.freeCopy tile e
      { s with t2 := { s.t2 with tileMap := tdel s.t2.tileMap tile } }
  | none => s

/-! ### Building a record (05:R130-R136) -/

/-- Where a record's building ends: a zero tile, a record, or the write-back cannot be made now (06 hop 0x07, 02:R75). -/
inductive Built where
  | zero
  | record (r : TileRec)
  | pinned
  deriving DecidableEq, Repr

/-- One LZ4 engine's mismatch (05:R135). -/
def State.lz4Mismatch (s : State) (engine tile : Nat) : State :=
  let (n, on) := lgetD s.t2.lz4 engine (0, false)
  let n' := n + 1
  let s := { s with t2 := { s.t2 with lz4 := s.t2.lz4.set engine (n', on && decide (n' < 16)) } }
  let s := s.note 0x23 (srcEngine 5 engine) (pay [(16, 4, tile), (20, 1, min n' 255)])
  if on && decide (16 ≤ n') then s.note 0x57 srcDevice (pay [(16, 1, 0), (17, 1, engine), (18, 1, 0)]) else s

/-- The engine that compresses: the one named, or the first in service in its place; none where none is in service or the microcode is the
resident raw-only one (05:R135, 18 Table 18-5). -/
def State.lz4Engine (s : State) (e : Fin 4) : Option Nat :=
  if !s.part.compress || s.stew.resident then none
  else if (lgetD s.t2.lz4 e.val (0, false)).2 then some e.val
  else (List.range 4).find? fun i => (lgetD s.t2.lz4 i (0, false)).2

/-- The bytes of lines. -/
def lineBytes (l : List Line) : List Byte := l.flatMap fun d => toBytes d 64

/-- A raw record (05 Table 05-2). -/
def rawRec (tile : Nat) (sub : List Line) (crc : BitVec 64) (poisonL : Option Nat) : TileRec := ⟨tile, 8, nonzero sub, crc, poisonL⟩

/-- A compressed record of a block (05 Table 05-2, R131). -/
def blockRec (tile : Nat) (block : List Byte) (crc : BitVec 64) (poisonL : Option Nat) : TileRec :=
  let c := (block.length + 2 + 511) / 512
  ⟨tile, c, unitsOf (leBytes block.length 2 ++ block) (8 * c), crc, poisonL⟩

/-- The record of a tile whose 64 lines are all poisoned, stored unencrypted (06 hop 0x08, 19:R474). -/
def State.poisonRec (s : State) (tile : Nat) : TileRec :=
  let sub := substituted [] allOnes
  let crc := tileCrc sub tile
  if (s.lz4Engine 0).isSome then blockRec tile lz4AllPoison crc (some 0) else rawRec tile sub crc (some 0)

/-- Verify-after-compress (05:R135): the block is stored when its inline decode gives the tile's CRC-64 and R131 permits; else the tile is
raw, and a mismatch names the engine. An operand that spells no block the device produces (05:R133) is an engine's mismatch (log
entry 63). A buffered block whose byte codes do not decode is stored raw, and is an uncorrectable buffer event (06 hop 0x06, 07:R185). -/
def State.compress (s : State) (tile : Nat) (h : Holder) (sub : List Line) (crc : BitVec 64) (poisonL : Option Nat) (o : PackOutcome) :
    TileRec × State :=
  let raw := rawRec tile sub crc poisonL
  match s.lz4Engine o.engine with
  | none => (raw, s)
  | some e =>
    if !o.bufferOk then (raw, (s.countUe none false).custodyTile 0x06 srcDevice tile h)
    else if 3584 < o.block.length + 2 then (raw, s)
    else
      match (if lz4Conforms o.block then lz4Decode o.block else none) with
      | none => (raw, s.lz4Mismatch e tile)
      | some l =>
        if l = lineBytes sub || crc64 (l ++ toBytes (BitVec.ofNat 32 tile) 4) = crc then (blockRec tile o.block crc poisonL, s)
        else (raw, s.lz4Mismatch e tile)

/-- Compress, verify and encrypt a tile's lines, whose CRC-64 was taken at the read-out (05:R130-R136, 19:R474). -/
def State.build (s : State) (tile : Nat) (h : Holder) (lines : List (Nat × Line)) (poison : Mask) (crc : BitVec 64) (o : PackOutcome) : Built × State :=
  let kept := lines.filter fun p => !poison.getLsbD p.1 && !(p.2 = 0)
  if kept.isEmpty && poison = 0 then (.zero, s)
  else
    match s.tileKey tile with
    | some (_, none) => (.record (s.poisonRec tile), s)
    | key =>
      if key.isSome && !s.t2.xtsOn then (.pinned, s)
      else
        let (r, s) := s.compress tile h (substituted kept poison) crc (lowestPoison poison) o
        match key with
        | some (_, some k) => if o.xtsOk then (.record (r.encrypt k), s) else (.pinned, (s.custodyTile 0x07 srcDevice tile h).xtsFails)
        | _ => (.record r, s)

/-! ### Page programs (08:R202, R203, 14:R361) -/

/-- A piece is the head or the tail of a record on its way. -/
def Moving.has (m : Moving) (cls : Nat) (p : Piece) : Bool :=
  m.tile == p.tile && m.crc == p.crc && m.cls == cls && (if p.tail then m.split && m.tail.isNone else m.head.isNone)

/-- Give a programmed piece to the record it belongs to, where that record still stands. -/
def placePiece (p : Piece) (cls page t : Nat) (gen : Word) : List Moving → List Moving × Bool
  | [] => ([], false)
  | m :: l =>
    if m.has cls p then
      ((if p.tail then { m with tail := some (page, t, gen) } else { m with head := some (page, t, gen) }) :: l, true)
    else
      let (l', ok) := placePiece p cls page t gen l
      (m :: l', ok)

def placePieces (cls page t : Nat) (gen : Word) : List Piece → List Moving → List Moving × List Piece
  | [], l => (l, [])
  | p :: ps, l =>
    let (l1, ok) := placePiece p cls page t gen l
    let (l2, live) := placePieces cls page t gen ps l1
    (l2, if ok then p :: live else live)

/-- A moved record's map entry is no longer in force (07:R182). -/
def State.moveStale (s : State) (m : Moving) : Bool :=
  match m.origin with
  | some e => !(tget s.t2.tileMap m.tile == some e)
  | none => false

/-- A piece with an uncorrectable buffer code: its tile is stored as a record of all 64 lines poisoned instead, unless a newer record of the
tile is on its way or the record only moved a copy that the map no longer names (06:R161 hop 0x08, log entry 58). -/
def State.spoil (s : State) (cls : Nat) (p : Piece) : State :=
  let s := s.custodyTile 0x08 srcDevice p.tile 0
  match takeFirst (fun m : Moving => m.has cls p) s.t2.moving with
  | none => s
  | some (m, rest) =>
    let stale := s.moveStale m
    let s := ({ s with t2 := { s.t2 with moving := rest } } : State).freeMoving m
    if (rest.any fun x => x.tile == p.tile && x.origin.isNone) || stale then s
    else s.packRecord (s.poisonRec p.tile) (s.plan.classOf p.tile) none

/-- The lines that a piece puts into its page, decoded from the packing buffer with the bits that read inverted: the data lines, and the
classes of the line events (06 hop 0x08). -/
def pieceLines (moving : List Moving) (cls : Nat) (p : Piece) (sram : List (Nat × Nat × Nat)) : List (Nat × Line) × List LineClass :=
  match moving.find? fun m => m.has cls p with
  | none => ([], [])
  | some m =>
    let base := if p.tail then 8 * (m.sectors - p.count) else 0
    (List.range (8 * p.count)).foldl (fun (acc : List (Nat × Line) × List LineClass) j =>
      let line := 8 * p.first + j
      let f := bufferFold line
      let flips := (sram.filter fun x => x.1 == line).map fun x => x.2
      match tget m.coded (base + j), flips with
      | none, [] => acc
      | w, _ =>
        let ws := match w with
          | some w => unpackWords w
          | none => encLine f 0
        let d := decLine f (rereadWords ws flips)
        (if d.data = 0 then acc.1 else acc.1 ++ [(line, d.data)], acc.2 ++ [d.cls])) ([], [])

def badLine : LineClass → Bool
  | .double => true
  | .addrFault => true
  | _ => false

/-- Count a buffer's line events (07 Table 07-8). -/
def State.countBuffer (s : State) (l : List LineClass) : State :=
  l.foldl (fun s c => match c with
    | .clean => s
    | .corrected => s.countCe none
    | .double => s.countUe none false
    | .addrFault => s.countUe none true) s

/-- The generation of the next program may be used; otherwise the ceiling is raised first (14:R361). -/
def State.ceilingReady (s : State) : Bool := decide (s.t2.seqNo + 1 < (s.store.view 1544).value.toNat)
def State.raiseCeiling (s : State) : State :=
  if s.store.queue.any fun o => match o with | .counter i _ _ => i == 1544 | _ => false then s
  else s.queueCounter 1544 (s.t2.seqNo + 2 ^ 24)

/-- Count one page program in a region and its bank: its presets, and its pulses beyond the first, which the wear tally takes as retries
(08 Tables 08-3, 08-7). -/
def State.countPage (s : State) (page presets retries : Nat) : State :=
  let b := s.part.pageBank page
  let r := s.part.pageRegion page
  let g := s.region b r
  let s := { s with t2 := { s.t2 with regions := tset s.t2.regions (regionKey b r) { g with programs := g.programs + 1 } } }
  let s := s.setWear b fun w => { w with programs := satAdd w.programs (1 + retries), presets := satAdd w.presets presets }
  (((s.countRetries b retries).pulse b retries).countSecond b 1 retries)

/-- A class's oldest image is due for its program: it is full, or no record of its class is waiting (05:R138). -/
def State.imageDue (s : State) (cls : Nat) (b : PackBuf) (rest : List PackBuf) : Bool :=
  decide (8 ≤ b.used) || !rest.isEmpty || s.t0.pool.all fun x => !(x.st = .writing && s.plan.classOf x.tile == cls)

/-- After a rejection: the next dense bank in ascending index that has a free page (08:R203). -/
def State.nextBankOk (s : State) (last : Option Nat) (bank : Nat) : Bool :=
  match last with
  | none => true
  | some l =>
    let n := s.part.denseBanks
    let steps := (bank - 128 + n - (l - 128)) % n
    decide (1 ≤ steps) && (List.range (steps - 1)).all fun i => !s.bankReady (128 + (l - 128 + i + 1) % n)

/-- A page that a program may take (05:R138, R139): a free one, or one that waits for its preset where its bank has none ready. -/
def State.programmable (s : State) (page : Nat) : Bool :=
  s.pageFree page || (s.t2.toPreset.contains page && !s.bankReady (s.part.pageBank page))

/-- The cells that differ from the image after the last pulse: those the operand names, and those that the preset left at 1 where the image
stores 0 (08:R202). -/
def wrongCells (i : PageImg) (left wrong : List Nat) : List Nat :=
  if left.isEmpty then wrong.dedup
  else
    let bytes := i.bytes
    (wrong ++ left.filter fun p => !(lgetD bytes (p / 8) 0).getLsbD (7 - p % 8)).dedup

/-- The page takes one program: its cells left by the preset, and the sequence number (08:R202, 05 Table 05-4). -/
def State.takePage (s : State) (page : Nat) (o : PresetOutcome) : List Nat × Nat × State :=
  let stale := s.t2.toPreset.contains page
  let left := if stale then o.left else tgetD s.t2.left page []
  (left, if stale then 1 + min 2 o.again else 0,
   { s with t2 := { s.t2 with pages := tdel s.t2.pages page, toPreset := s.t2.toPreset.filter fun q => !(q == page), left := tdel s.t2.left page,
                              seqNo := s.t2.seqNo + 1 } })

/-- A rejected page is preset and free again; its bank counts the failure (08:R203). -/
def State.rejectPage (s : State) (page : Nat) : State :=
  let bank := s.part.pageBank page
  let s := s.setBank bank fun e => { e with writeFails := satAdd e.writeFails 1 }
  let s := s.setWear bank fun w => { w with writeFails := satAdd w.writeFails 1, presets := satAdd w.presets 1 }
  s.note 0x24 (srcBank bank) (pay [(16, 1, 1), (17, 4, page)])

/-- Preset and program the oldest image of a class into a free page; accepted or rejected (08:R202, R203). -/
def State.programImage (s : State) (cls page : Nat) (o : ProgramOutcome) : State :=
  match tgetD s.t2.bufs cls [] with
  | [] => s
  | b :: rest =>
    let bank := s.part.pageBank page
    if !(s.denseWriteOk && s.imageDue cls b rest && s.programmable page && s.nextBankOk b.lastBank bank) then s
    else if !s.ceilingReady then s.raiseCeiling
    else
      let gen : Word := BitVec.ofNat 32 s.t2.seqNo
      let (left, presets, s) := s.takePage page o.preset
      let s := s.countPage page presets (min o.extraPulses 3)
      let read := b.pieces.map fun p => (p, pieceLines s.t2.moving cls p o.sram)
      let s := s.countBuffer (read.flatMap fun x => x.2.2)
      let spoilt := (read.filter fun x => x.2.2.any badLine).map (·.1)
      let sound := read.filter fun x => !(x.2.2.any badLine)
      let img : PageImg := ⟨0xC5, b.t, cls, gen, sound.map (·.1), sound.flatMap fun x => x.2.1⟩
      let wrong := wrongCells img left o.wrong
      let s :=
        if wrong.length * 4 ≤ b.t then
          let (mv, live) := placePieces cls page b.t gen img.dir s.t2.moving
          { s with t2 := { s.t2 with
              moving := mv
              bufs := if rest.isEmpty then tdel s.t2.bufs cls else tset s.t2.bufs cls rest
              pages := tset s.t2.pages page ⟨img, (img.dir.filter fun p => !live.contains p).map (·.first), wrong⟩
              toPreset := if live.isEmpty then s.t2.toPreset ++ [page] else s.t2.toPreset } }
        else
          let n := b.rejects + 1
          let b' := { b with pieces := img.dir, rejects := n, rejectedAt := if 3 ≤ n then some s.clk.ts else none, lastBank := some bank }
          ({ s with t2 := { s.t2 with bufs := tset s.t2.bufs cls (b' :: rest) } } : State).rejectPage page
      spoilt.foldl (fun s p => s.spoil cls p) s

/-! ### The tile map (05:R143, 07:R182) -/

/-- A record whose pieces have all been programmed. -/
def Moving.placed (m : Moving) : Bool := m.head.isSome && (!m.split || m.tail.isSome)

/-- Commit a record: the map names the new copy and the old copy's sectors are freed. A moved record is discarded where the map no
longer names the piece it read. -/
def State.commitMoving (s : State) (m : Moving) : State :=
  if s.moveStale m then s.freeMoving m
  else
    match m.head with
    | none => s
    | some (page, t, gen) =>
      let s := match tget s.t2.tileMap m.tile with
        | some e => s.freeCopy m.tile e
        | none => s
      let (p2, t2, g2) : Option Nat × Nat × Word := match m.tail with
        | some (p, t', g) => (some p, t', g)
        | none => (none, 0, 0)
      { s with t2 := { s.t2 with tileMap := tset s.t2.tileMap m.tile ⟨page, m.first, m.sectors, p2, gen, g2, t, t2⟩ } }

/-- The page read of a list of reads; a page it does not name reads as it was left. -/
def readOf (l : List (Nat × PageRead)) (page : Nat) : PageRead := ((l.find? fun p => p.1 == page).map (·.2)).getD .plain

/-- Read the record of a map entry as it is stored, for a move (05:R144, 07:R181): none where a page of it fails. -/
def State.readRecord (s : State) (tile : Nat) (e : MapEntry) (reads : List (Nat × PageRead)) : Option TileRec × State :=
  let r : TileRead := ⟨readOf reads e.page, readOf reads (e.page2.getD 0), 0⟩
  let (g1, g2, s) := s.readPages tile e r
  match g1.img?, g2 with
  | some i1, none => ((e.headIn tile i1).map fun p => e.recordIn tile p i1 none, s)
  | some i1, some g => match g.img? with
    | some i2 => ((e.headIn tile i1).map fun p => e.recordIn tile p i1 (some i2), s)
    | none => (none, s)
  | none, _ => (none, s)

/-- Move a page's live pieces: the page is read, and each record goes unchanged through the packing buffer of its page's class (05:R144,
07:R181). A record whose other page fails stays where it is; each uncorrectable page event is reported at hop 0x09. -/
def State.movePage (s : State) (page : Nat) (reads : List (Nat × PageRead)) : State :=
  match tget s.t2.pages page with
  | none => s
  | some p =>
    p.pieces.foldl (fun s x =>
      match tget s.t2.tileMap x.tile with
      | some e =>
        if (e.page == page || e.page2 == some page) && !(s.t2.moving.any fun m => m.tile == x.tile && m.origin.isSome) then
          match s.readRecord x.tile e reads with
          | (some r, s) => s.packRecord r p.img.cls (some e)
          | (none, s) => s.custodyTile 0x09 srcDevice x.tile 0
        else s
      | none => s) s

end Sys2Proof.Machine
end

