-- ==== Sys2Proof/Machine/Arbiter.lean ====
section
/-! DEFINITION. Bank arbitration: the requesters that wait at an array bank, their ranks, and the turns of rank 4 (01:R51-R53). A host
access on the link is a command of its own and is taken at its grant (log entry 73). -/

namespace Sys2Proof.Machine

open Sys2Proof

/-! ### What may be issued -/

/-- Queue entries are programmed in SERVICE and while a settle completes the accepted writes (15:R382), with PD7 on. -/
def State.mayProgramT1 (s : State) : Bool := s.pd 7 && (s.md.mode = .service || decide (1 ≤ s.drain.settle))

/-- The verify lane runs (08 Table 08-9). -/
def State.mayVerify (s : State) : Bool := s.pd 7 && (s.md.mode = .service || s.md.mode = .causeway || decide (1 ≤ s.drain.settle))

/-- A T1 correction write-back may be issued (07:R193). -/
def State.mayCorrectT1 (s : State) : Bool :=
  (s.md.mode = .service || s.md.mode = .causeway) && !s.md.restrict.fieldRo && s.pd 7

/-- Demand fetches end in SERVICE, and until their settle or drain has finished the accepted writes (15:R382, 17 Table 17-3). -/
def State.mayFetch (s : State) : Bool :=
  s.pd 6 && (s.md.mode = .service || (s.md.mode = .causeway && s.drain.step == 2) || (s.md.mode = .dormant && decide (1 ≤ s.drain.settle)))

/-- Ferry steps run in SERVICE; from a CAUSEWAY or DORMANT epoch on, none begins (04 Table 04-15). -/
def State.ferryRuns (s : State) : Bool := s.md.mode = .service

/-! ### Where the traverse stands (08:R195) -/

/-- Groups of the fast range (08:R211). -/
def Part.groups (p : Part) : Nat := p.fastLines / gapN
/-- Lines of the causeway region (17:R431). -/
def regionLines : Nat := 2097152

/-- A place of a T1 pass. -/
inductive T1Place where
  /-- line address a, read where it lies -/
  | line (a : Nat)
  /-- the gap line of a group, which holds line a's words -/
  | gap (g a : Nat)
  /-- a line of the causeway region -/
  | region (n : Nat)
  deriving DecidableEq, Repr

/-- The n-th place: each group's lines in ascending A, its gap line after the line whose words it holds, then the causeway region. -/
def State.t1Place (s : State) (n : Nat) : T1Place :=
  let g := n / (gapN + 1)
  let k := n % (gapN + 1)
  if s.part.groups ≤ g then .region (n - s.part.groups * (gapN + 1))
  else
    let q := heldByGap (s.group g)
    if k ≤ q then .line (g * gapN + k) else if k = q + 1 then .gap g (g * gapN + q) else .line (g * gapN + k - 1)

def State.placeBank (s : State) (p : T1Place) : Nat :=
  match p with
  | .line a => s.lineBank a
  | .gap g _ => s.physBank (s.gapLine g)
  | .region n => n % s.part.fastBanks

/-- The pages the tile map names. -/
def State.mapPages (s : State) : List Nat := (s.t2.tileMap.flatMap fun p => p.2.page :: p.2.page2.toList).dedup

def optMin (a b : Option Nat) : Option Nat :=
  match a, b with
  | some x, some y => some (min x y)
  | some x, none => some x
  | none, b => b

/-- The least of a list that is at least n. -/
def leastFrom (n : Nat) (l : List Nat) : Option Nat := l.foldl (fun m x => if n ≤ x then optMin m (some x) else m) none

/-- The lowest page at or above a page where a charter page still lies at its place of manufacture. -/
def State.nextHome (s : State) (pos : Nat) : Option Nat :=
  let n := s.part.denseBanks
  let b := s.part.pageBank pos - 128
  (List.range (n - b)).findSome? fun k =>
    let lo := if k = 0 then s.part.pageIndex pos else 0
    let cnt := (charterPages + n - 1 - (b + k)) / n
    (List.range (cnt - lo)).findSome? fun j =>
      if (tget s.t2.charter ((lo + j) * n + b + k)).isNone then some (s.part.pageAt (128 + b + k) (lo + j)) else none

/-- The next page of a T2 pass at or above a page: a page the map names, or a charter page. -/
def State.nextPage (s : State) (pos : Nat) : Option Nat :=
  if !s.part.dense then (if pos < charterPages then some pos else none)
  else
    optMin (leastFrom pos s.mapPages) (optMin (leastFrom pos (s.t2.charter.map fun p => p.2.page)) (s.nextHome pos))

/-! ### Requesters (01 Table 01-8) -/

inductive Req where
  | drain
  | correction
  | urgentVerify
  | host (p : Option Port)
  | budget
  | ferry (c : Nat)
  | verify
  | escTraverse
  | steward
  | traverse
  deriving DecidableEq, Repr

def Req.rank : Req → Nat
  | .drain => 1
  | .correction => 2
  | .urgentVerify => 3
  | .traverse => 5
  | _ => 4

/-- The members of rank 4. -/
def Req.member : Req → Nat
  | .host _ => 0
  | .budget => 1
  | .ferry _ => 2
  | .verify => 3
  | .escTraverse => 4
  | _ => 5

/-- The 25 places of one round of rank 4: each member has as many as its weight (log entry 73). -/
def rankFrame : List Nat :=
  List.replicate 8 0 ++ List.replicate 8 1 ++ List.replicate 4 2 ++ List.replicate 2 3 ++ List.replicate 2 4 ++ [5]

/-- The 7 places of one round of the ferry classes (01:R52). -/
def classFrame : List Nat := List.replicate 4 0 ++ List.replicate 2 1 ++ [2]

/-- The bank of a tile's page; a zero tile and a record on its way ask for none. -/
def State.tileBank (s : State) (tile : Nat) : Option Nat :=
  match s.onTheWay tile, tget s.t2.tileMap tile with
  | none, some e => some (s.part.pageBank e.page)
  | _, _ => none

/-- The requester of a write-queue entry. -/
def WqEntry.req (e : WqEntry) : Req := match e.channel with
  | some c => .ferry c
  | none => .host none

/-- The write-queue entry that waits at a fast bank: the first bound for it (02:R544). -/
def State.queueWaits (s : State) (b : Nat) : List Req :=
  if !s.mayProgramT1 then []
  else
    match s.t1.wq.find? fun e => s.lineBank e.line == b with
    | some e => if decide (64 ≤ (s.group (e.line / gapN)).programs) || (e.key.isSome && !s.t2.xtsOn) then [] else [e.req]
    | none => []

/-- The line of the causeway region whose line address this is (17:R431). -/
def regionOf (a : Nat) : Option Nat := if 0x10000000 ≤ a then some (a - 0x10000000) else none

/-- The physical line of the fast range where a correction's words lie. -/
def State.correctionLine (s : State) (c : Correction) : Nat := if c.gap then s.gapLine (c.line / gapN) else s.physLine c.line

/-- The bank of a T1 correction. -/
def State.correctionBank (s : State) (c : Correction) : Nat := match regionOf c.line with
  | some n => n % s.part.fastBanks
  | none => s.physBank (s.correctionLine c)

/-- A T1 correction may be issued now: its group owes no gap move (07:R193, 08:R212). -/
def State.correctionReady (s : State) (c : Correction) : Bool :=
  s.mayCorrectT1 && ((regionOf c.line).isSome || decide ((s.group (c.line / gapN)).programs < 64))

def State.correctionWaits (s : State) (b : Nat) : List Req :=
  if s.t1.corrections.any fun c => c.t1 && s.correctionReady c && s.correctionBank c == b then [.correction] else []

/-- The verify lane's oldest entry has aged 150 us (01 Table 01-8). -/
def State.verifyReq (s : State) (e : RwEntry) : Req := if 240000 ≤ (s.ts48 - e.ts).toNat then .urgentVerify else .verify

def State.verifyWaits (s : State) (b : Nat) : List Req :=
  match s.t1.rwq with
  | e :: _ => if s.mayVerify && decide ((s.group (e.line / gapN)).programs < 64) && s.lineBank e.line == b then [s.verifyReq e] else []
  | [] => []

/-- Fetches that wait at a dense bank. -/
def State.fetchWaits (s : State) (b : Nat) : List Req :=
  s.t0.pool.filterMap fun x =>
    if x.st = .filling && s.tileBank x.tile == some b then
      match x.chan with
      | some c => if s.ferryRuns then some (.ferry c) else none
      | none => if s.mayFetch then some (.host x.port) else none
    else none

/-- A pass runs escalated: behind its pace, late, or required by a witness result (08:R198, R199, 09:R239). -/
def Trav.escalated (x : Trav) : Bool := x.esc || x.forced || x.told

/-- The traverse of a tier asks for its next line or page: escalated at rank 4, else at rank 5. -/
def Trav.req (x : Trav) : Req := if x.escalated then .escTraverse else .traverse

def State.travWaits (s : State) (b : Nat) : List Req :=
  if !(s.md.mode = .service) then []
  else
    (if s.trav.t1.escalated && s.placeBank (s.t1Place s.trav.t1.done) == b then [.escTraverse] else []) ++
    (if s.trav.t2.escalated && s.trav.t2en && (s.nextPage s.trav.t2.pos).map s.pageBank == some b then [.escTraverse] else [])

/-- The requesters that wait at a bank. -/
def State.waitingAt (s : State) (b : Nat) : List Req :=
  (if b < 128 then
     (if s.md.mode = .causeway && s.drain.step == 4 then [Req.drain] else []) ++ s.correctionWaits b ++ s.verifyWaits b ++ s.queueWaits b
   else s.fetchWaits b) ++ s.travWaits b

/-! ### Turns (01:R51, R52) -/

/-- The first place of a frame, from a place on, that belongs to a member present; the frame runs round. -/
def nextPlace (frame : List Nat) (from' : Nat) (here : Nat → Bool) : Nat :=
  let n := frame.length
  ((List.range n).find? fun i => here (lgetD frame ((from' + i) % n) 0)).elim from' fun i => (from' + i) % n

def Arb.start : Arb := ⟨0, 0, [], none⟩
def State.arbOf (s : State) (b : Nat) : Arb := tgetD s.arb b .start

def State.classOfChan (s : State) (c : Nat) : Nat := match s.plan.channel c with
  | some e => cClass e
  | none => 0

/-- The next channel of a class after the one granted last, in ascending order (01:R52). -/
def nextChan (last : Option Nat) (cs : List Nat) : Option Nat :=
  let above := match last with
    | some l => leastFrom (l + 1) cs
    | none => none
  above.or (leastFrom 0 cs)

/-- The place and the channel whose turn it is in the ferry group. -/
def State.ferryTurn (s : State) (a : Arb) (cs : List Nat) : Nat × Option Nat :=
  let k := nextPlace classFrame a.cls fun m => cs.any fun c => s.classOfChan c == m
  let cls := lgetD classFrame k 0
  (k, nextChan a.chans[cls]? (cs.filter fun c => s.classOfChan c == cls))

def ferryChans (l : List Req) : List Nat := l.filterMap fun r => match r with
  | .ferry c => some c
  | _ => none
def hostPorts (l : List Req) : List Port := l.filterMap fun r => match r with
  | .host p => p
  | _ => none

/-- The other requests of rank 4 that wait beside one. -/
def State.rivals (s : State) (b : Nat) (r : Req) : List Req := (s.waitingAt b).filter fun q => q.rank == 4 && !(q == r)

/-- A request may be granted at a bank now: none of a higher rank waits, and within rank 4 it is its turn. -/
def State.mayGrant (s : State) (b : Nat) (r : Req) : Bool :=
  (s.waitingAt b).all (fun q => decide (r.rank ≤ q.rank)) &&
  (!(r.rank == 4) ||
    (let all := r :: s.rivals b r
     let a := s.arbOf b
     let m := lgetD rankFrame (nextPlace rankFrame a.slot fun m => all.any fun q => q.member == m) 0
     r.member == m &&
     (match r with
      | .ferry c => (s.ferryTurn a (ferryChans all)).2 == some c
      | .host (some p) => !(a.port == some p && (hostPorts all).any fun q => !(q == p))
      | _ => true)))

/-- The arbiter after a grant: the rounds go on past the place used, where others of rank 4 waited too. -/
def State.grant (s : State) (b : Nat) (r : Req) : State :=
  let others := s.rivals b r
  if !(r.rank == 4) || others.isEmpty then s
  else
    let all := r :: others
    let a := s.arbOf b
    let k := nextPlace rankFrame a.slot fun m => all.any fun q => q.member == m
    let a1 : Arb := { a with slot := (k + 1) % 25 }
    let a2 : Arb := match r with
      | .ferry c =>
        let (j, _) := s.ferryTurn a (ferryChans all)
        let cs := (List.range 3).map fun i => if i = s.classOfChan c then c else lgetD a.chans i 64
        { a1 with cls := (j + 1) % 7, chans := cs }
      | .host p => { a1 with port := p.or a.port }
      | _ => a1
    { s with arb := tset s.arb b a2 }

/-- Run a bank access: it is made when its request is granted, else it waits and nothing changes. -/
def State.atBank (s : State) (b : Option Nat) (r : Req) (f : State → State) : State :=
  match b with
  | none => f s
  | some b => if s.mayGrant b r then f (s.grant b r) else s

end Sys2Proof.Machine
end

