-- ==== Sys2Proof/Machine/Credits.lean ====
section
/-! DEFINITION. Meeting point 3: the write-credit rule, forced write-back, BUDGET_CLAMP and CAPACITY_STALL (01:R38-R41, 02:R78,
09:R227, 11:R281). -/

namespace Sys2Proof.Machine

open Sys2Proof

def Link.port (l : Link) (p : Port) : PortSt := if p = 0 then l.p0 else l.p1
def State.port (s : State) (p : Port) : PortSt := s.link.port p
def State.setPort (s : State) (p : Port) (x : PortSt) : State :=
  { s with link := if p = 0 then { s.link with p0 := x } else { s.link with p1 := x } }

/-- The budget in force, in bytes. -/
def State.budgetBytes (s : State) : Nat := s.tide.budget * 1024
/-- Write credits held by hosts. -/
def State.creditsHeld (s : State) : Nat := s.link.p0.credits + s.link.p1.credits
/-- R39 allows one more credit: dirty data and the credits held, that one included, stay within the budget. -/
def State.creditRoom (s : State) : Bool := decide (s.dirtyBytes + 64 * (s.creditsHeld + 1) ≤ s.budgetBytes)

/-- Forced write-back (01:R40). -/
def State.evalForced (s : State) : State :=
  let d := s.dirtyBytes
  let b := s.budgetBytes
  let f := if d * 4 ≤ b * 3 then false else if b * 7 ≤ d * 8 then true else s.tide.forced
  { s with tide := { s.tide with forced := f } }

/-- BUDGET_CLAMP and CAPACITY_STALL follow their rules in SERVICE (01:R41, 02:R78, 15:R389). Where dirty data has fallen to 15/16 while R39
still withholds a freed credit, the clamp stands: the model's choice (log entry 74). The record's KiB are rounded up: the model's choice
(log entry 75). -/
def State.evalCredits (s : State) : State :=
  let s := s.evalForced
  if s.md.mode ≠ .service then s
  else
    let b := s.budgetBytes
    let pin := s.pinnedBytes
    let withheld : Bool := !s.link.freed.isEmpty && !s.creditRoom
    let r := s.md.restrict
    let clamp := (r.budgetClamp && !decide (s.dirtyBytes * 16 ≤ b * 15)) || withheld
    let low : Bool := decide (pin * 4 ≤ b * 3)
    let stall := (r.capacityStall || (withheld && decide (b * 7 ≤ pin * 8))) && !low
    let s := if stall && !r.capacityStall then s.raise 16 0x3B srcDevice (pay [(16, 4, (pin + 1023) / 1024)]) else s
    s.setRestrict { r with budgetClamp := clamp, capacityStall := stall }

/-- A step has changed dirty data, credits, the budget or the sectors in use: the rules that watch them act. `before` is the usable
free count before the step. -/
def State.review (s : State) (before : Nat) : State :=
  (s.freed before).evalCredits

/-- No restriction withholds a credit (01:R41, 09:R227). -/
def State.creditFree (s : State) : Bool :=
  s.creditRoom && !s.md.restrict.budgetClamp && !s.md.restrict.capacityStall && !s.md.restrict.fieldRo

/-- A credit of the port is the next to go back: the ports take returnable credits in turn (11:R281). -/
def State.creditTurn (s : State) (p : Port) : Bool :=
  s.link.freed.contains p && !(s.link.lastReturn == some p && s.link.freed.any fun q => !(q == p))

/-- Return one credit to a port. -/
def State.returnCredit (s : State) (p : Port) : State :=
  let s := s.setPort p { s.port p with credits := (s.port p).credits + 1 }
  let s := { s with link := { s.link with freed := s.link.freed.erase p, lastReturn := some p } }
  s.respond (.creditReturned p)

/-- Spend a held credit: its data is taken, and it waits to be returned (11:R280, R281). -/
def State.spendCredit (s : State) (p : Port) : State :=
  let s := s.setPort p { s.port p with credits := (s.port p).credits - 1 }
  { s with link := { s.link with freed := s.link.freed ++ [p] } }

/-- A step may add dirty data (04 Table 04-10 BUDGET). -/
def State.roomFor (s : State) (add : Nat) : Bool :=
  add == 0 || (!s.md.restrict.budgetClamp && decide (s.dirtyBytes + 64 * s.creditsHeld + add ≤ s.budgetBytes))

/-- A port's 64 Req credits are handed out, and its 32 RwD credits are to be (11:R280, 16:R411). -/
def State.advertise (s : State) (p : Port) : State :=
  let s := s.setPort p { s.port p with req := 64 }
  { s with link := { s.link with freed := s.link.freed ++ List.replicate 32 p } }

end Sys2Proof.Machine
end

