-- ==== Sys2Proof/Machine/Ferry.lean ====
section
/-! DEFINITION. The ferry: channels, doorbells, routes, tile transfers, stream windows, stalls and halts (spec/04). -/

namespace Sys2Proof.Machine

open Sys2Proof

/-! ### Channels -/

def ChState.code : ChState → Nat
  | .idle => 0
  | .loading => 1
  | .running => 2
  | .stalled => 3
  | .halted => 4
  | .aborting => 5
  | .parked => 6

/-- LOADING, RUNNING, STALLED or HALTED: what ABORT admits (04 Table 04-4). -/
def ChState.active : ChState → Bool
  | .loading => true
  | .running => true
  | .stalled => true
  | .halted => true
  | _ => false

def State.chan (s : State) (c : Nat) : Chan := lgetD s.ferry.chans c .zero
def State.setChan (s : State) (c : Nat) (x : Chan) : State := { s with ferry := { s.ferry with chans := lset s.ferry.chans c x } }

/-- The owner that the plan in force names (04:R99). -/
def State.owner (s : State) (c : Nat) : Option Holder := (s.plan.channel c).map fun e => BitVec.ofNat 12 (cOwner e)
/-- The channel's window record: window number, slots, lead. -/
def State.windowOf (s : State) (c : Nat) : Option (Nat × Nat × Nat) :=
  match s.plan.channel c with
  | some e => match s.plan.window (cWindow e) with
    | some w => some (cWindow e, wSlots w, wLead w)
    | none => none
  | none => none

/-- trail = slots − lead (04, "Stream windows"). -/
def State.trail (s : State) (c : Nat) : Nat := match s.windowOf c with
  | some (_, slots, lead) => slots - lead
  | none => 0

/-! ### Transfers in flight (04, "Channels and operations", R114, R120) -/

/-- The slot that a channel's own transfer is filling, or will fill once its victim is written back. -/
def State.chanSlot (s : State) (c : Nat) : Option Slot :=
  s.t0.pool.find? fun x => (x.st = .filling && x.chan == some c) || (match x.wb with
    | some b => (match b.next with
      | .take _ _ _ k _ _ => k == some c
      | .keep => false)
    | none => false)

/-- A transfer of the channel has been issued and has not ended: it waits for its victim's write-back, for a page retry or for a bank
grant. One transfer of a channel is in flight at a time (log entry 76). -/
def State.inFlightOf (s : State) (c : Nat) : Bool := (s.chanSlot c).isSome || (s.chan c).reading.isSome || (s.chan c).bankWait

/-- Transfers in flight (FERRY_GLB.IN_FLIGHT); the engine holds at most 32. -/
def State.inFlight (s : State) : Nat := ((List.range s.part.channels).filter fun c => s.inFlightOf c).length

/-! ### Stalls (04:R110, R111) -/

def ChCounters.stall (k : ChCounters) (cause : Nat) : ChCounters :=
  match cause with
  | 1 => { k with bank := satAdd k.bank 1 }
  | 2 => { k with retry := satAdd k.retry 1 }
  | 3 => { k with field := satAdd k.field 1 }
  | 4 => { k with budget := satAdd k.budget 1 }
  | 5 => { k with capacity := satAdd k.capacity 1 }
  | _ => { k with window := satAdd k.window 1 }

/-- Add to a channel's counters; the cycle keeps what it adds (13:R328). -/
def State.countChan (s : State) (c : Nat) (f : ChCounters → ChCounters) : State :=
  let x := s.chan c
  let cyc := s.evt.cyc
  ({ s with evt := { s.evt with cyc := { cyc with
    chanInc := tset cyc.chanInc c (f (tgetD cyc.chanInc c ⟨0, 0, 0, 0, 0, 0, 0, 0⟩)) } } } : State).setChan c { x with cnt := f x.cnt }

/-- Enter STALLED with a cause, or change the cause while STALLED. -/
def State.stallChan (s : State) (c cause : Nat) : State :=
  let x := s.chan c
  if x.state = .stalled && x.stall.toNat == cause then s
  else
    let since := if cause = 6 then none else if x.state = .stalled && x.stallSince.isSome then x.stallSince else some s.clk.ts
    (s.setChan c { x with state := .stalled, stall := BitVec.ofNat 8 cause, stallSince := since,
                          stallTold := if x.state = .stalled then x.stallTold else false }).countChan c (·.stall cause)

def Chan.running (x : Chan) : Chan := { x with state := .running, stall := 0, halt := 0, stallSince := none, stallTold := false }

/-- The channel's transfer has ended. -/
def Chan.landed (x : Chan) : Chan := { x with bankWait := false, reading := none, need := none }

/-! ### Halts (04:R112) -/

def State.haltChan (s : State) (c cause : Nat) : State :=
  let x := s.chan c
  let s := s.setChan c { x.landed with state := .halted, halt := BitVec.ofNat 8 cause, stall := 0, stallSince := none, stallTold := false }
  let s := s.countChan c fun k => { k with halts := satAdd k.halts 1 }
  let s := { s with ferry := { s.ferry with halts := satAdd s.ferry.halts 1 } }
  s.raise 4 0x11 (srcChan c) (pay [(16, 1, cause), (17, 1, x.op.toNat), (18, 2, x.leg.toNat), (20, 4, x.tile.toNat)])

/-! ### Windows (04:R119) and the end of a route (04:R115) -/

/-- Tiles whose position is below `below` leave the window. -/
def State.leaveWindow (s : State) (w below : Nat) (owner : Holder) : State :=
  (s.t0.pool.filter fun x => x.win == some w && decide (x.pos < below)).foldl (fun s x =>
    if x.st = .window then
      if x.dirty = 0 then s.freeSlot x.idx else s.setSlot { x with st := .dirty, win := none, holder := owner }
    else s.setSlot { x with win := none, holder := owner }) s

/-- End a route: outcome 1 DONE, 2 ABORTED. A STREAM route releases its window. -/
def State.finishRoute (s : State) (c outcome : Nat) : State :=
  let x := s.chan c
  let s := match s.windowOf c, s.owner c with
    | some (w, _, _), some h => if x.op = 6 then (s.leaveWindow w (2 ^ 40) h).retryWaits else s
    | _, _ => s
  s.setChan c { (s.chan c).landed with state := .idle, stall := 0, halt := 0, outcome := BitVec.ofNat 8 outcome, stallSince := none,
                                       stallTold := false }

/-- The route is complete (04:R115). -/
def Chan.complete (x : Chan) : Bool := decide (x.total.toNat ≤ x.done.toNat) && (!(x.op == 6) || decide (x.total.toNat ≤ x.mark.toNat))

def State.endIfDone (s : State) (c : Nat) : State :=
  let x := s.chan c
  if (x.state = .running || x.state = .stalled) && x.complete then s.finishRoute c 1 else s

/-- Move past tiles that a leg does not hold: the next leg is fetched before its first tile (04:R107). -/
def Chan.normal (x : Chan) : Chan :=
  match x.cur with
  | some l =>
    if l.count.toNat ≤ x.tile.toNat && decide (x.base.toNat + l.count.toNat < x.total.toNat) then
      { x with base := x.base + l.count, tile := x.tile - l.count, leg := x.leg + 1, cur := none }
    else x
  | none => x

/-- n positions are done. -/
def Chan.advance (x : Chan) (n : Nat) : Chan :=
  let m := BitVec.ofNat 32 n
  ({ x with tile := x.tile + m, done := x.done + m, filled := if x.op = 6 then x.filled + m else x.filled } : Chan).normal

/-- One tile is completed or passed over. -/
def State.tileDone (s : State) (c : Nat) : State := (s.setChan c ((s.chan c).landed.advance 1)).endIfDone c

/-- A STREAM channel passes over the positions below mark − trail without fetching them (04:R118). The position of a transfer in flight is
its own: it ends first; and a HALTED channel passes nothing before its RESUME or SKIP (04, "Corners"). -/
def State.passBelow (s : State) (c : Nat) : State :=
  let x := s.chan c
  let lo := min (x.mark.toNat - s.trail c) x.total.toNat
  if x.op = 6 && (x.state = .running || x.state = .stalled) && decide (x.filled.toNat < lo) && !s.inFlightOf c then s.setChan c (x.advance (lo - x.filled.toNat)) else s

/-! ### Route lines (04:R107, R108) -/

/-- A route line must lie in the scratch or the fast range. -/
def State.routeTarget (s : State) (dpa : Nat) : Option Target :=
  match targetOf s.part s.t0.scratchMiB dpa with
  | .scratch l => some (.scratch l)
  | .fast l => some (.fast l)
  | _ => none

/-- Read one line for a ferry channel. -/
def State.ferryLine (s : State) (c : Nat) (h : Holder) (dpa : Nat) (again : List (Nat × Nat)) : LineRead × State :=
  let (r, s) : LineRead × State :=
    match targetOf s.part s.t0.scratchMiB dpa with
    | .scratch l => match tget s.t0.scratch l with
      | some t => s.readT0 l (some t.words) t.poison
      | none => s.readT0 l none false
    | .fast l => s.readT1 l (s.sealKey 1 dpa) again
    | _ => (.bad none, s)
  match r.hop with
  | some hop => (r, s.custody hop (srcChan c) dpa h)
  | none => (r, s)

/-- Fetch a route line: 0 and the line, or the halt cause (04 Table 04-11). A line that is only marked poisoned is uncorrectable data too:
the model's choice (log entry 77). -/
def State.routeLine (s : State) (c : Nat) (h : Holder) (dpa : Nat) (again : List (Nat × Nat)) : Nat × Line × State :=
  match s.routeTarget dpa with
  | none => (1, 0, s)
  | some t =>
    let (ok, s) := s.look t.gate (lineAddr dpa) h 2 2 (BitVec.ofNat 8 (0x40 + c))
    if !ok then (2, 0, s)
    else
      let (r, s) := s.ferryLine c h dpa again
      if r.poison then (10, 0, s) else (0, r.data, s)

/-- The fields of a route header (04 Table 04-6). -/
structure Header where
  op : Nat
  legs : Nat
  pattern : Word
  tag : Word
  total : Nat
  deriving DecidableEq, Repr

/-- The header's CRC, checked before any other field (04:R107). -/
def headerCrcOk (d : Line) : Bool := crc32c (toBytes d 60) = d.extractLsb' 480 32

/-- The fields of a header whose magic, op, legs and total are in order. -/
def headerOf (d : Line) : Option Header :=
  let op := fld d 4 1
  let legs := fld d 6 2
  let total := fld d 16 4
  if headerCrcOk d && fld d 0 4 == 0x45545552 && decide (1 ≤ op) && decide (op ≤ 6) && decide (1 ≤ legs) && decide (legs ≤ 4096) &&
     decide (1 ≤ total) then
    some ⟨op, legs, d.extractLsb' 64 32, d.extractLsb' 96 32, total⟩
  else none

/-- The op that a START's route holds, read without a lookup's effects; 0 where its header does not stand (04:R104, log entry 21). -/
def State.peekHeader (s : State) (c : Nat) (h : Holder) (route : Nat) : Option Header :=
  if !(route % 64 == 0) then none
  else
    let (cause, d, _) := s.routeLine c h route []
    if cause = 0 then headerOf d else none

/-- A leg record: a 32 B half of a route line. -/
def legOf (d : Line) (half : Nat) : Option Leg :=
  let e : Entry := d.extractLsb' (256 * half) 256
  if crc32c (toBytes e 28) = e.extractLsb' 224 32 then
    some ⟨e.extractLsb' 0 40, e.extractLsb' 64 40, e.extractLsb' 128 32⟩
  else none

/-- The dense range, as first DPA and end. -/
def State.inDense (s : State) (a n : Nat) : Bool := decide (0x4000000000 ≤ a) && decide (a + n * 4096 ≤ 0x4000000000 + s.part.tiles * 4096)
def State.inFast (s : State) (a n : Nat) : Bool := decide (0x400000000 ≤ a) && decide (a + n * 4096 ≤ s.part.fastEnd)

/-- Table 04-2's ranges for a leg's runs, and the unused fields (04:R108). -/
def State.legOk (s : State) (op : Nat) (l : Leg) : Bool :=
  let a := l.source.toNat
  let b := l.dest.toNat
  let n := l.count.toNat
  let src : Bool := a % 4096 == 0
  let dst : Bool := b % 4096 == 0
  decide (1 ≤ n) &&
  (match op with
   | 3 => src && dst && ((s.inFast a n && (s.inFast b n || s.inDense b n)) || (s.inDense a n && s.inFast b n)) &&
          (decide (a + n * 4096 ≤ b) || decide (b + n * 4096 ≤ a))
   | 4 => a == 0 && dst && s.inFast b n
   | 5 => src && b == 0 && (s.inFast a n || s.inDense a n)
   | _ => src && b == 0 && s.inDense a n)

/-- The whole route, of the header's leg count, lies in the range of its header (04:R107). -/
def State.routeInside (s : State) (route legs : Nat) : Bool :=
  let last := route + 64 + 32 * legs - 1
  (targetOf s.part s.t0.scratchMiB route).gate == (targetOf s.part s.t0.scratchMiB last).gate && (s.routeTarget last).isSome

/-- The op needs a unit that the part lacks (00:R10). -/
def Part.lacks (p : Part) (op : Nat) : Bool := !p.dense && (op == 1 || op == 2 || op == 5 || op == 6)

/-- Causes 0x04 and 0x05 of a header, 0 for none (04 Table 04-11). On the RBK-9204 the absent-unit refusal of 00:R10 comes before the check
of ops, which no plan of that part can set for these ops: the model's choice (log entry 78). -/
def State.headerCause (s : State) (c : Nat) (h : Header) : Nat :=
  let ops := match s.plan.channel c with
    | some e => cOps e
    | none => 0
  if s.part.lacks h.op then 5
  else if !ops.testBit (h.op - 1) || (h.op == 6 && (s.windowOf c).isNone) then 4
  else 0

/-- The header of a LOADING channel's route is fetched and checked: its CRC, then the causes in code order (04:R107, Table 04-11). -/
def State.loadHeader (s : State) (c : Nat) (owner : Holder) (again : List (Nat × Nat)) : State :=
  let x := s.chan c
  let route := x.route.toNat
  if !(route % 64 == 0) then s.haltChan c 1
  else
    let (cause, d, s) := s.routeLine c owner route again
    if !(cause = 0) then s.haltChan c cause
    else if !headerCrcOk d then s.haltChan c 3
    else if !s.routeInside route (fld d 6 2) then s.haltChan c 1
    else
      match headerOf d with
      | none => s.haltChan c 3
      | some h =>
        let s := s.setChan c { x with op := BitVec.ofNat 8 h.op, tag := h.tag, pattern := h.pattern, legs := BitVec.ofNat 16 h.legs,
                                      total := BitVec.ofNat 32 h.total }
        let k := s.headerCause c h
        if !(k = 0) then s.haltChan c k
        else s.setChan c { (s.chan c).running with resumed := false, cur := none }

/-! ### Doorbells (04:R102-R106) -/

/-- The bytes a command uses (04 Table 04-3). -/
def bellBytes (cmd : Nat) : List Nat :=
  match cmd with
  | 1 => [0, 1, 2, 3, 4, 6]
  | 2 => [6, 8, 9, 10, 11]
  | _ => [6]

def State.bellRefuse (s : State) (c cmd result : Nat) : State :=
  let s := s.setChan c { s.chan c with result := BitVec.ofNat 8 result }
  s.note 0x10 (srcChan c) (pay [(16, 1, cmd), (17, 1, result)])

def State.bellAccept (s : State) (c cmd : Nat) (payload : List (Nat × Nat × Nat)) : State :=
  let s := s.setChan c { s.chan c with result := 1 }
  s.addTrace 0x08 (srcChan c) (tpay ((12, 1, cmd) :: payload))

/-- The state, the route and the halt cause admit a command (04 Table 04-4). -/
def Chan.admits (x : Chan) (cmd : Nat) : Bool :=
  match cmd with
  | 1 => x.state = .idle
  | 2 => x.state.active && x.op == 6
  | 3 => x.state = .halted
  | 4 => x.state = .halted && decide (7 ≤ x.halt.toNat) && decide (x.halt.toNat ≤ 9)
  | _ => x.state.active

/-- A restriction refuses a START of this op (04:R104). -/
def Restrict.refusesStart (r : Restrict) (op : Nat) : Bool :=
  (r.versionLimited && !(op == 5)) || (r.witnessSuspect && (op == 2 || op == 3 || op == 4))

/-- START accepted: the route is loaded. -/
def State.startRoute (s : State) (c route : Nat) (h : Option Header) : State :=
  let x := s.chan c
  let s := s.bellAccept c 1 [(13, 5, route)]
  s.setChan c { Chan.zero with
    state := .loading, result := 1, outcome := x.outcome, route := BitVec.ofNat 40 route, cnt := x.cnt, parkedRoute := none,
    op := match h with | some h => BitVec.ofNat 8 h.op | none => 0
    tag := match h with | some h => h.tag | none => 0
    total := match h with | some h => BitVec.ofNat 32 h.total | none => 0 }

/-- ABORT: no further transfer is issued (04:R114). One in flight completes. -/
def State.abortChan (s : State) (c : Nat) : State :=
  s.setChan c { s.chan c with state := .aborting, stall := 0, halt := 0, stallSince := none, stallTold := false }

/-- The mark is written (04:R118). -/
def State.markChan (s : State) (c v : Nat) : State :=
  let x := s.chan c
  if v ≤ x.mark.toNat then s
  else
    let m := min v x.total.toNat
    let s := s.setChan c { x with mark := BitVec.ofNat 32 m }
    let s := match s.windowOf c, s.owner c with
      | some (w, _, _), some h => (s.leaveWindow w (m - s.trail c) h).retryWaits
      | _, _ => s
    (s.passBelow c).endIfDone c

/-- Act on a doorbell write that enables its command byte: the checks of R102 from step 3 on. -/
def State.actBell (s : State) (c : Nat) (h : Holder) (d : Line) (en : Mask) : State :=
  let cmd := fld d 6 1
  let x := s.chan c
  if 6 ≤ cmd then s.bellRefuse c cmd 5
  else if (bellBytes cmd).any fun i => !en.getLsbD i then s.bellRefuse c cmd 4
  else
    match s.owner c with
    | none => s.bellRefuse c cmd 3
    | some o =>
      if !(h = o) then s.bellRefuse c cmd 2
      else if !x.admits cmd then s.bellRefuse c cmd 6
      else
        match cmd with
        | 1 =>
          let route := fld d 0 5
          let hd := s.peekHeader c o route
          if (match hd with | some q => s.md.restrict.refusesStart q.op | none => false) then s.bellRefuse c 1 7
          else s.startRoute c route hd
        | 2 => (s.bellAccept c 2 [(13, 4, fld d 8 4)]).markChan c (fld d 8 4)
        | 3 =>
          let s := s.bellAccept c 3 []
          if decide (7 ≤ x.halt.toNat) && decide (x.halt.toNat ≤ 9) then ((s.setChan c (s.chan c).running).passBelow c).endIfDone c
          else s.setChan c { s.chan c with state := .loading, halt := 0, resumed := true }
        | 4 =>
          let s := s.bellAccept c 4 []
          let s := (s.setChan c (s.chan c).running).countChan c fun k => { k with skipped := satAdd k.skipped 1 }
          ((s.setChan c ((s.chan c).advance 1)).passBelow c).endIfDone c
        | _ => (s.bellAccept c 5 []).abortChan c

/-- The plan would change the channel's owner, class, ops or window, or its window's slots or lead (03:R98). -/
def planTouches (inf sh : List (Nat × Entry)) (c : Nat) : Bool :=
  let chan (l : List (Nat × Entry)) := (recordsOf l 3).find? fun p => cChannel p.2 == c
  let win (l : List (Nat × Entry)) (w : Nat) := (recordsOf l 2).find? fun p => wWindow p.2 == w
  match chan inf, chan sh with
  | none, none => false
  | some a, some b =>
    !(cOwner a.2 == cOwner b.2 && cClass a.2 == cClass b.2 && cOps a.2 == cOps b.2 && cWindow a.2 == cWindow b.2) ||
    (match win inf (cWindow a.2), win sh (cWindow b.2) with
     | none, none => false
     | some v, some w => !(wSlots v.2 == wSlots w.2 && wLead v.2 == wLead w.2)
     | _, _ => true)
  | _, _ => true

/-- The plan would give the channel another owner. -/
def planReowns (inf sh : List (Nat × Entry)) (c : Nat) : Bool :=
  let owner (l : List (Nat × Entry)) := ((recordsOf l 3).find? fun p => cChannel p.2 == c).map fun p => cOwner p.2
  !(owner inf == owner sh)

/-- The channels that a plan touches, and those that it gives another owner (03:R98). -/
def planChans (inf sh : List (Nat × Entry)) : List Nat × List Nat :=
  ((List.range 64).filter (planTouches inf sh), (List.range 64).filter (planReowns inf sh))

/-- A doorbell write to a channel that the running plan commit touches is held until its report (03:R98). -/
def State.bellHeld (s : State) (c : Nat) : Bool :=
  match s.commit with
  | some k => k.isPlan && k.touched.contains c
  | none => false

/-- A doorbell write that has passed gate 0 and hop 0x04. -/
def State.ringBell (s : State) (c : Nat) (h : Holder) (d : Line) (en : Mask) (source : Byte) : State :=
  if !(s.md.mode = .service) || decide (s.part.channels ≤ c) then s
  else if !en.getLsbD 6 || fld d 6 1 == 0 then s
  else if s.bellHeld c then { s with ferry := { s.ferry with held := s.ferry.held ++ [⟨c, h, d, en, source⟩] } }
  else s.actBell c h d en

/-- What a read of a doorbell line returns (04 Table 04-5). -/
def State.bellRead (s : State) (c : Nat) : Line :=
  if s.part.channels ≤ c then 0
  else
    let x := s.chan c
    pack 512 [(0, 1, x.state.code), (1, 1, if x.state = .halted then x.halt.toNat else 0), (2, 1, if x.state = .stalled then x.stall.toNat else 0),
      (3, 1, x.result.toNat), (4, 2, x.leg.toNat), (6, 1, x.op.toNat), (7, 1, x.outcome.toNat), (8, 4, x.tile.toNat), (12, 4, x.tag.toNat),
      (16, 4, x.mark.toNat), (20, 4, x.filled.toNat), (24, 4, x.done.toNat), (28, 4, x.total.toNat)]

/-- FCHAN[c] (04 Table 04-12). -/
def State.fchanEntry (s : State) (c : Nat) : Entry :=
  let x := s.chan c
  let o := match s.owner c with
    | some h => h.toNat
    | none => 0
  pack 256 [(0, 1, x.state.code), (1, 1, if x.state = .halted then x.halt.toNat else 0), (2, 1, if x.state = .stalled then x.stall.toNat else 0),
    (3, 1, x.op.toNat), (4, 2, x.leg.toNat), (6, 2, o), (8, 4, x.tile.toNat), (12, 4, x.done.toNat), (16, 2, x.cnt.bank.toNat),
    (18, 2, x.cnt.retry.toNat), (20, 2, x.cnt.field.toNat), (22, 2, x.cnt.budget.toNat), (24, 2, x.cnt.capacity.toNat),
    (26, 2, x.cnt.window.toNat), (28, 2, x.cnt.halts.toNat), (30, 2, x.cnt.skipped.toNat)]

/-- SWIN[w] (04 Table 04-13). -/
def State.swinEntry (s : State) (w : Nat) : Entry :=
  match s.plan.window w with
  | none => pack 256 [(0, 1, 0xFF)]
  | some e =>
    let c := ((s.plan.recs 3).find? fun r => cWindow r == w).map cChannel
    let x : Chan := match c with
      | some c => s.chan c
      | none => Chan.zero
    let on : Bool := c.isSome && x.op == 6 && !(x.state = .idle)
    pack 256 [(0, 1, c.getD 0xFF), (2, 2, wSlots e), (4, 2, wLead e), (6, 2, s.windowHeld w), (8, 4, x.mark.toNat), (12, 4, x.filled.toNat),
      (16, 4, if on then x.total.toNat else 0),
      (20, 2, (s.t0.pool.filter fun y => y.win == some w && !(y.dirty = 0)).length)]

/-! ### Tile transfers (04:R100) -/

/-- A tile's addresses in a transfer. -/
structure TileAt where
  src : Nat
  dst : Nat
  owner : Holder
  deriving DecidableEq, Repr

def isFast (a : Nat) : Bool := decide (a < 0x4000000000)
def tileNo (a : Nat) : Nat := (a - 0x4000000000) / 4096

/-- Look up a tile's 64 parts. -/
def State.lookTile (s : State) (c a : Nat) (h : Holder) (right : Nat) (kind : BitVec 3) : Bool × State :=
  s.lookRun (if isFast a then 1 else 2) h right kind (BitVec.ofNat 8 (0x40 + c)) a 64

/-- The next tile of a channel. -/
def State.tileAt (s : State) (c : Nat) : Option TileAt :=
  let x := s.chan c
  match x.cur, s.owner c with
  | some l, some h => some ⟨l.source.toNat + x.tile.toNat * 4096, l.dest.toNat + x.tile.toNat * 4096, h⟩
  | _, _ => none

/-- A channel's transfer may go on: a RUNNING one in SERVICE; and a transfer in flight completes under an ABORT, and after the CAUSEWAY
epoch, before its channel ends (04:R114, Table 04-8). -/
def State.mayStep (s : State) (c : Nat) : Bool :=
  match (s.chan c).state with
  | .running => s.ferryRuns || (s.md.mode = .causeway && s.inFlightOf c)
  | .stalled => s.md.mode = .causeway && s.inFlightOf c
  | .aborting => (s.ferryRuns || s.md.mode = .causeway) && s.inFlightOf c
  | _ => false

/-- A tile's slot is busy for another request than the channel's own transfer (04 Table 04-10 BANK). -/
def State.slotBusy (s : State) (c tile : Nat) : Bool :=
  match s.slotOf tile with
  | some x => (x.st = .filling && !(x.chan == some c)) || x.st = .writing
  | none => s.beingTaken tile && (match s.chanSlot c with
    | some _ => false
    | none => true)

/-- The sealed tile cannot be encrypted now (06 Table 06-4 hop 0x07). -/
def State.sealStuck (s : State) (tile : Nat) : Bool :=
  !s.t2.xtsOn && (match s.tileKey tile with
    | some (_, some _) => true
    | _ => false)

/-- The dirty data that a COPY adds (04, "Stalls"). -/
def State.copyAdds (s : State) (dst : Nat) : Nat :=
  if isFast dst then 4096
  else match s.slotOf (tileNo dst) with
    | some x => 4096 - 64 * popcount x.dirty
    | none => 0

/-- The cause that holds a channel's transfer, the lowest code of those that hold; 0 for none (04 Table 04-10). A WRITEBACK, or a COPY into
T2, that a Release Tiles walk holds shows BANK, and a STREAM whose window finds no slot shows WINDOW: the model's choices (log entries 79,
80). -/
def State.stepCause (s : State) (c op : Nat) (a : TileAt) : Nat :=
  let busy (x : Nat) : Bool := !isFast x && s.slotBusy c (tileNo x)
  let own : Bool := (s.chanSlot c).isSome
  let pick (win : Option Nat) : Bool := !own && (s.slotOf (tileNo a.src)).isNone && s.pickFor a.owner win == .nothing
  match op with
  | 1 => if busy a.src then 1 else if pick none then 6 else 0
  | 2 =>
    match s.slotOf (tileNo a.src) with
    | none => 0
    | some x =>
      if busy a.src then 1
      else if x.dirty = 0 then 0
      else if s.releaseHolds x.tile then 1
      else if !s.denseWriteOk then 3
      else if x.st = .pinned then 5
      else 0
  | 3 =>
    let td := tileNo a.dst
    let out : Bool := !isFast a.dst && (s.slotOf td).isNone
    if busy a.src || busy a.dst || (out && s.releaseHolds td) then 1
    else if (isFast a.dst && s.md.restrict.fieldRo) || (out && !s.denseWriteOk) then 3
    else if !s.roomFor (s.copyAdds a.dst) then 4
    else if out && (s.sealStuck td || (match (s.chan c).need with
        | some n => !s.growthOk td n
        | none => false)) then 5
    else 0
  | 4 => if s.md.restrict.fieldRo then 3 else if !s.roomFor 4096 then 4 else 0
  | 6 =>
    match s.windowOf c with
    | some (w, slots, lead) =>
      let x := s.chan c
      if !own && decide (min (x.mark.toNat + lead) x.total.toNat ≤ x.filled.toNat) then 6
      else if busy a.src then 1
      else if !own && (s.slotOf (tileNo a.src)).isNone && (decide (slots ≤ s.windowHeld w) || pick (some w)) then 6
      else 0
    | none => 0
  | _ => 0

/-- Halt the channel of a failed transfer, or, where it is no longer RUNNING, only end the transfer. -/
def State.tileFails (s : State) (c cause : Nat) : State :=
  if (s.chan c).state = .running then s.haltChan c cause else s.setChan c (s.chan c).landed

/-- The engine has no free transfer for a channel that has none in flight. -/
def State.engineFull (s : State) (c : Nat) : Bool := !s.inFlightOf c && decide (32 ≤ s.inFlight)

/-- A transfer is issued: the lookups of its source and destination (04 Table 04-2); one in flight has made them. -/
def State.issue (s : State) (c op : Nat) (a : TileAt) : Bool × State :=
  if s.inFlightOf c then (true, s)
  else
    let (ok1, s) := if op = 4 then (true, s) else s.lookTile c a.src a.owner (if op = 2 then 1 else 0) 3
    let (ok2, s) := if op = 3 || op = 4 then s.lookTile c a.dst a.owner 1 4 else (true, s)
    (ok1 && ok2, s)

/-- The transfer a channel of this op makes next; its source and destination are looked up together (01:R30, 04 Table 04-2) when it is
issued. A failing part halts the channel with ACCESS_DENIED; a stall cause holds it; and the engine holds at most 32 transfers. -/
def State.tileStep (s : State) (c op : Nat) (f : TileAt → State → State) : State :=
  let x := s.chan c
  match s.tileAt c with
  | none => s
  | some a =>
    if !(s.mayStep c && x.op.toNat == op) || x.complete || s.engineFull c then s
    else
      let (ok, s) := s.issue c op a
      if !ok then s.haltChan c 7
      else
        match s.stepCause c op a with
        | 0 => f a s
        | k => if x.state = .running && s.ferryRuns then s.stallChan c k else s

/-- What a transfer's fabric does to a line's read: the line as it lands, or none where the carriage check fails at hop 0x0E (06:R160). -/
def LineRead.move (r : LineRead) (moves : List (Fin 64 × Carry)) (i dpa : Nat) (h : Holder) : Option Line :=
  let c := moveOf moves i
  if r.passes c ⟨allOnes, dpa, h, dirFerry⟩ then some (carried c r.data) else none

/-- The lines of a tile as they land, or none where one of them fails at hop 0x0E. -/
def moveTile (ls : List LineRead) (moves : List (Fin 64 × Carry)) (base : Nat) (h : Holder) : Option (List Line) :=
  ((List.range ls.length).zip ls).foldr (fun (i, r) acc =>
    match r.move moves i (base + i * 64) h, acc with
    | some d, some l => some (d :: l)
    | _, _ => none) (some [])

/-- A tile as it was read: its lines, whether a line is uncorrectable, and whether one is poisoned. -/
structure TileIn where
  lines : List LineRead
  ue : Bool
  poison : Bool
  deriving DecidableEq, Repr

/-- The line of the array that lies at a fast DPA holds poison words where it is poisoned, and no other uncorrectable word (06:R154). -/
def marked (a : Nat) (ws : List Code13) : Bool := match (decPast a ws).cls with
  | .clean => true
  | .corrected => true
  | _ => false

/-- Read a fast tile's lines. -/
def State.readFastTile (s : State) (c a : Nat) (h : Holder) (again : Reread) : TileIn × State :=
  (List.range 64).foldl (fun (acc : TileIn × State) i =>
    let (t, s) := acc
    let dpa := a + i * 64
    let ln := (dpa - fastBase) / 64
    let mk := marked ln (overlay ln (s.t1Words ln) s.t1.wq)
    let (r, s) := s.ferryLine c h dpa (rereadOf again i)
    (⟨t.lines ++ [r], t.ue || (r.poison && r.hop.isSome && !mk), t.poison || (r.poison && (r.hop.isNone || mk))⟩, s)) (⟨[], false, false⟩, s)

/-- A page retry is to run for a read of a dense tile: the channel shows RETRY until it has ended (07:R176, Table 04-10). -/
def State.retryRuns (s : State) (c tile : Nat) (rd : TileRead) : Bool :=
  (s.chan c).reading.isNone && (s.chan c).state = .running && decide (0 < s.tileRetries tile rd)

/-- The channel waits for a page retry, whose outcome is held. -/
def State.startRetry (s : State) (c : Nat) (rd : TileRead) : State :=
  let s := s.stallChan c 2
  s.setChan c { s.chan c with reading := some rd }

/-- Read a dense tile for a transfer: from its slot when resident, otherwise from T2. -/
def State.readDenseTile (s : State) (c tile : Nat) (h : Holder) (rd : TileRead) : TileIn × State :=
  match s.slotOf tile with
  | some x =>
    (List.range 64).foldl (fun (acc : TileIn × State) i =>
      let (t, s) := acc
      let (r, s) := s.readT0 (x.idx * 64 + i) (x.word i) (x.poison.getLsbD i)
      let s := match r.hop with
        | some hop => s.custody hop (srcChan c) (denseBase + tile * 4096 + i * 64) h
        | none => s
      (⟨t.lines ++ [r], t.ue || r.hop.isSome, t.poison || (r.poison && r.hop.isNone)⟩, s)) (⟨[], false, false⟩, s)
  | none =>
    let (g, s) := s.readTile tile ((s.chan c).reading.getD rd)
    let s := s.reportTile g (srcChan c) tile h
    (⟨(List.range 64).map fun i => .of (tgetD g.lines i 0), g.ue, !(g.stored ||| g.failed = 0)⟩, s)

/-- A transfer that fills a slot fails: its slot is FREE again, or, where hosts wait for the tile or have stored to it, their own demand
fetch goes on in it (04:R113). -/
def State.dropFill (s : State) (x : Slot) : State :=
  if x.dirty = 0 && !(s.link.waits.any fun w => w.tile == x.tile) then (s.freeSlot x.idx).retryWaits
  else s.setSlot { x with chan := none, win := none }

/-- FETCH and STREAM fill the channel's own slot: the tile is read through hops 0x09 and 0x0A, and lands through hop 0x0E. -/
def State.fillOwn (s : State) (c : Nat) (x : Slot) (a : TileAt) (rd : TileRead) (moves : List (Fin 64 × Carry)) : State :=
  let tile := x.tile
  if s.retryRuns c tile rd then s.startRetry c rd
  else
    s.atBank (s.tileBank tile) (.ferry c) fun s =>
      let (g, s) := s.readTile tile ((s.chan c).reading.getD rd)
      if g.ue then ((s.reportTile g (srcChan c) tile a.owner).dropFill x).tileFails c 8
      else
        let ls := (List.range 64).map fun i => LineRead.of (tgetD g.lines i 0)
        match moveTile ls moves a.src a.owner with
        | none => (s.dropFill x).tileFails c 8
        | some ds =>
          let s := s.fillSlot x { g with lines := nonzero ds }
          let s := if x.doomed then (s.freeSlot x.idx).retryWaits else (s.installStores tile).serveReads tile
          s.tileDone c

/-- Take a slot for a transfer and fill it, unless its victim's write-back comes first. -/
def State.takeAndFill (s : State) (c : Nat) (a : TileAt) (win : Option Nat) (pos : Nat) (rd : TileRead) (moves : List (Fin 64 × Carry)) : State :=
  let (_, s) := s.allocate (tileNo a.src) a.owner none (some c) win pos
  match s.chanSlot c with
  | some x => if x.st = .filling then s.fillOwn c x a rd moves else s
  | none => s

/-- A tile of a FETCH or STREAM that is not resident, or whose own fill goes on. -/
def State.fillStep (s : State) (c : Nat) (a : TileAt) (win : Option Nat) (pos : Nat) (rd : TileRead) (moves : List (Fin 64 × Carry)) : State :=
  match s.chanSlot c with
  | some x => if x.st = .filling then s.fillOwn c x a rd moves else s
  | none => s.takeAndFill c a win pos rd moves

/-- FETCH (04 Table 04-2). -/
def State.fetchTile (s : State) (c : Nat) (a : TileAt) (rd : TileRead) (moves : List (Fin 64 × Carry)) : State :=
  if (s.chanSlot c).isNone && (s.slotOf (tileNo a.src)).isSome then s.tileDone c else s.fillStep c a none 0 rd moves

/-- A slot whose lines have been read out and stored. -/
def Slot.written (x : Slot) (dirty : Mask) : Slot :=
  { x with dirty := dirty, wb := none, st := if x.win.isSome then .window else if dirty = 0 then .clean else .dirty }

/-- WRITEBACK (04 Table 04-2). A tile whose growth is not allowed becomes PINNED (02:R75). -/
def State.writebackTile (s : State) (c : Nat) (a : TileAt) (o : PackOutcome) : State :=
  let tile := tileNo a.src
  match s.slotOf tile with
  | none => s.tileDone c
  | some x =>
    if x.dirty = 0 then s.tileDone c
    else
      let free := s.usableFree
      let pin (s : State) : State := ((s.setSlot { x with st := .pinned }).evalCredits).stallChan c 5
      let (b, s) := s.snapshot x .keep
      let (r, s) := s.build tile x.holder b.lines b.poison b.crc o
      match r with
      | .zero => ((s.zeroTile tile).setSlot (x.written 0)).review free |>.tileDone c
      | .pinned => pin s
      | .record r =>
        if !s.growthOk tile r.sectors then pin s
        else ((s.packRecord r (s.plan.classOf tile) none).setSlot (x.written 0)).review free |>.tileDone c

/-- Write 64 lines into T1 through the write queue. -/
def State.writeFastTile (s : State) (c a : Nat) (ls : List Line) : State :=
  ((List.range 64).zip ls).foldl (fun s (i, d) =>
    let dpa := a + i * 64
    s.queueT1 ((dpa - fastBase) / 64) d allOnes false (s.sealKey 1 dpa) (some c) (srcChan c) ((s.owner c).getD 0xFFF)) s

/-- The lines of a COPY land in a dense tile that is not resident: programmed out of place (04 Table 04-2). -/
def State.copyOut (s : State) (c tile : Nat) (h : Holder) (ls : List Line) (o : PackOutcome) : State :=
  let free := s.usableFree
  let (b, s) := s.build tile h (nonzero ls) 0 (tileCrc ls tile) o
  match b with
  | .zero => ((s.zeroTile tile).review free).tileDone c
  | .pinned => s.stallChan c 5
  | .record r =>
    if !s.growthOk tile r.sectors then (s.setChan c { s.chan c with need := some r.sectors }).stallChan c 5
    else ((s.packRecord r (s.plan.classOf tile) none).review free).tileDone c

/-- The lines of a COPY land in a resident dense tile: each becomes valid, dirty and unpoisoned (04 Table 04-2). -/
def State.copyIn (s : State) (c tile : Nat) (ls : List Line) : State :=
  let s := ((List.range 64).zip ls).foldl (fun s (i, d) => match s.slotOf tile with
    | some x => s.storeSlot x i d allOnes false false
    | none => s) s
  s.evalCredits.tileDone c

/-- COPY (04 Table 04-2). -/
def State.copyTile (s : State) (c : Nat) (a : TileAt) (rd : TileRead) (again : Reread) (o : PackOutcome) (moves : List (Fin 64 × Carry)) : State :=
  let ts := tileNo a.src
  let stored : Bool := !isFast a.src && (s.slotOf ts).isNone
  if stored && s.retryRuns c ts rd then s.startRetry c rd
  else
    s.atBank (if stored then s.tileBank ts else none) (.ferry c) fun s =>
      let (t, s) := if isFast a.src then s.readFastTile c a.src a.owner again else s.readDenseTile c ts a.owner rd
      if t.ue then s.tileFails c 8
      else if t.poison then s.tileFails c 9
      else
        match moveTile t.lines moves a.src a.owner with
        | none => s.tileFails c 8
        | some ls =>
          if isFast a.dst then ((s.writeFastTile c a.dst ls).evalCredits).tileDone c
          else if (s.slotOf (tileNo a.dst)).isSome then s.copyIn c (tileNo a.dst) ls
          else s.copyOut c (tileNo a.dst) a.owner ls o

/-- FILL (04 Table 04-2): byte i receives byte i mod 4 of the pattern. Its lines cross the fabric under the destination's DPA (log entry 81). -/
def State.fillTile (s : State) (c : Nat) (a : TileAt) (moves : List (Fin 64 × Carry)) : State :=
  let p := (s.chan c).pattern
  let line : Line := pack 512 ((List.range 16).map fun i => (4 * i, 4, p.toNat))
  match moveTile (List.replicate 64 (.of line)) moves a.dst a.owner with
  | none => s.tileFails c 8
  | some ls => ((s.writeFastTile c a.dst ls).evalCredits).tileDone c

/-- VERIFY reads one fast line from its array; the queue is not laid over it (04 Table 04-2). True where it is uncorrectable: a line that
only holds poison words passes (log entry 22). -/
def State.verifyLine (s : State) (c a : Nat) (h : Holder) (again : List (Nat × Nat)) : Bool × State :=
  let ws := s.t1Words a
  let d := decLine (lineFold a) ws
  let (cls, fixes) := checked s.md.restrict.witnessExpired d fun _ => decLine (lineFold a) (rereadWords ws again)
  let s := s.countT1 (s.lineBank a) a false cls fixes
  match cls with
  | .double => (!marked a ws, s.custody 0x0C (srcChan c) (fastBase + a * 64) h)
  | .addrFault => (true, s.custody 0x0C (srcChan c) (fastBase + a * 64) h)
  | _ => (false, s)

/-- VERIFY (04 Table 04-2): the stored copy is read from its array. -/
def State.verifyTile (s : State) (c : Nat) (a : TileAt) (rd : TileRead) (again : Reread) : State :=
  if isFast a.src then
    let (ue, s) := (List.range 64).foldl (fun (acc : Bool × State) i =>
      let (ue, s) := acc.2.verifyLine c ((a.src - fastBase) / 64 + i) a.owner (rereadOf again i)
      (acc.1 || ue, s)) (false, s)
    if ue then s.tileFails c 8 else s.tileDone c
  else
    let tile := tileNo a.src
    if s.retryRuns c tile rd then s.startRetry c rd
    else
      s.atBank ((tget s.t2.tileMap tile).map fun e => s.part.pageBank e.page) (.ferry c) fun s =>
        let (g, s) := s.readStored tile ((s.chan c).reading.getD rd)
        if g.ue then (s.reportTile g (srcChan c) tile a.owner).tileFails c 8 else s.tileDone c

/-- STREAM: one position into the window (04:R116, R117). -/
def State.streamTile (s : State) (c : Nat) (a : TileAt) (rd : TileRead) (moves : List (Fin 64 × Carry)) : State :=
  let pos := (s.chan c).filled.toNat
  match s.windowOf c with
  | none => s
  | some (w, _, _) =>
    match (if (s.chanSlot c).isNone then s.slotOf (tileNo a.src) else none) with
    | some y => (if y.win = some w then s.setSlot { y with pos := pos } else s).tileDone c
    | none => s.fillStep c a (some w) pos rd moves

/-- The stall causes that hold for a channel's next step (04:R110). -/
def State.stallNow (s : State) (c : Nat) : Nat :=
  match s.tileAt c with
  | some a => s.stepCause c (s.chan c).op.toNat a
  | none => 0

/-! ### Meanings -/

/-- ROUTE_HEADER_LOADED (04:R107, R112). -/
def execRouteHeaderLoaded (channel : Fin 64) (again : Reread) (s : State) : Out :=
  let s := s.fresh
  let c := channel.val
  match s.owner c with
  | some h => if s.ferryRuns && (s.chan c).state = .loading then .next (s.loadHeader c h (rereadOf again 0)) else .next s
  | none => .next s

/-- A fetched leg stands (04:R108). -/
def State.legStands (s : State) (x : Chan) (l : Leg) : Bool :=
  let sum := x.base.toNat + l.count.toNat
  s.legOk x.op.toNat l && decide (sum ≤ x.total.toNat) && (!(x.leg.toNat + 1 == x.legs.toNat) || sum == x.total.toNat) &&
    decide (x.leg.toNat < x.legs.toNat)

/-- LEG_FETCH (04:R107, R108): the next leg of a RUNNING channel is fetched and checked. -/
def execLegFetch (channel : Fin 64) (again : Reread) (s : State) : Out :=
  let s := s.fresh
  let c := channel.val
  let x := s.chan c
  match s.owner c with
  | some h =>
    if !(s.ferryRuns && x.state = .running && x.cur.isNone) then .next s
    else if x.complete then .next (s.endIfDone c)
    else
      let dpa := x.route.toNat + 64 + 32 * x.leg.toNat
      let (cause, d, s) := s.routeLine c h (dpa / 64 * 64) (rereadOf again 0)
      if !(cause = 0) then .next (s.haltChan c cause)
      else
        match legOf d (dpa % 64 / 32) with
        | none => .next (s.haltChan c 6)
        | some l =>
          if s.legStands x l then .next (s.setChan c ({ s.chan c with cur := some l } : Chan).normal)
          else .next (s.haltChan c 6)
  | none => .next s

/-- FETCH_TILE (04:R100). -/
def execFetchTile (channel : Fin 64) (read : TileRead) (moves : List (Fin 64 × Carry)) (s : State) : Out :=
  .next (s.fresh.tileStep channel.val 1 fun a s => s.fetchTile channel.val a read moves)

/-- WRITEBACK_TILE (04:R100). -/
def execWritebackTile (channel : Fin 64) (outcome : PackOutcome) (s : State) : Out :=
  .next (s.fresh.tileStep channel.val 2 fun a s => s.writebackTile channel.val a outcome)

/-- COPY_TILE (04:R100, R101). -/
def execCopyTile (channel : Fin 64) (read : TileRead) (again : Reread) (outcome : PackOutcome) (moves : List (Fin 64 × Carry)) (s : State) : Out :=
  .next (s.fresh.tileStep channel.val 3 fun a s => s.copyTile channel.val a read again outcome moves)

/-- FILL_TILE (04:R100). -/
def execFillTile (channel : Fin 64) (moves : List (Fin 64 × Carry)) (s : State) : Out :=
  .next (s.fresh.tileStep channel.val 4 fun a s => s.fillTile channel.val a moves)

/-- VERIFY_TILE (04:R100). -/
def execVerifyTile (channel : Fin 64) (read : TileRead) (again : Reread) (s : State) : Out :=
  .next (s.fresh.tileStep channel.val 5 fun a s => s.verifyTile channel.val a read again)

/-- STREAM_FILL (04:R116-R118). With every position below mark + lead filled, the channel stalls with WINDOW. -/
def execStreamFill (channel : Fin 64) (read : TileRead) (moves : List (Fin 64 × Carry)) (s : State) : Out :=
  let c := channel.val
  let s := (s.fresh.passBelow c).endIfDone c
  if !((s.chan c).op == 6) then .next s.fresh
  else
    match s.windowOf c with
    | some (_, _, lead) =>
      let x := s.chan c
      if x.state = .running && s.ferryRuns && !s.inFlightOf c && decide (min (x.mark.toNat + lead) x.total.toNat ≤ x.filled.toNat) then
        .next (s.stallChan c 6)
      else .next (s.tileStep c 6 fun a s => s.streamTile c a read moves)
    | none => .next s

/-- STALL_CLEARED (04:R110): the channel runs again, or shows the cause that still holds. A wait for a bank grant or a page retry ends
with this event. -/
def execStallCleared (channel : Fin 64) (s : State) : Out :=
  let c := channel.val
  let s := s.fresh
  if !(s.ferryRuns && (s.chan c).state = .stalled) then .next s
  else
    match s.stallNow c with
    | 0 => .next (s.setChan c (s.chan c).running)
    | k => .next (s.stallChan c k)

/-- FERRY_STALL_TIMEOUT (04:R111): 1 ms STALLED without a break for a cause other than WINDOW. -/
def execFerryStallTimeout (channel : Fin 64) (s : State) : Out :=
  let c := channel.val
  let s := s.fresh
  let x := s.chan c
  match x.stallSince with
  | some t =>
    if x.state = .stalled && !x.stallTold && s.since t msec then
      .next ((s.setChan c { x with stallTold := true }).raise 5 0x12 (srcChan c) (pay [(16, 1, x.stall.toNat)]))
    else .next s
  | none => .next s

/-- ABORT_COMPLETE (04:R114): once no transfer of the channel is in flight. -/
def execAbortComplete (channel : Fin 64) (s : State) : Out :=
  let c := channel.val
  let s := s.fresh
  let x := s.chan c
  if s.ferryRuns && x.state = .aborting && !s.inFlightOf c then .next (s.finishRoute c 2) else .next s

/-- CHANNEL_PARKED (04:R124): in CAUSEWAY, a channel that is not idle parks at its tile boundary, once its transfer in flight has ended. -/
def execChannelParked (channel : Fin 64) (s : State) : Out :=
  let c := channel.val
  let s := s.fresh
  let x := s.chan c
  if s.md.mode = .causeway && (x.state.active || x.state = .aborting) && !s.inFlightOf c then
    .next (s.setChan c { x.landed with state := .parked, stall := 0, halt := 0, stallSince := none, stallTold := false,
                                       parkedRoute := some (x.op, x.leg, x.tile, x.tag) })
  else .next s

/-- BANK_WAIT_STALL (04:R110): a transfer that was issued has waited 1 µs for a bank grant. -/
def execBankWaitStall (channel : Fin 64) (s : State) : Out :=
  let c := channel.val
  let s := s.fresh
  let x := s.chan c
  match s.tileAt c with
  | none => .next s
  | some a =>
    if !(s.ferryRuns && x.state = .running) || x.complete || s.engineFull c then .next s
    else
      let (ok, s) := s.issue c x.op.toNat a
      if !ok then .next (s.haltChan c 7)
      else
        let s := s.stallChan c 1
        .next (s.setChan c { s.chan c with bankWait := true })

end Sys2Proof.Machine
end

