-- ==== Sys2Proof/Machine/HostLink.lean ====
section
/-! DEFINITION. CXL.mem requests, write credits, ports, decoders and flush (spec/11, 02 Table 02-2, 10 Table 10-10). -/

namespace Sys2Proof.Machine

open Sys2Proof

/-! ### Ports and decoders (11:R273-R278) -/

/-- The port accepts CXL.mem requests: trained with CXL.mem enabled, its Req credits advertised (11:R274, R280, 16:R411). -/
def State.memUp (s : State) (p : Port) : Bool := (s.port p).trained && (s.port p).memOn && decide (0 < (s.port p).req)

/-- A committed decoder covers the DPA; its HPA size is its DPA size times its ways (11:R277). -/
def HdmDecoder.covers (d : HdmDecoder) (dpa : Nat) : Bool := d.committed && decide (d.base ≤ dpa) && decide (dpa < d.base + d.size)
def HdmDecoder.hpaSize (d : HdmDecoder) : Nat := d.size * d.ways
def HdmDecoder.none : HdmDecoder := ⟨false, 0, 0, 0, 0⟩

/-- The request lies inside a committed decoder of its port (11:R278, Table 11-4). -/
def State.decoded (s : State) (p : Port) (dpa : Nat) : Bool := (s.port p).decoders.any fun d => d.covers dpa

/-- The holder ID of a request (10:R249). A SPID comes only at 64 GT/s (11:R274). -/
def State.holderOf (s : State) (p : Port) (spid : Option (BitVec 12)) : Holder :=
  resolve s.cad.holders p (if (s.port p).rate = 64 then spid else none)

def portSource (p : Port) : Byte := BitVec.ofNat 8 p.val

/-- A request outside every committed decoder (11:R278). -/
def State.noDecoder (s : State) (p : Port) (h : Holder) (kind : BitVec 3) : State :=
  s.cadFault ⟨0, (portSource p), 0xFFFFFFFFC0, cUnbacked, kind, h, none⟩

/-! ### Reads (11:R283, 02:R57, R63, R64) -/

/-- A read of the dense range: a hit, or a wait on the demand fetch. -/
def State.readDense (s : State) (p : Port) (tile line : Nat) (h : Holder) (out : Option Carry) : State :=
  let wait : State :=
    ({ s with link := { s.link with waits := s.link.waits ++ [⟨p, tile, line, h, s.clk.ts, out⟩] } } : State).demandMiss tile h (some p)
  match (if s.storesFor tile then none else s.slotOf tile) with
  | some x => if x.valid.getLsbD line then s.answerDense x p line h out else wait
  | none => wait

/-- One MemRd: it takes a Req credit, which goes back with it (11:R280). -/
def State.hostRead (s : State) (p : Port) (spid : Option (BitVec 12)) (dpa : Nat) (out : Option Carry) (again : Reread) : State :=
  if !s.memUp p then s
  else
    let h := s.holderOf p spid
    if !s.decoded p dpa then (s.noDecoder p h 0).respond (.memData p 0 true)
    else
      let t := targetOf s.part s.t0.scratchMiB dpa
      let (ok, s) := s.look t.gate (lineAddr dpa) h 0 0 (portSource p)
      if !ok then s.respond (.memData p 0 true)
      else
        match t with
        | .scratch l =>
          let (r, s) := match tget s.t0.scratch l with
            | some x => s.readT0 l (some x.words) x.poison
            | none => s.readT0 l none false
          s.answerLine p (lineAddr dpa) h r out
        | .harbor c => s.answerLine p (lineAddr dpa) h (.of (s.bellRead c)) out
        | .fast a =>
          let (r, s) := s.readT1 a (s.sealKey 1 dpa) (rereadOf again 0)
          s.answerLine p (lineAddr dpa) h r out
        | .dense tile line => s.readDense p tile line h out
        | .hole => s.respond (.memData p 0 true)

/-! ### Writes (11:R280-R283, 06 Table 06-4) -/

/-- Write a scratch line: volatile, complete at acceptance (02:R59, 06:R156). -/
def State.writeScratch (s : State) (l : Nat) (d : Line) (en : Mask) (poison : Bool) : State :=
  if en = 0 then s
  else
    let old := tget s.t0.scratch l
    let bad := match old with | some x => x.poison | none => false
    let x : T0Line := ⟨writeT0 l (old.map (·.words)) d en, if poison then true else if en = allOnes then false else bad⟩
    { s with
      t0 := { s.t0 with scratch := tset s.t0.scratch l x }
      t1 := { s.t1 with corrections := cancelCorrections false l en s.t1.corrections } }

/-- The carriage CRC's key of a write (06 Table 06-2). -/
def inKey (en : Mask) (dpa : Nat) (h : Holder) : CarryKey := ⟨en, dpa, h, dirIn⟩

/-- An accepted write of a passed line, under the carriage CRC that the link shore put on it. A hop that fails makes the line poisoned, or
the doorbell not acted on, with ECC_UE (06 hops 0x02 to 0x04). -/
def State.writeLine (s : State) (p : Port) (t : Target) (dpa : Nat) (h : Holder) (d : Line) (en : Mask) (poison : Bool) (carry : Option Carry) :
    State :=
  let key := inKey en dpa h
  let good := carryOk carry (carriageCrc d key) d key
  let hop (s : State) (n : Nat) : State := if good then s else s.custody n (srcPort p) dpa h
  let bad := poison || !good
  let d := if bad then 0 else carried carry d
  match t with
  | .scratch l => (hop s 0x02).writeScratch l d (if good then en else allOnes) bad
  | .harbor c =>
    let s := hop s 0x04
    if bad then s else s.ringBell c h d en (portSource p)
  | .fast a =>
    let s := hop s 0x03
    s.queueT1 a d en bad (s.sealKey 1 dpa) none (srcPort p) h
  | .dense tile line => (hop s 0x02).storeDense tile line d (if good then en else allOnes) bad h (some p)
  | .hole => s

/-- One MemWr or MemWrPtl on a held credit: always completed with Cmp (11:R280). -/
def State.hostWrite (s : State) (p : Port) (spid : Option (BitVec 12)) (dpa : Nat) (d : Line) (en : Mask) (poison : Bool)
    (carry : Option Carry) : State :=
  if !s.memUp p || (s.port p).credits = 0 then s
  else
    let free := s.usableFree
    let s := s.spendCredit p
    let h := s.holderOf p spid
    if !s.decoded p dpa then ((s.noDecoder p h 1).respond (.memCmp p)).evalCredits
    else
      let t := targetOf s.part s.t0.scratchMiB dpa
      let (ok, s) := s.look t.gate (lineAddr dpa) h 1 1 (portSource p)
      let s := if ok && !(en = 0) then s.writeLine p t (lineAddr dpa) h d en poison carry else s
      (s.respond (.memCmp p)).review free

/-! ### Meanings -/

/-- MEMRD (02:R63). -/
def execMemrd (port : Port) (spid : Option (BitVec 12)) (dpa : Dpa) (out : Option Carry) (again : Reread) (s : State) : Out :=
  .next (s.fresh.hostRead port spid dpa.toNat out again)

/-- MEMSPECRD (11 Table 11-3): discarded. -/
def execMemspecrd (_port : Port) (_dpa : Dpa) (s : State) : Out := .next s.fresh

/-- MEMINV (11 Table 11-3): Cmp, no change to memory. -/
def execMeminv (port : Port) (_dpa : Dpa) (s : State) : Out :=
  let s := s.fresh
  .next (if s.memUp port then s.respond (.memCmp port) else s)

/-- MEMWR (02:R61, 11:R280). -/
def execMemwr (port : Port) (spid : Option (BitVec 12)) (dpa : Dpa) (data : Line) (poison : Bool) (carry : Option Carry) (s : State) : Out :=
  .next (s.fresh.hostWrite port spid dpa.toNat data allOnes poison carry)

/-- MEMWRPTL (02:R60, 11:R280). -/
def execMemwrptl (port : Port) (spid : Option (BitVec 12)) (dpa : Dpa) (data : Line) (enables : Mask) (poison : Bool)
    (carry : Option Carry) (s : State) : Out :=
  .next (s.fresh.hostWrite port spid dpa.toNat data enables poison carry)

/-- M2S_UNSUPPORTED (11:R275). -/
def execM2sUnsupported (port : Port) (opcode : Byte) (s : State) : Out :=
  let s := s.fresh
  if s.memUp port then .next ((s.respond (.memUnsupported port)).note 0x42 (srcPort port) (pay [(16, 1, opcode.toNat)]))
  else .next s

/-- RWD_CREDIT_RETURN (11:R281): the credit that is next goes back when every rule allows it. -/
def execRwdCreditReturn (port : Port) (s : State) : Out :=
  let s := s.fresh
  if s.inService && s.link.memActive && s.memUp port && s.creditTurn port then
    let s := s.evalCredits
    if s.creditFree then .next (s.returnCredit port).evalCredits else .next s
  else .next s

/-- The link shore and CXL.io state of one port are reset; its credits and its reads in flight go with it (11:R276). -/
def State.resetPort (s : State) (p : Port) : State :=
  let s := s.setPort p .down
  let s := { s with link := { s.link with freed := s.link.freed.filter fun q => !(q == p)
                                          waits := s.link.waits.filter fun w => !(w.port == p) } }
  s.evalCredits

/-- The domain of a port is on (15 Table 15-2: PD1, PD2). -/
def State.portPowered (s : State) (p : Port) : Bool := s.pd (1 + p.val) && decide (p.val < s.part.ports)

/-- PORT_RESET (11:R276). -/
def execPortReset (port : Port) (_kind : ResetKind) (s : State) : Out :=
  let s := s.fresh
  .next (if s.portPowered port then s.resetPort port else s)

/-- PERST_ASSERT (21:R505). -/
def execPerstAssert (port : Port) (s : State) : Out :=
  let s := s.fresh
  if s.portPowered port then
    let s := s.resetPort port
    .next { s with pin := if port = 0 then { s.pin with perst0 := true } else { s.pin with perst1 := true } }
  else .next s

/-- CAP3 rate encoding (13 Table 13-5). -/
def rateCode (rate : Nat) : Nat := if 64 ≤ rate then 3 else if 32 ≤ rate then 2 else if 16 ≤ rate then 1 else 0

/-- The skip and size of a decoder (11 Table 11-4); none where the decoder is not offered. -/
def Part.decoder (p : Part) (n : Fin 3) : Option (Nat × Nat) :=
  match n.val, p with
  | 0, _ => some (0, 0x10000000)
  | 1, .rbk9208 => some (0x3F0000000, 0x200000000)
  | 1, _ => some (0x3F0000000, 0x400000000)
  | _, .rbk9204 => none
  | _, .rbk9208 => some (0x3A00000000, 0x2000000000)
  | _, _ => some (0x3800000000, 0x4000000000)

/-- The interleave ways and granularities of decoders 1 and 2 (11 Table 11-2). -/
def decodeWays : List Nat := [1, 2, 4, 8]
def decodeGranularities : List Nat := [256, 512, 1024, 2048, 4096, 8192, 16384]

/-- Latency in ns and bandwidth in GB/s of a decoder's range (02 Tables 02-6, 02-7; 0 where they give none; log entry 82). -/
def rangeFigures (n : Fin 3) : Nat × Nat := match n.val with
  | 0 => (24, 0)
  | 1 => (46, 48)
  | _ => (1800, 24)

/-- The decoders that a part offers, with their DPA bases (11 Table 11-4). -/
def Part.decoderRanges (p : Part) : List (Fin 3 × Nat × Nat) :=
  [((0 : Fin 3), 0), (1, fastBase), (2, denseBase)].filterMap fun x => (p.decoder x.1).map fun d => (x.1, x.2, d.2)

/-- What a port's capability structures and CDAT report (11:R273, R277, R284, R288). -/
def Part.caps (p : Part) : CxlCaps where
  io := true
  mem := true
  cache := false
  deviceType := 3
  logicalDevices := 1
  backInvalidate := false
  dynamicCapacity := false
  decoders := p.decoderRanges.length
  ways := decodeWays
  granularities := decodeGranularities
  metadata := false
  viral := false
  ide := false
  tsp := false
  cxlReset := false
  memClr := false
  gpf := true
  gpfPhase2Us := 1
  gpfPhase2Mw := 0
  primaryMailboxes := 1
  secondaryMailboxes := 0
  mctpCci := false
  fmApi := false
  payloadSize := 12
  dsmas := p.decoderRanges.map fun x => (x.2.1, x.2.2, (rangeFigures x.1).1, (rangeFigures x.1).2)

/-- Media Status: Not Ready during RECALL, Ready from the epoch to SERVICE, Error in a stopped recall (16:R411). -/
def State.mediaStatus (s : State) : MediaStatus :=
  if s.md.mode = .recall then (if s.rcl.stage = 15 then .error else .notReady) else .ready

/-- What the host of a port reads of its readiness; the mailbox interface is ready from the end of training (16:R411). -/
def State.portStatus (s : State) (p : Port) : PortStatus := ⟨s.link.memActive, 4, s.mediaStatus, (s.port p).trained⟩

/-- Every trained port shows its readiness. -/
def State.showPorts (s : State) : State :=
  ([0, 1] : List Port).foldl (fun s p => if (s.port p).trained then s.respond (.portStatus p (s.portStatus p)) else s) s

/-- LINK_TRAINED (11:R274, R280): the port's domain is on and it is not yet trained; PERSTn_N is no longer asserted. The host then reads the
port's capability structures (11:R273). -/
def execLinkTrained (port : Port) (width rate : Nat) (s : State) : Out :=
  let s := s.fresh
  if !s.portPowered port || (s.port port).trained then .next s
  else
    let mem : Bool := decide (4 ≤ width) && decide (16 ≤ rate)
    let s : State := { s with pin := if port = 0 then { s.pin with perst0 := false } else { s.pin with perst1 := false } }
    let s := (s.setPort port { PortSt.down with trained := true, width := width, rate := rate, memOn := mem }).respond (.cxlCaps port s.part.caps)
    let s := s.respond (.portStatus port (s.portStatus port))
    if !mem then .next (s.note 0x41 (srcPort port) (pay [(16, 1, width), (17, 1, rateCode rate)]))
    else if s.link.memActive then .next (s.advertise port).evalCredits
    else .next s

/-- The interleave that a decoder may take (11 Table 11-2). -/
def interleaveOk (n : Fin 3) (ways granularity : Nat) : Bool :=
  if n.val = 0 then ways == 1 else decodeWays.contains ways && decodeGranularities.contains granularity

/-- HDM_DECODER_COMMIT (11:R277, Table 11-2). Its base is the end of the previous decoder plus the skip; one refused
decodes nothing. -/
def execHdmDecoderCommit (port : Port) (n : Fin 3) (skip size : Nat) (ways granularity : Nat) (s : State) : Out :=
  let s := s.fresh
  let x := s.port port
  let prev := lgetD x.decoders (n.val - 1) .none
  let base := (if n.val = 0 then 0 else prev.base + prev.size) + skip
  let ok : Bool := (n.val == 0 || prev.committed) && interleaveOk n ways granularity && s.part.decoder n == some (skip, size)
  if !x.trained then .next s
  else .next ((s.setPort port { x with decoders := x.decoders.set n.val ⟨ok, base, size, ways, granularity⟩ }).respond (.decoder port n.val ok))

/-- GPF_PHASE_1 (11:R284): acknowledged at once, no media action. -/
def execGpfPhase1 (port : Port) (s : State) : Out :=
  let s := s.fresh
  .next (if (s.port port).trained then s.respond (.gpfAck port 1) else s)

/-- GPF_PHASE_2 (11:R284). -/
def execGpfPhase2 (port : Port) (s : State) : Out :=
  let s := s.fresh
  .next (if (s.port port).trained then s.respond (.gpfAck port 2) else s)

/-! ### Doorbell rows: a write of a doorbell line (04:R102, Table 04-3) -/

/-- The DPA of a channel's doorbell line (02:R55). -/
def bellDpa (c : Fin 64) : Nat := 0x1000000 + c.val * 64

/-- A doorbell write of a command: route bytes 0-4, command byte 6, mark bytes 8-11, every byte enabled. -/
def State.bellWrite (s : State) (p : Port) (spid : Option (BitVec 12)) (c : Fin 64) (cmd route mark : Nat) : State :=
  s.hostWrite p spid (bellDpa c) (pack 512 [(0, 5, route), (6, 1, cmd), (8, 4, mark)]) allOnes false none

/-- DOORBELL_START. -/
def execDoorbellStart (port : Port) (spid : Option (BitVec 12)) (channel : Fin 64) (route : Dpa) (s : State) : Out :=
  .next (s.fresh.bellWrite port spid channel 1 route.toNat 0)

/-- DOORBELL_MARK. -/
def execDoorbellMark (port : Port) (spid : Option (BitVec 12)) (channel : Fin 64) (mark : Word) (s : State) : Out :=
  .next (s.fresh.bellWrite port spid channel 2 0 mark.toNat)

/-- DOORBELL_RESUME. -/
def execDoorbellResume (port : Port) (spid : Option (BitVec 12)) (channel : Fin 64) (s : State) : Out :=
  .next (s.fresh.bellWrite port spid channel 3 0 0)

/-- DOORBELL_SKIP. -/
def execDoorbellSkip (port : Port) (spid : Option (BitVec 12)) (channel : Fin 64) (s : State) : Out :=
  .next (s.fresh.bellWrite port spid channel 4 0 0)

/-- DOORBELL_ABORT. -/
def execDoorbellAbort (port : Port) (spid : Option (BitVec 12)) (channel : Fin 64) (s : State) : Out :=
  .next (s.fresh.bellWrite port spid channel 5 0 0)

/-- DOORBELL_NOP: command 0x00 does nothing (04 Table 04-4). -/
def execDoorbellNop (port : Port) (spid : Option (BitVec 12)) (channel : Fin 64) (s : State) : Out :=
  .next (s.fresh.bellWrite port spid channel 0 0 0)

/-- DOORBELL_BAD_CMD: a command byte of 0x06 or above. -/
def execDoorbellBadCmd (port : Port) (spid : Option (BitVec 12)) (channel : Fin 64) (cmd : Byte) (s : State) : Out :=
  if !WellFormed (.doorbellBadCmd port spid channel cmd) then .refused (.illFormed "DOORBELL_BAD_CMD")
  else .next (s.fresh.bellWrite port spid channel cmd.toNat 0 0)

end Sys2Proof.Machine
end

