-- ==== Sys2Proof/Machine/Dense.lean ====
section
/-! DEFINITION. Demand fetches, the bypass, write-backs, page programs, reclaim, relocation, gap moves and gate reloads
(spec/02, 05, 07, 08, 10, 18 R442). -/

namespace Sys2Proof.Machine

open Sys2Proof

/-! ### Demand path (02:R64, R67, R72, R79) -/

/-- The slot whose demand fetch ends: the oldest request for the tile. A channel's own fill ends with its tile transfer. -/
def State.fillingSlot (s : State) (tile : Nat) : Option Slot :=
  let mine (x : Slot) : Bool := x.tile == tile && x.st = .filling && x.chan.isNone
  (s.t0.pool.find? fun x => mine x && x.doomed).or (s.t0.pool.find? mine)

/-- ECC_UE is set once for a failed fetch (02:R67). -/
def State.reportFetch (s : State) (g : TileGot) (tile : Nat) (h : Holder) : State :=
  match g.hops with
  | hop :: _ => s.custodyTile hop srcDevice tile h
  | [] => s

/-- A demand fetch ends. -/
def State.fetchDone (s : State) (x : Slot) (rd : TileRead) : State :=
  let (g, s) := s.readTile x.tile rd
  let s := (s.reportFetch g x.tile x.holder).fillSlot x g
  if x.doomed then (s.freeSlot x.idx).retryWaits
  else ((s.installStores x.tile).serveReads x.tile).retryWaits

/-- DEMAND_FETCH_DONE (02:R64, R65, R67, 06:R164). -/
def execDemandFetchDone (tile : Nat) (read : TileRead) (s : State) : Out :=
  let s := s.fresh
  match s.fillingSlot tile with
  | some x =>
    if s.mayFetch then .next (s.atBank (s.tileBank tile) (.host x.port) fun s => (s.fetchDone x read).evalCredits) else .next s
  | none => .next s

/-- The line that a bypass read returns, with the stores that wait for the tile laid over it. -/
def bypassLine (g : TileGot) (tile line : Nat) (l : List WStore) : Line × Bool :=
  (l.filter fun w => w.tile == tile && w.line == line).foldl
    (fun (acc : Line × Bool) w => (mergeLine acc.1 w.data w.enables, if w.enables = allOnes then w.poison else acc.2 || w.poison))
    (tgetD g.lines line 0, (g.stored ||| g.failed).getLsbD line)

/-- Answer a waiting read from a tile that was read without a slot. -/
def State.answerBypass (s : State) (w : WaitRead) (g : TileGot) : State :=
  let (d, bad) := bypassLine g w.tile w.line s.t0.stores
  s.answerLine w.port (denseBase + w.tile * 4096 + w.line * 64) w.holder (if bad then .bad none else .of d) w.out

/-- BYPASS_READ (02:R72): a read that has waited 12 us without a slot is served from a bypass buffer. -/
def execBypassRead (index : Nat) (read : TileRead) (s : State) : Out :=
  let s := s.fresh
  match s.link.waits[index]? with
  | none => .next s
  | some w =>
    if !s.mayFetch || !s.since w.since (12 * usec) || (s.slotOf w.tile).isSome || s.beingTaken w.tile then .next s
    else
      .next (s.atBank (s.tileBank w.tile) (.host (some w.port)) fun s =>
        let s : State := { s with link := { s.link with waits := s.link.waits.eraseIdx index } }
        let (g, s) := s.readTile w.tile read
        let dpa := denseBase + w.tile * 4096 + w.line * 64
        (g.hops.foldl (fun s hop => s.custody hop (srcPort w.port) dpa w.holder) s).answerBypass w g)

/-- The reads of a tile that were looked up before its release complete with the old data (02:R79): in the release cycle, from the copy as
the array holds it (log entry 85). -/
def State.completeWaits (s : State) (tile : Nat) : State :=
  let (old, rest) := s.link.waits.partition fun w => w.tile == tile
  if old.isEmpty then s
  else
    let (g, s) := s.readTile tile .plain
    match s.fillingSlot tile with
    | some x => ((((s.reportFetch g tile x.holder).fillSlot x g).installStores tile).serveReads tile)
    | none =>
      let s : State := { s with link := { s.link with waits := rest } }
      old.foldl (fun s w => s.answerBypass w g) s

/-- QUEUED_STORE_INSTALL (02:R72). -/
def execQueuedStoreInstall (tile : Nat) (s : State) : Out :=
  let s := s.fresh
  if s.storesFor tile && (s.slotOf tile).isSome then
    let free := s.usableFree
    .next (((s.installStores tile).serveReads tile).review free)
  else .next s

/-! ### Write-back (05:R135, R143, 06:R159, 02:R75) -/

/-- A slot that may start its write-back without a victim's request: forced write-back (01:R40) or settle step 2 (15:R382). -/
def State.mayWriteBack (s : State) (x : Slot) : Bool :=
  s.denseWriteOk && !s.releaseHolds x.tile && !(x.dirty = 0) && (x.st = .dirty || x.st = .window) &&
  ((s.md.mode = .service && s.tide.forced) || s.drain.settle == 2)

/-- The slot after its record has entered the buffer: a victim is taken for the tile that asked for it, but for one stored to meanwhile, whose
lines stay dirty (06:R159). -/
def State.afterPack (s : State) (x : Slot) (b : Snapshot) : State :=
  let left := x.dirty &&& ~~~ b.dirty
  match b.next with
  | .take t h p c w pos => if left = 0 then s.takeSlot x.idx t h p c w pos else s.setSlot (x.written left)
  | .keep => s.setSlot (x.written left)

/-- The record of a slot's read-out completes, or the tile is pinned. -/
def State.packSlot (s : State) (x : Slot) (b : Snapshot) (o : PackOutcome) : State :=
  let pin (s : State) : State := (s.setSlot { x with st := .pinned, wb := none }).startSettleDrain
  let (r, s) := s.build x.tile x.holder b.lines b.poison b.crc o
  match r with
  | .zero => (s.zeroTile x.tile).afterPack x b
  | .pinned => pin s
  | .record r =>
    if s.growthOk x.tile r.sectors then (s.packRecord r (s.plan.classOf x.tile) none).afterPack x b else pin s

/-- A write-back that has started goes on, in CAUSEWAY up to port close (06:R164). -/
def State.mayPack (s : State) : Bool := !(s.md.mode = .causeway) || s.drain.step == 2

/-- RECORD_PACKED (05:R135, 02:R74, R75, 06:R159). -/
def execRecordPacked (slot : Nat) (outcome : PackOutcome) (s : State) : Out :=
  let s := s.fresh
  let free := s.usableFree
  match s.slotAt slot with
  | none => .next s
  | some x =>
    match x.wb with
    | some b =>
      if !s.mayPack then .next s
      else if x.doomed then .next ((s.freeSlot slot).retryWaits.review free)
      else .next ((s.packSlot x b outcome).retryWaits.review free)
    | none =>
      if !s.mayWriteBack x then .next s
      else
        let (b, s) := s.snapshot x .keep
        .next ((s.packSlot x b outcome).retryWaits.review free)

/-- The oldest image of a class, and whether it is held for the 1 ms of R203. -/
def State.imageHeld (s : State) (cls : Nat) : Option Stamp :=
  match tgetD s.t2.bufs cls [] with
  | b :: _ => b.rejectedAt
  | [] => none

/-- The requester of a page program: the budget write-back while it is forced; otherwise the accesses that caused the write-back (01:R52). -/
def State.programReq (s : State) : Req := if s.tide.forced then .budget else .host none

/-- Program the oldest image of a class, and act on the sectors that it freed (02:R75, R76). -/
def State.programAt (s : State) (cls page : Nat) (o : ProgramOutcome) : State :=
  let free := s.usableFree
  s.atBank (some (s.part.pageBank page)) s.programReq fun s => (s.programImage cls page o).review free

/-- PAGE_PROGRAM (08:R202, R203, 05:R138). -/
def execPageProgram (cls : Fin 8) (page : Nat) (outcome : ProgramOutcome) (s : State) : Out :=
  let s := s.fresh
  match s.imageHeld cls.val with
  | none => .next (s.programAt cls.val page outcome)
  | some _ => .next s

/-- PAGE_PROGRAM_RETRY (08:R203): 1 ms after the third rejection. -/
def execPageProgramRetry (cls : Fin 8) (page : Nat) (outcome : ProgramOutcome) (s : State) : Out :=
  let s := s.fresh
  match s.imageHeld cls.val with
  | some t => .next (if s.since t msec then s.programAt cls.val page outcome else s)
  | none => .next s

/-- A page is preset, with its re-presets (08:R202): it is free, and the cells that still read 1 stay so. -/
def State.presetPage (s : State) (page : Nat) (o : PresetOutcome) : State :=
  let s : State := { s with t2 := { s.t2 with
    pages := tdel s.t2.pages page, toPreset := s.t2.toPreset.filter fun q => !(q == page)
    left := if o.left.isEmpty then tdel s.t2.left page else tset s.t2.left page o.left } }
  s.setWear (s.part.pageBank page) fun w => { w with presets := satAdd w.presets (1 + min 2 o.again) }

/-- PAGE_PRESET (05:R139): a page whose last piece was freed; also one that recall found unreferenced (05:R143). -/
def execPagePreset (page : Nat) (outcome : PresetOutcome) (s : State) : Out :=
  let s := s.fresh
  if s.denseOn && (s.md.mode = .service || s.md.mode = .recall) && s.t2.toPreset.contains page then
    .next (s.atBank (some (s.part.pageBank page)) .steward fun s => s.presetPage page outcome)
  else .next s

/-- A commit of the tile map may pass: in CAUSEWAY until the copy has ended (17, "Corners"), and never in the quiet of DORMANT. -/
def State.mayCommit (s : State) : Bool :=
  match s.md.mode with
  | .causeway => s.drain.step == 2 || s.drain.step == 4
  | .dormant => decide (1 ≤ s.drain.settle)
  | _ => true

/-- WRITE_BACK_COMMIT (05:R143, 07:R182): the oldest record of the tile, once its pieces are programmed. -/
def execWriteBackCommit (tile : Nat) (s : State) : Out :=
  let s := s.fresh
  let free := s.usableFree
  match takeFirst (fun m : Moving => m.tile == tile) s.t2.moving with
  | some (m, rest) =>
    if m.placed && !s.releaseHolds tile && s.mayCommit then
      .next (({ s with t2 := { s.t2 with moving := rest } } : State).commitMoving m |>.review free)
    else .next s
  | none => .next s

/-! ### Reclaim, relocation and start-gap moves (05:R144, R146, 07:R181, 18:R442) -/

/-- A piece's move is under way. -/
def State.beingMoved (s : State) (tile : Nat) : Bool := s.t2.moving.any fun m => m.tile == tile && m.origin.isSome

/-- A Release Tiles walk holds a piece of the page: its move waits (11:R295). -/
def State.pageHeld (s : State) (page : Nat) : Bool := match tget s.t2.pages page with
  | some p => p.pieces.any fun x => s.releaseHolds x.tile
  | none => false

/-- Reclaim can gather the page: sectors of it are freed and a live piece is not yet on its way. -/
def State.reclaimable (s : State) (page : Nat) (p : Page) : Bool :=
  !p.freed.isEmpty && (p.pieces.any fun x => !s.beingMoved x.tile) && !s.pageHeld page

def Page.live (p : Page) : Nat := sumBy (·.count) p.pieces

/-- The rank of reclaim: the steward's, and budget write-back's when fewer than 8,192 whole free preset pages are left (05:R144). -/
def State.reclaimReq (s : State) : Req := if s.freePages < 8192 then .budget else .steward

/-- RECLAIM (05:R144): a page with the fewest live sectors. -/
def execReclaim (page : Nat) (reads : List (Nat × PageRead)) (s : State) : Out :=
  let s := s.fresh
  match tget s.t2.pages page with
  | some p =>
    if s.denseCareOk && s.reclaimable page p && s.t2.pages.all fun q => !s.reclaimable q.1 q.2 || decide (p.live ≤ q.2.live) then
      .next (s.atBank (some (s.part.pageBank page)) s.reclaimReq fun s => s.movePage page reads)
    else .next s
  | none => .next s

/-- Where charter page c lies is written anew. -/
def State.setCharter (s : State) (c : Nat) (x : CharterAt) : State := { s with t2 := { s.t2 with charter := tset s.t2.charter c x } }

/-- Count the programs of a fast bank's charter page (18:R442): 68 lines, each program and preset in place. -/
def State.countCharterFast (s : State) (page n : Nat) : State :=
  s.setWear (page % 128) fun w => { w with programs := satAdd w.programs n }

/-- A charter page moves to a free page, its image unchanged, generation included (18:R442); a program that is not accepted is rejected,
and the page stays queued. The old place waits for its preset. -/
def State.moveCharter (s : State) (c page target : Nat) (img : PageImg) (rest : List Nat) (o : ProgramOutcome) : State :=
  if !s.pageFree target || !s.ceilingReady then s
  else
    let (left, presets, s) := s.takePage target o.preset
    let s := s.countPage target presets (min o.extraPulses 3)
    let wrong := wrongCells img left o.wrong
    if 72 < wrong.length * 4 then s.rejectPage target
    else
      let s : State := { s with t2 := { s.t2 with
        relocQ := rest, pages := tset s.t2.pages page ⟨{ img with dir := [] }, [], []⟩, toPreset := s.t2.toPreset ++ [page] } }
      s.setCharter c ⟨target, img.gen, wrong⟩

/-- Relocate charter page c, which lies at a page: moved out of place, or on the RBK-9204 rewritten where it lies (18:R442). -/
def State.relocCharter (s : State) (c page target : Nat) (rest : List Nat) (reads : List (Nat × PageRead)) (o : ProgramOutcome) : State :=
  let (g, s) := s.readPage page 72 (s.charterAt c).gen 0xA5 (fun _ => true) (readOf reads page)
  match g.img? with
  | none => (({ s with t2 := { s.t2 with relocQ := rest } } : State).custodyTile 0x09 srcDevice page 0)
  | some img =>
    if s.part.dense then s.moveCharter c page target img rest o
    else
      let s := s.countCharterFast page 68
      ({ s with t2 := { s.t2 with relocQ := rest } } : State).setCharter c ⟨page, img.gen, wrongCells img o.preset.left o.wrong⟩

/-- Relocations run: the dense tier's in SERVICE below INHIBIT, a fast die's rewrite as a T1 program does (07:R193, 05:R148). -/
def State.mayRelocate (s : State) : Bool :=
  if s.part.dense then s.denseCareOk else s.md.mode = .service && s.pd 7 && !s.md.restrict.fieldRo

/-- RELOCATION (07:R181, R183): the first page of the queue that no Release Tiles walk holds. -/
def execRelocation (reads : List (Nat × PageRead)) (target : Nat) (outcome : ProgramOutcome) (s : State) : Out :=
  let s := s.fresh
  match takeFirst (fun page => !s.pageHeld page) s.t2.relocQ with
  | some (page, rest) =>
    if !s.mayRelocate then .next s
    else
      .next (s.atBank (some (s.pageBank page)) .steward fun s =>
        match s.charterOf page with
        | some c => s.relocCharter c page target rest reads outcome
        | none => ({ s with t2 := { s.t2 with relocQ := rest } } : State).movePage page reads)
  | none => .next s

/-- The region page at a position of a region. -/
def regionPageAt (m start gap pos : Nat) : Nat := ((if gap < pos then pos - 1 else pos) + m - start) % m

/-- The cells that a copy of a page leaves wrong. -/
def State.setPageErrs (s : State) (page : Nat) (errs left : List Nat) : State :=
  match tget s.t2.pages page, s.charterOf page with
  | some p, _ => { s with t2 := { s.t2 with pages := tset s.t2.pages page { p with errs := errs } } }
  | none, some c => s.setCharter c { s.charterAt c with errs := errs }
  | none, none => { s with t2 := { s.t2 with left := if left.isEmpty then tdel s.t2.left page else tset s.t2.left page left } }

/-- A region's start and gap after its move. -/
def Region.moved (g : Region) (m : Nat) : Region :=
  if g.gap = 0 then ⟨(g.start + 1) % m, m, g.programs - 128⟩ else ⟨g.start, g.gap - 1, g.programs - 128⟩

/-- Copy the page before the gap into it (05:R146). The copy corrects its source, and start and gap change only after it: a source that
cannot be read, or a target that is not accepted, leaves them (log entry 83). The copy's own program is no program of the region's next
128 (log entry 84). -/
def State.moveGapT2 (s : State) (bank r : Nat) (read : PageRead) (o : ProgramOutcome) : State :=
  let g := s.region bank r
  let m := s.part.regionPages bank r
  let src := if g.gap = 0 then m else g.gap - 1
  let page := s.part.pageAt bank (regionPageAt m g.start g.gap src * 8 + r)
  let i := (s.stored page).1
  let (got, s) := s.readPage page i.t i.gen i.magic (fun _ => true) read
  match got.img? with
  | none => s.custodyTile 0x09 srcDevice page 0
  | some img =>
    let wrong := wrongCells img o.preset.left o.wrong
    let s := s.setWear bank fun w =>
      { w with programs := satAdd w.programs (1 + min o.extraPulses 3), presets := satAdd w.presets (1 + min 2 o.preset.again) }
    let s := s.countRetries bank (min o.extraPulses 3)
    if img.t < wrong.length * 4 then
      (s.setBank bank fun e => { e with writeFails := satAdd e.writeFails 1 }).note 0x24 (srcBank bank) (pay [(16, 1, 1), (17, 4, page)])
    else
      let s : State := { s with t2 := { s.t2 with regions := tset s.t2.regions (regionKey bank r) (g.moved m) } }
      (s.setPageErrs page wrong o.preset.left).setWear bank fun w => { w with gapMoves := satAdd w.gapMoves 1 }

/-- GAP_MOVE_T2 (05:R146). -/
def execGapMoveT2 (bank : Nat) (region : Fin 8) (read : PageRead) (outcome : ProgramOutcome) (s : State) : Out :=
  let s := s.fresh
  if s.denseCareOk && decide (128 ≤ bank) && decide (bank < 128 + s.part.denseBanks) && decide (128 ≤ (s.region bank region.val).programs) then
    .next (s.atBank (some bank) .steward fun s => s.moveGapT2 bank region.val read outcome)
  else .next s

/-- GATE_RELOAD_DONE (10:R258). -/
def execGateReloadDone (gate : Fin 5) (s : State) : Out :=
  let s := s.fresh
  if lgetD s.cad.reload gate.val false && s.stewardUp then
    .next { s with cad := { s.cad with reload := s.cad.reload.set gate.val false, damage := s.cad.damage.filter fun d => !(d.1 == gate) } }
  else .next s

end Sys2Proof.Machine
end

