-- ==== Sys2Proof/Machine/Causeway.lean ====
section
/-! DEFINITION. The causeway region and the DRAIN record: its lines and their byte codes, what a drain copies into it, and how a record is
found and read back (spec/17 R429-R433, 06 hops 0x0F, 0x10). -/

namespace Sys2Proof.Machine

open Sys2Proof

/-! ### Region lines (17:R430, R431, 07 Table 07-4) -/

/-- The line address A of region line n; the fast range's lines all lie below it. -/
def regionA (n : Nat) : Nat := 0x10000000 + n
def regionFold (n : Nat) : BitVec 3 := lineFold (regionA n)
/-- The first line of a half. -/
def halfBase (half : Bool) : Nat := if half then 0x100000 else 0

/-- The skip word: the code of 0x00 with its five check bits inverted. -/
def skipWord (f : BitVec 3) : Code13 := encByte f 0 ^^^ 0x1F00

/-- The stored words of a region line. -/
def State.regionWords (s : State) (n : Nat) : List Code13 :=
  match tget s.drain.region n with
  | some x => unpackWords x
  | none => encLine (regionFold n) 0

def State.putRegion (s : State) (n : Nat) (ws : List Code13) : State :=
  { s with drain := { s.drain with region := tput (packWords (encLine (regionFold n) 0)) s.drain.region n (packWords ws) } }

/-- Program a region line, verified inline and retried as Table 08-3 gives; the region is not levelled (08:R212). -/
def State.writeRegion (s : State) (n : Nat) (ws : List Code13) (flips : List (Fin 64 × Fin 13)) (tries : Tries) : State :=
  let b := n % s.part.fastBanks
  let wrong := (List.range 64).filter fun i => flips.any fun p => p.1.val == i
  let stuck := flips.filter fun p => decide (3 < triesOf tries p.1.val)
  let s := s.putRegion n (((List.range 64).zip ws).map fun (i, w) => flipped stuck i w)
  let s : State := { s with t1 := { s.t1 with corrections := cancelCorrections true (regionA n) allOnes s.t1.corrections } }
  ((s.countPrograms none b 1 0).pulse b 0).retryBytes none (regionA n) b (wrong.map fun i => (i, triesOf tries i))

/-- The outcome of the program of one line, from those of many. -/
def lineFlips (l : WriteTries) (n : Nat) : List (Fin 64 × Fin 13) := (l.filter fun x => x.1 == n).map fun x => (x.2.1, x.2.2.1)
def lineTries (l : WriteTries) (n : Nat) : Tries := (l.filter fun x => x.1 == n).map fun x => (x.2.1, x.2.2.2)

/-- Decode the words of a region line, its exact skip and poison words set aside (17:R430, 06:R155). -/
def decRegion (n : Nat) (ws : List Code13) : LineDec :=
  let f := regionFold n
  decLine f (ws.map fun w => if w = poisonWord f || w = skipWord f then encByte f 0 else w)

/-- What reading a region line gives: its bytes, and its class. -/
structure RegionRead where
  bytes : List DrainByte
  cls : LineClass
  deriving DecidableEq, Repr

/-- Read a region line; a decode that is not clean is counted in its bank, and corrected bytes are written back (07:R179, R185). -/
def State.readRegion (s : State) (n : Nat) (flips : ReadFlips) : RegionRead × State :=
  match tget s.drain.region n, rereadOf flips n with
  | none, [] => (⟨List.replicate 64 (.data 0), .clean⟩, s)
  | _, again =>
    let f := regionFold n
    let ws := rereadWords (s.regionWords n) again
    let d := decRegion n ws
    let byte (i : Nat) (w : Code13) : DrainByte :=
      if w = skipWord f then .skip else if w = poisonWord f then .poison else .data (lineByte d.data i)
    (⟨((List.range 64).zip ws).map fun (i, w) => byte i w, d.cls⟩, s.countT1 (n % s.part.fastBanks) (regionA n) false d.cls d.fixes)

/-- The bytes of a line that is neither uncorrectable nor holds a poison or skip word. -/
def RegionRead.plain (r : RegionRead) : Option Line :=
  if badLine r.cls then none
  else
    let l := r.bytes.filterMap fun b => match b with
      | .data d => some d
      | _ => none
    if l.length = 64 then some (ofBytes 512 l) else none

/-- Read region lines one after another. -/
def State.readLines (s : State) (flips : ReadFlips) : List Nat → List RegionRead × State
  | [] => ([], s)
  | n :: l =>
    let (r, s) := s.readRegion n flips
    let (rs, s) := s.readLines flips l
    (r :: rs, s)

/-- The enabled bytes of a region line: those that are not skip words. -/
def drainMask (l : List DrainByte) : Mask :=
  ((List.range 64).zip l).foldl (fun m (i, b) => if b = .skip then m else m ||| bitOf i) 0
/-- The data of a region line. -/
def drainLine (l : List DrainByte) : Line := ofBytes 512 (l.map fun b => match b with | .data d => d | _ => 0)
def drainPoisoned (l : List DrainByte) : Bool := l.any fun b => b = .poison

/-- The words of a region line of these bytes. -/
def drainWords (n : Nat) (l : List DrainByte) : List Code13 :=
  let f := regionFold n
  l.map fun b => match b with
    | .data d => encByte f d
    | .poison => poisonWord f
    | .skip => skipWord f

/-! ### Header, marks and descriptors (17 Tables 17-4 to 17-7, R432) -/

/-- A line of fields under the CRC-32C of its bytes 0-59. -/
def crcLine (l : List (Nat × Nat × Nat)) : Line :=
  let d : Line := pack 512 l
  d ||| pack 512 [(60, 4, (crc32c (toBytes d 60)).toNat)]

/-- The line has this magic, and its CRC matches. -/
def magicLine (magic : Nat) (d : Line) : Bool := fld d 0 4 == magic && fld d 60 4 == (crc32c (toBytes d 60)).toNat

/-- The sequence of a valid header. -/
def headerSeq (d : Line) : Option Nat := if magicLine 0x4E494152 d && fld d 4 2 == 1 then some (fld d 8 8) else none
/-- The line is the complete mark, or the retire mark, of the record of a sequence. -/
def isMark (magic seq : Nat) (d : Line) : Bool := magicLine magic d && fld d 4 8 == seq
def completeMagic : Nat := 0x454E4F44
def retireMagic : Nat := 0x45524954

/-- A group descriptor. -/
def groupLine (g : Nat) (l : List DrainEntry) : Line :=
  pack 512 ([(0, 4, g), (4, 1, l.length)] ++ ((List.range l.length).zip l).flatMap fun (k, e) =>
    [(8 + 8 * k, 5, e.target), (13 + 8 * k, 1, e.kind), (14 + 8 * k, 1, e.index)])

/-- The entries of a descriptor, each with its data line. -/
def groupEntries (base g : Nat) (d : Line) : List (DrainEntry × Nat) :=
  (List.range (min 7 (fld d 4 1))).map fun k =>
    (⟨fld d (8 + 8 * k) 5, fld d (13 + 8 * k) 1, fld d (14 + 8 * k) 1⟩, base + 4 + 8 * g + k)

/-- CRC-32C over descriptor lines. -/
def descriptorCrc (l : List Line) : Nat := (crc32c (lineBytes l)).toNat

/-- The half whose valid header has the higher sequence, with that sequence (17:R432, R433). -/
def newestOf (h0 h1 : Option Nat) : Option (Bool × Nat) :=
  match h0, h1 with
  | some a, some b => some (if a < b then (true, b) else (false, a))
  | some a, none => some (false, a)
  | none, some b => some (true, b)
  | none, none => none

/-- Read both headers. -/
def State.newestHalf (s : State) (flips : ReadFlips) : Option (Bool × Nat) × State :=
  let (a, s) := s.readRegion 0 flips
  let (b, s) := s.readRegion 0x100000 flips
  (newestOf (a.plain.bind headerSeq) (b.plain.bind headerSeq), s)

/-! ### What a drain copies (17:R429) -/

/-- One line to be copied: its entry, and its words as its source holds them under the fold of that place. -/
structure CopyLine where
  entry : DrainEntry
  fold : BitVec 3
  words : List Code13
  enables : Mask
  poison : Bool
  /-- the key slot and line address of a sealed T1 queue entry, which is copied as ciphertext -/
  key : Option (Byte × Nat)
  /-- holder 0 where the device keeps none (log entry 36) -/
  holder : Holder
  deriving DecidableEq, Repr

def kFast : Nat := 1
def kDense : Nat := 2
def kHead : Nat := 3
def kData : Nat := 4

/-- A record on its way is still to be stored: not a moved one that the map no longer names or that a newer record replaces. -/
def State.stillMoving (s : State) (m : Moving) : Bool :=
  !s.moveStale m && (m.origin.isNone || !(s.t2.moving.any fun n => n.tile == m.tile && n.origin.isNone))

/-- The record is ciphertext: its tile lies in a sealed range, and it is no all-poisoned record, which is stored in the clear (19:R474). -/
def State.sealedRecord (s : State) (m : Moving) : Option Byte :=
  match s.tileKey m.tile with
  | some (k, _) => if m.record = s.poisonRec m.tile then none else some k
  | none => none

/-- The RECORD_HEAD data line. -/
def State.headLine (s : State) (m : Moving) : Line :=
  let key := s.sealedRecord m
  pack 512 [(0, 8, m.crc.toNat), (8, 1, match m.poisonL with | some l => 128 + l | none => 0), (9, 1, bnat key.isSome),
            (10, 1, (key.getD 0).toNat)]

/-- A record's head and its 8c data lines, from the packing buffer. -/
def State.copyRecordLines (s : State) (m : Moving) : List CopyLine :=
  let target := m.tile + m.sectors * 2 ^ 32
  ⟨⟨target, kHead, 0⟩, 0, encLine 0 (s.headLine m), allOnes, false, none, 0⟩ ::
  (List.range (8 * m.sectors)).map fun j =>
    let f := bufferFold (bufferLine m.first j)
    ⟨⟨target, kData, j⟩, f, match tget m.coded j with | some w => unpackWords w | none => encLine f 0, allOnes, false, none, 0⟩

def denseEntry (tile line : Nat) : DrainEntry := ⟨denseBase + tile * 4096 + line * 64, kDense, 0⟩

/-- The dirty lines of a slot; a line whose fetch has not ended holds the bytes stored so far. -/
def slotCopies (x : Slot) : List CopyLine :=
  if x.doomed then []
  else (ones x.dirty).map fun i =>
    let f := lineFold (x.idx * 64 + i)
    ⟨denseEntry x.tile i, f, match x.word i with | some w => unpackWords w | none => encLine f 0, tgetD x.pen i allOnes, x.poison.getLsbD i,
     none, x.holder⟩

/-- Every copied line in the order of 17:R429. -/
def State.copyLines (s : State) : List CopyLine :=
  (s.t2.moving.filter s.stillMoving).flatMap s.copyRecordLines ++ s.t0.pool.flatMap slotCopies ++
  (s.t0.stores.map fun w => ⟨denseEntry w.tile w.line, lineFold w.line, unpackWords w.words, w.enables, w.poison, none, w.holder⟩) ++
  s.t1.wq.map fun e => ⟨⟨fastBase + e.line * 64, kFast, 0⟩, lineFold e.line, unpackWords e.words, e.enables, false, e.key.map fun k => (k, e.line), 0⟩

/-- A copied line fails a hop: ECC_UE names its line, or its tile. -/
def State.copyFails (s : State) (c : CopyLine) (hop : Nat) : State :=
  if c.entry.kind ≤ kDense then s.custody hop srcDevice c.entry.target c.holder
  else s.custodyTile hop srcDevice (c.entry.target % 2 ^ 32) c.holder

/-- The bytes that a line is written as: disabled bytes are skip words, a poisoned line's bytes poison words, and a line that does not
decode at hop 0x0F is written as poison words. A sealed queue entry is encrypted as for its program (19:R473, R474). -/
def State.copyBytes (s : State) (c : CopyLine) (flips : List (Nat × Nat)) : List DrainByte × State :=
  let lay (f : Nat → DrainByte) : List DrainByte := (List.range 64).map fun i => if c.enables.getLsbD i then f i else .skip
  let lost := lay fun _ => .poison
  if c.poison then (lost, s)
  else
    let ws := rereadWords c.words flips
    let isPoison (i : Nat) : Bool := lgetD ws i 0 == poisonWord c.fold
    let d := decLine c.fold (ws.map fun w => if w = poisonWord c.fold then encByte c.fold 0 else w)
    let s := s.countBuffer [d.cls]
    if badLine d.cls then (lost, s.copyFails c 0x0F)
    else
      match c.key with
      | none => (lay fun i => if isPoison i then .poison else .data (lineByte d.data i), s)
      | some (k, a) =>
        if (List.range 64).any isPoison then (lost, s)
        else
          match s.keyOf k with
          | none => (lost, s)
          | some kv =>
            if s.t2.xtsOn then
              let ct := Config.xts kv (fastTweak a) 0 d.data
              (lay fun i => .data (lineByte ct i), s)
            else (lost, s.copyFails c 0x07)

/-- The bytes of every copied line; `flips` counts the lines from 0 in the order of the copy. -/
def State.copyAll (s : State) (flips : ReadFlips) : Nat → List CopyLine → List (DrainEntry × List DrainByte) × State
  | _, [] => ([], s)
  | i, c :: cs =>
    let (b, s) := s.copyBytes c (rereadOf flips i)
    let (l, s) := s.copyAll flips (i + 1) cs
    ((c.entry, b) :: l, s)

/-! ### The record (17:R429, R431, R432) -/

/-- Groups of at most 7; the number is the fuel. -/
def chunks7 {α : Type} : Nat → List α → List (List α)
  | 0, _ => []
  | n + 1, l => if l.isEmpty then [] else l.take 7 :: chunks7 n (l.drop 7)

def groupsOf (l : List (DrainEntry × List DrainByte)) : List (List (DrainEntry × List DrainByte)) := chunks7 l.length l

/-- Program a line of a half, counted from the half's first line. -/
def State.writeHalf (s : State) (half : Bool) (n : Nat) (bytes : List DrainByte) (o : WriteTries) : State :=
  let m := halfBase half + n
  s.writeRegion m (drainWords m bytes) (lineFlips o n) (lineTries o n)

def dataBytes (d : Line) : List DrainByte := (List.range 64).map fun i => .data (lineByte d i)

/-- Program group g: its descriptor and its data lines. -/
def State.writeGroup (s : State) (half : Bool) (g : Nat) (l : List (DrainEntry × List DrainByte)) (o : WriteTries) : State :=
  let s := s.writeHalf half (3 + 8 * g) (dataBytes (groupLine g (l.map (·.1)))) o
  ((List.range l.length).zip l).foldl (fun s (k, x) => s.writeHalf half (4 + 8 * g + k) x.2 o) s

/-- Step 4 begins: the target half, which is not the newest record's, is invalidated, and its header is programmed. -/
def State.startRecord (s : State) : State :=
  let (newest, s) := s.newestHalf []
  let (b, q) : Bool × Nat := match newest with
    | some (h, q) => (!h, q + 1)
    | none => (false, 1)
  let d := s.drain
  let header := crcLine [(0, 4, 0x4E494152), (4, 2, 1), (6, 1, if d.settleDrain then 5 else d.origin.toNat), (7, 1, d.level.toNat), (8, 8, q),
    (16, 6, d.epoch.toNat), (24, 4, d.dirtyKiB.toNat), (28, 4, s.tide.budget), (32, 4, s.tide.energy.toNat)]
  let zero := dataBytes 0
  let s : State := { s with drain := { s.drain with target := some b } }
  ((s.writeHalf b 1 zero []).writeHalf b 2 zero []).writeHalf b 0 (dataBytes header) []

/-- Step 4 ends: every entry is in the region. -/
def State.copyRecord (s : State) (flips : ReadFlips) (o : WriteTries) : State :=
  match s.drain.target with
  | none => s
  | some b =>
    let (l, s) := s.copyAll flips 0 s.copyLines
    let s : State := { s with drain := { s.drain with poisoned := BitVec.ofNat 32 (l.filter fun x => drainPoisoned x.2).length,
                                                      groups := (groupsOf l).map fun g => g.map (·.1) } }
    let gs := groupsOf l
    ((List.range gs.length).zip gs).foldl (fun s (g, x) => s.writeGroup b g x o) s

/-- The complete mark (17 Table 17-5). PFAIL says whether PFAIL_N was seen during the causeway, or since the DORMANT epoch. -/
def State.completeRecord (s : State) (flips : List (Fin 64 × Fin 13)) (tries : Tries) : State :=
  match s.drain.target with
  | none => s
  | some b =>
    let (h, s) := s.readRegion (halfBase b) []
    let d := s.drain
    let seq := (h.plain.bind headerSeq).getD 0
    let lines := ((List.range d.groups.length).zip d.groups).map fun (g, l) => groupLine g l
    let pfail := if d.settleDrain then s.pin.pfailSinceDormant else s.pin.pfailInCauseway
    let mark := crcLine [(0, 4, completeMagic), (4, 8, seq), (12, 4, d.groups.length), (16, 4, sumBy List.length d.groups), (20, 4, d.poisoned.toNat),
      (24, 1, d.maxLevel.toNat), (25, 1, bbit d.witnessShort 0 + bbit pfail 1), (28, 4, descriptorCrc lines)]
    let n := halfBase b + 1
    s.writeRegion n (drainWords n (dataBytes mark)) flips tries

/-! ### Reading a record back (17:R432, R433, R435) -/

/-- What REPLAY finds: nothing to replay, a record that cannot be read as a whole, or a complete record with its entries. -/
inductive Found where
  | nothing
  | lost (seq : Nat)
  | record (half : Bool) (seq maxLevel : Nat) (entries : List (DrainEntry × Nat))
  deriving DecidableEq, Repr

/-- Read the newest record as far as its descriptors. -/
def State.findRecord (s : State) (flips : ReadFlips) : Found × State :=
  let (newest, s) := s.newestHalf flips
  match newest with
  | none => (.nothing, s)
  | some (b, q) =>
    let base := halfBase b
    let (r, s) := s.readRegion (base + 2) flips
    if r.plain.any (isMark retireMagic q) then (.nothing, s)
    else
      let (m, s) := s.readRegion (base + 1) flips
      match m.plain.filter (isMark completeMagic q) with
      | none => (.lost q, s)
      | some mark =>
        let (ds, s) := s.readLines flips ((List.range (fld mark 12 4)).map fun g => base + 3 + 8 * g)
        let lines := ds.filterMap RegionRead.plain
        if lines.length = ds.length ∧ descriptorCrc lines = fld mark 28 4 then
          (.record b q (fld mark 24 1) (((List.range lines.length).zip lines).flatMap fun (g, d) => groupEntries base g d), s)
        else (.lost q, s)

/-- Retire a replayed record: its retire mark, or an all-zero header where the mark does not verify within the retries (17:R435). -/
def State.retire (s : State) (b : Bool) (seq : Nat) (flips : List (Fin 64 × Fin 13)) (tries : Tries) : State :=
  let n := halfBase b + 2
  let mark := crcLine [(0, 4, retireMagic), (4, 8, seq), (12, 6, s.ts48.toNat)]
  let s := s.writeRegion n (drainWords n (dataBytes mark)) flips tries
  if flips.any fun p => decide (3 < triesOf tries p.1.val) then s.writeHalf b 0 (dataBytes 0) [] else s

end Sys2Proof.Machine
end

