-- ==== Sys2Proof/Machine/Patrol.lean ====
section
/-! DEFINITION. T1 programs, the verify lane, correction write-backs, the traverse, wear and trim (spec/08, 07:R179, R180, R193). -/

namespace Sys2Proof.Machine

open Sys2Proof

/-! ### T1 programs, gap moves, verify, corrections -/

/-- T1_WRITE_PROGRAM (02:R544, 08:R204, R207). -/
def execT1WriteProgram (index : Nat) (flips : List (Fin 64 × Fin 13)) (tries : Tries) (xtsOk : Bool) (s : State) : Out :=
  let s := s.fresh
  match (if s.mayProgramT1 then s.mayProgram index else none) with
  | some e => .next (s.atBank (some (s.lineBank e.line)) e.req fun s => (s.programEntry index flips tries xtsOk).evalCredits)
  | none => .next s

/-- GAP_MOVE_T1 (08:R212): a move that a group owes, made as part of the write that completed its 64th program. -/
def execGapMoveT1 (group : Nat) (flips : List (Fin 64 × Fin 13)) (tries : Tries) (s : State) : Out :=
  let s := s.fresh
  .next (if s.pd 7 && decide (group < s.part.groups) && decide (64 ≤ (s.group group).programs) then s.moveGap group flips tries else s)

/-- VERIFY_LANE_CHECK (08:R205, R206, Table 08-9). -/
def execVerifyLaneCheck (tries : Tries) (s : State) : Out :=
  let s := s.fresh
  match s.t1.rwq with
  | e :: _ =>
    if s.mayVerify && decide ((s.group (e.line / gapN)).programs < 64) then
      .next (s.atBank (some (s.lineBank e.line)) (s.verifyReq e) fun s => s.verifyOldest tries)
    else .next s
  | [] => .next s

/-- Write corrected T0 words in place. -/
def State.correctT0 (s : State) (line : Nat) (l : List Correction) : State :=
  let put (w : BitVec 832) : BitVec 832 := packWords (l.foldl (fun ws c => ws.set c.byte c.word) (unpackWords w))
  if line < 256 * s.t0.scratchMiB * 64 then
    match tget s.t0.scratch line with
    | some x => { s with t0 := { s.t0 with scratch := tset s.t0.scratch line { x with words := put x.words } } }
    | none => s
  else
    match s.slotAt (line / 64) with
    | some x => match x.word (line % 64) with
      | some w => s.setSlot { x with lines := tset x.lines (line % 64) (put w) }
      | none => s
    | none => s

/-- A read-back that still fails counts a hard fault of its bank (07:R180). -/
def State.hardFault (s : State) (b : Nat) : State :=
  (s.setBank b fun e => { e with hardFaults := satAdd e.hardFaults 1 }).setWear b fun w => { w with hardFaults := satAdd w.hardFaults 1 }

/-- Write the corrected words of one T1 line in place and read them back: a byte that still fails keeps its word (07:R179, R180). -/
def State.correctT1 (s : State) (c : Correction) (l : List Correction) (stillWrong : List (Fin 64)) : State :=
  let wrong (x : Correction) : Bool := stillWrong.any fun i => i.val == x.byte
  let good := (l.filter fun x => !wrong x).map fun x => (x.byte, x.word)
  let b := s.correctionBank c
  let s := match regionOf c.line with
    | some n => (s.countPrograms none b 1 0).putRegion n (good.foldl (fun ws (i, w) => ws.set i w) (s.regionWords n))
    | none => (s.countPrograms (some (c.line / gapN)) b 1 0).storeWords (s.correctionLine c) good []
  (l.filter wrong).foldl (fun s _ => s.hardFault b) (s.pulse b 0)

/-- CORRECTION_WRITE_BACK (07:R179, R180): the first line whose corrections may be issued, with all of them. -/
def execCorrectionWriteBack (stillWrong : List (Fin 64)) (s : State) : Out :=
  let s := s.fresh
  match s.t1.corrections.find? fun c => !c.t1 || s.correctionReady c with
  | some c =>
    let (mine, rest) := s.t1.corrections.partition fun x => x.t1 == c.t1 && x.gap == c.gap && x.line == c.line
    let take (s : State) : State := { s with t1 := { s.t1 with corrections := rest } }
    if c.t1 then .next (s.atBank (some (s.correctionBank c)) .correction fun s => (take s).correctT1 c mine stillWrong)
    else .next ((take s).correctT0 c.line mine)
  | none => .next s

/-! ### Pacing (08:R195-R200) -/

/-- Lines or pages of a pass. -/
def State.passTotal (s : State) (t : Tier) : Nat :=
  match t with
  | .t1 => s.part.fastLines + s.part.groups + regionLines
  | .t2 => (if s.part.dense then s.mapPages.length else 0) + charterPages

def State.travOf (s : State) (t : Tier) : Trav := match t with
  | .t1 => s.trav.t1
  | .t2 => s.trav.t2
def State.setTrav (s : State) (t : Tier) (x : Trav) : State := match t with
  | .t1 => { s with trav := { s.trav with t1 := x } }
  | .t2 => { s with trav := { s.trav with t2 := x } }

/-- The period in cycles: minutes for T1, hours for T2. -/
def Trav.cycles (x : Trav) (t : Tier) : Nat := match t with
  | .t1 => x.period.toNat * 60 * 1600000000
  | .t2 => x.period.toNat * 3600 * 1600000000

/-- d > e + 1/16. -/
def State.ahead (s : State) (t : Tier) : Bool :=
  let x := s.travOf t
  let p := x.cycles t
  decide (s.passTotal t * (16 * (x.served - x.passStart) + p) < 16 * x.done * p)

/-- d < e − 1/16, or e at 7/8 with the pass unfinished. -/
def State.behind (s : State) (t : Tier) : Bool :=
  let x := s.travOf t
  let p := x.cycles t
  let e := x.served - x.passStart
  decide (16 * x.done * p + s.passTotal t * p < s.passTotal t * 16 * e) || (decide (7 * p ≤ 8 * e) && decide (x.done < s.passTotal t))

/-- d at or above e, and e below 7/8. -/
def State.caughtUp (s : State) (t : Tier) : Bool :=
  let x := s.travOf t
  let p := x.cycles t
  let e := x.served - x.passStart
  decide (s.passTotal t * e ≤ x.done * p) && decide (8 * e < 7 * p)

/-- A new pass begins (08:R196, R198). -/
def Trav.restart (x : Trav) (forced : Bool) : Trav :=
  { x with pass := x.pass + 1, done := 0, pos := 0, passStart := x.served, esc := false, forced := forced, told := false }

/-- The mask of a list of cells. -/
def cellMask (l : List (Fin 4096)) : BitVec 4096 := l.foldl (fun m c => m ||| ((1 : BitVec 4096) <<< c.val)) 0

/-- Write the witness cells of n dies to their pattern, from the die of a number on; the cells given stay wrong, with one record a die
(09:R237). Dies are numbered as TEMP.DIE. -/
def State.witnessWritten (s : State) (firstDie n : Nat) (left : List (List (Fin 4096))) : State :=
  (List.range n).foldl (fun s i =>
    let m := cellMask (lgetD left i [])
    let s : State := { s with comp := { s.comp with wrongCells := tput 0 s.comp.wrongCells (firstDie + i) m } }
    if m = 0 then s else s.note 0x33 (srcDie (firstDie + i)) (pay [(16, 2, popcount m)])) s

/-- The T1 pass completes: witness cells of the fast dies, WITNESS_SUSPECT (09:R237, R240, R242), a new pass. -/
def State.endPassT1 (s : State) (left : List (List (Fin 4096))) : State :=
  let s := s.witnessWritten 1 s.part.fastDies left
  let r := s.md.restrict
  let changed : Bool := r.witnessSuspect || (r.witnessExpired && !s.store.witPass)
  let s := s.setRestrict { r with witnessSuspect := false }
  let s : State := { s with
    trav := { s.trav with t1 := s.trav.t1.restart false, passSinceExpired := s.trav.passSinceExpired || r.witnessExpired }
    store := { s.store with witSuspect := false, witPass := s.store.witPass || r.witnessExpired } }
  if changed then s.persist 1 else s

/-- A pass that has caught up returns to its normal rank (08:R198). -/
def State.evalPace (s : State) (t : Tier) : State :=
  let x := s.travOf t
  if x.esc && s.caughtUp t then s.setTrav t { x with esc := false } else s

/-- One line or page of a pass is done; the next one lies at `pos` or above. -/
def State.passStep (s : State) (t : Tier) (pos : Nat) : State :=
  let x := s.travOf t
  (s.setTrav t { x with done := x.done + 1, pos := pos }).evalPace t

/-- The traverse reads now: SERVICE, and not ahead of its pace. -/
def State.mayTraverse (s : State) (t : Tier) : Bool := s.md.mode = .service && ((s.travOf t).forced || !s.ahead t)

/-! ### Reads (08:R196, 06:R155) -/

/-- Read one place of a T1 pass: its line event is counted in the place's bank, and its corrections are queued. -/
def State.patrolT1 (s : State) (p : T1Place) (again : List (Nat × Nat)) : State :=
  let b := s.placeBank p
  let look (a : Nat) (gap : Bool) (ws : List Code13) (dec : List Code13 → LineDec) : State :=
    let (cls, fixes) := checked s.md.restrict.witnessExpired (dec ws) fun _ => dec (rereadWords ws again)
    s.patrolEvent b a gap cls fixes
  match p with
  | .line a => look a false (s.t1Words a) (decPast a)
  | .gap g a => look a true (s.t1.physWords (s.gapLine g)) (decPast a)
  | .region n => look (regionA n) false (s.regionWords n) (decRegion n)

/-- TRAVERSE_T1_READ (08:R195, R196). `witnessLeft` holds the cells of each fast die that the witness write at the end of a pass leaves
wrong. -/
def execTraverseT1Read (again : Reread) (witnessLeft : List (List (Fin 4096))) (s : State) : Out :=
  let s := s.fresh
  if !s.mayTraverse .t1 then .next s
  else
    let p := s.t1Place s.trav.t1.done
    .next (s.atBank (some (s.placeBank p)) s.trav.t1.req fun s =>
      let s := (s.patrolT1 p (rereadOf again 0)).passStep .t1 0
      if s.passTotal .t1 ≤ s.trav.t1.done then s.endPassT1 witnessLeft else s)

/-- What a page must hold: its strength, generation and magic, and the pieces that the map implies (05:R142). -/
def State.pageExpected (s : State) (page : Nat) : Nat × Word × Byte × (PageImg → Bool) :=
  match s.charterOf page with
  | some c => (72, (s.charterAt c).gen, 0xA5, fun _ => true)
  | none =>
    let here := s.t2.tileMap.filter fun p => p.2.page == page || p.2.page2 == some page
    let whole (i : PageImg) : Bool := here.all fun (tile, e) =>
      (!(e.page == page) || (e.headIn tile i).isSome) && (!(e.page2 == some page) || (e.tailIn tile i).isSome)
    match here with
    | (_, e) :: _ => if e.page = page then (e.t, e.gen, 0xC5, whole) else (e.t2, e.gen2, 0xC5, whole)
    | [] => (0, 0, 0, fun _ => true)

/-- Read one page of a T2 pass. -/
def State.patrolT2 (s : State) (page : Nat) (r : PageRead) : State :=
  let (t, gen, magic, entry) := s.pageExpected page
  let (g, s) := s.readPage page t gen magic entry r
  match g with
  | .uncorrectable => s.eccUe 2 (srcBank (s.pageBank page)) page
  | .checkFailed => s.eccUe 3 (srcBank (s.pageBank page)) page
  | _ => s

/-- The T2 pass completes: the witness cells of the dense dies, a new pass (09:R237). -/
def State.endPassT2 (s : State) (left : List (List (Fin 4096))) : State :=
  let s := s.witnessWritten 5 s.part.denseDies left
  s.setTrav .t2 (s.trav.t2.restart false)

/-- TRAVERSE_T2_READ (08:R195, R196): the next page of the pass that the map names or that holds a charter page. -/
def execTraverseT2Read (page : PageRead) (witnessLeft : List (List (Fin 4096))) (s : State) : Out :=
  let s := s.fresh
  if !(s.mayTraverse .t2 && s.trav.t2en) then .next s
  else
    match s.nextPage s.trav.t2.pos with
    | none => .next (s.endPassT2 witnessLeft)
    | some n =>
      .next (s.atBank (some (s.pageBank n)) s.trav.t2.req fun s =>
        let s := (s.patrolT2 n page).passStep .t2 (n + 1)
        if (s.nextPage s.trav.t2.pos).isNone then s.endPassT2 witnessLeft else s)

/-- TRAVERSE_LATE (08:R198): e has reached 1 with the pass unfinished, which runs escalated until it completes. -/
def execTraverseLate (tier : Tier) (s : State) : Out :=
  let s := s.fresh
  let x := s.travOf tier
  if s.md.mode = .service && !x.told && decide (x.cycles tier ≤ x.served - x.passStart) && decide (x.done < s.passTotal tier) then
    let s := s.setTrav tier { x with late := true, told := true }
    let m : BitVec 2 := match tier with | .t1 => 1 | .t2 => 2
    let s : State := { s with evt := { s.evt with cyc := { s.evt.cyc with lateNow := s.evt.cyc.lateNow ||| m } } }
    .next (s.note 0x25 srcDevice (pay [(16, 1, match tier with | .t1 => 1 | .t2 => 2)]))
  else .next s

/-- TRAVERSE_ESCALATED (08:R198). -/
def execTraverseEscalated (tier : Tier) (s : State) : Out :=
  let s := s.fresh
  let x := s.travOf tier
  .next (if s.md.mode = .service && !x.escalated && s.behind tier then s.setTrav tier { x with esc := true } else s)

/-! ### Saves (08:R200, R216, 14 Table 14-6) -/

/-- Queue the six traverse counters. -/
def State.saveTraverse (s : State) (causeway : Bool) : State :=
  let one (s : State) (t : Trav) (k : Nat) : State :=
    ((s.queueCounter (1536 + k) (t.pass.toNat * 2 ^ 32 + t.done) causeway).queueCounter (1537 + k) (t.served / msec) causeway).queueCounter
      (1538 + k) (t.passStart / msec) causeway
  one (one s s.trav.t1 0) s.trav.t2 3

/-- Queue the wear counters that differ from their stored values. -/
def State.saveWear (s : State) (causeway : Bool) : State :=
  let put (s : State) (i v : Nat) : State := if (s.store.view i).value.toNat = v then s else s.queueCounter i v causeway
  s.err.wear.foldl (fun s (b, w) =>
    put (put (put s (3 * b) w.programs.toNat) (3 * b + 1) (w.presets.toNat + w.gapMoves.toNat * 2 ^ 32)) (3 * b + 2)
      (w.writeFails.toNat + w.hardFaults.toNat * 2 ^ 32)) s

/-- TRAVERSE_SAVE (08:R200). -/
def execTraverseSave (s : State) : Out :=
  let s := s.fresh
  .next (if s.md.mode = .service then s.saveTraverse false else s)

/-- WEAR_PERSIST (08:R216). -/
def execWearPersist (s : State) : Out :=
  let s := s.fresh
  .next (if s.md.mode = .service then s.saveWear false else s)

/-- The trim that a second's programs and retries lead to (08:R210). -/
def nextTrim (trim : Int) (programs retries : Nat) : Int :=
  if programs < retries * 100000 then min 4 (trim + 1)
  else if retries * 10000000 < programs then max (-2) (trim - 1)
  else trim

/-- TRIM_ADJUST (08:R210): once a second, from the programs and retries of the second before. -/
def execTrimAdjust (bank : Fin 512) (s : State) : Out :=
  let s := s.fresh
  let b := bank.val
  let e := (s.bankErr b).roll s.second
  let busy : Bool := decide ((if b < 128 then 1048576 else 1024) ≤ e.prevPrograms)
  if s.inService && decide (e.trimDue ≤ s.second) && busy then
    let x : BankErr := { e with trim := nextTrim e.trim e.prevPrograms e.prevRetries, trimDue := s.second + 1 }
    .next { s with err := { s.err with banks := tput .zero s.err.banks b x } }
  else .next s

end Sys2Proof.Machine
end

