-- ==== Sys2Proof/Machine/Modes.lean ====
section
/-! DEFINITION. The budget in force, the entries into CAUSEWAY and the DORMANT settle phase, and abandoned commits
(spec/01 R34-R44, 15 Tables 15-5 and 15-7, 17 R418-R427). -/

namespace Sys2Proof.Machine

open Sys2Proof

/-! ### The budget (01:R38, 17:R423) -/

/-- The drain limit L, KiB. -/
def Part.drainLimit : Part → Nat
  | .rbk9208 => 24576
  | _ => 49152

/-- The gauge budget of an energy, uJ (17:R423): 5.375 uJ a KiB above 80,000 uJ. -/
def gaugeBudget (limit energy : Nat) : Nat := if energy ≤ 80000 then 0 else min limit ((energy - 80000) * 1000 / 5375)

/-- The budget in force: the least of the gauge budget, the ceiling and the limit. -/
def State.applyBudget (s : State) : State :=
  let c := s.tide.ceiling.toNat
  let s : State := { s with tide := { s.tide with budget := min s.tide.gauge (min c s.part.drainLimit), src := decide (c < s.tide.gauge) } }
  s.evalCredits

/-! ### Abandoned commits (01:R37) -/

/-- ABANDONED and WRONG_MODE (03 Table 03-5, 10 Table 10-9). -/
def resAbandoned (isPlan : Bool) : BitVec 16 := if isPlan then 0x16 else 0x0B
def resWrongMode (isPlan : Bool) : BitVec 16 := if isPlan then 0x15 else 0x0A

/-- A commit whose epoch has not passed goes to its report step. -/
def State.abandonCommit (s : State) : State :=
  match s.commit with
  | some k =>
    if k.phase = .reporting then s
    else { s with commit := some { k with phase := .reporting, result := resAbandoned k.isPlan, ixA := 0, ixB := 0, table := false } }
  | none => s

/-- On a part with a dense tier, INHIBIT abandons a commit that persists. -/
def State.abandonOnField (s : State) : State :=
  match s.commit with
  | some k => if k.phase = .persisting && s.part.dense && decide (2 ≤ s.comp.level.toNat) then s.abandonCommit else s
  | none => s

/-! ### SERVICE to CAUSEWAY (17:R418, R426, R427 step 1) -/

/-- Drain steps 1 and 2 begin; `origin` is 17 Table 17-4's. -/
def State.startDrain (s : State) (origin : Byte) : State :=
  let v := (s.store.view 1543).value.toNat + 1
  let s : State := { s with drain := { s.drain with
    step := 2, settle := 0, settleDrain := false, origin := origin, epoch := s.ts48, level := s.comp.level, maxLevel := s.comp.level, witnessShort := false,
    count := BitVec.ofNat 32 v, poisoned := 0, dirtyKiB := 0, target := none, groups := [], traceSaved := false } }
  (s.queueCounter 1543 v true).saveTraverse true

/-- What follows a CAUSEWAY epoch in its cycle. -/
def State.beginCauseway (s : State) (cause : BitVec 4) : State :=
  let s := s.abandonCommit
  let s : State := { s with pin := { s.pin with musterDriven := true, pfailInCauseway := cause == 2 } }
  s.startDrain (cause.setWidth 8)

/-- A REQUEST record of a request that an entry into CAUSEWAY discards (01:R44). -/
def State.discardRequest (s : State) (req : Nat) : State := s.note 0x05 srcDevice (pay [(16, 1, req), (17, 1, 0)])

/-- The request, 1 DORMANT or 2 CAUSEWAY, whose epoch a warden's write made in the present cycle. -/
def State.requestNow (s : State) : Option Nat :=
  if !(s.md.prev = .service && s.md.cause = 4 && s.drain.epoch = s.ts48) then none
  else match s.md.mode with
    | .dormant => if s.drain.settle = 1 then some 1 else none
    | .causeway => if s.drain.step = 2 then some 2 else none
    | _ => none

/-- An entry into CAUSEWAY caused by PFAIL_N or MUSTER prevails over a request of the same cycle (01:R44): the cycle's one epoch is its own,
and the request is discarded and logged. -/
def State.prevail (s : State) (req : Nat) (cause : BitVec 4) : State :=
  let c := s.evt.cyc
  let p := pay [(16, 1, 1), (17, 1, 2), (18, 1, cause.toNat), (19, 1, s.md.restrict.toNat)]
  let events := c.events.map fun d => if d.code = 0x03 then { d with payload := p } else d
  let traces := c.traces.map fun t => if t.type = 6 && fld t.payload 0 1 == 2 then { t with payload := tpay [(12, 1, 2), (13, 4, 2)] } else t
  let s : State := { s with
    md := { s.md with mode := .causeway, cause := cause }
    evt := { s.evt with cyc := { c with events := events, traces := traces } } }
  if req = 1 then (s.discardRequest 1).beginCauseway cause
  else
    let s := s.discardRequest 2
    { s with pin := { s.pin with pfailInCauseway := cause == 2 }, drain := { s.drain with origin := cause.setWidth 8 } }

/-- The epoch of SERVICE to CAUSEWAY with cause 2 PFAIL_N, 3 MUSTER or 4 warden request. -/
def State.enterCauseway (s : State) (cause : BitVec 4) : State := (s.modeEpoch .causeway cause).beginCauseway cause

/-! ### SERVICE to DORMANT (15:R378, R381, Table 15-7) -/

/-- The lowest channel that is not IDLE. -/
def State.busyChannel (s : State) : Option Nat := (List.range s.part.channels).find? fun c => !((s.chan c).state = .idle)

/-- The first precondition of a DORMANT request that fails, in table order. -/
def State.dormantFails (s : State) : Option Nat :=
  if s.md.restrict.versionLimited then some 1
  else if s.commit.isSome then some 2
  else if s.busyChannel.isSome then some 3
  else if decide (2 ≤ s.comp.level.toNat) || s.md.restrict.fieldRo then some 4
  else if s.md.restrict.capacityStall || s.t0.pool.any fun x => x.st = .pinned then some 5
  else none

/-- MODE_CTL.REQ = 1: the epoch with cause 4 and the settle phase, or a REQUEST record. -/
def State.requestDormant (s : State) : State :=
  match s.dormantFails with
  | some n =>
    let src := match s.busyChannel with
      | some c => if n = 3 then srcChan c else srcDevice
      | none => srcDevice
    s.note 0x05 src (pay [(16, 1, 1), (17, 1, n)])
  | none =>
    let s := s.modeEpoch .dormant 4
    { s with
      drain := { s.drain with step := 0, settle := 1, settleDrain := false, epoch := s.ts48, level := s.comp.level, maxLevel := s.comp.level,
                              witnessShort := false, target := none, groups := [], traceSaved := false }
      pin := { s.pin with pfailSinceDormant := s.pin.pfail, pfailLatched := false, musterLatched := false, wake := false, armed := false } }

end Sys2Proof.Machine
end

