-- ==== Sys2Proof/Machine/Commits.lean ====
section
/-! DEFINITION. Cadastre and survey-plan commits: validation, the epoch, the report, and the release of tiles
(spec/01 R31-R37, 03, 10 R263-R266, 02 R79). -/

namespace Sys2Proof.Machine

open Sys2Proof

/-! ### Release of tiles (02:R79) -/

/-- Release every tile that a test names, in one cycle: reads looked up before complete with the old data, lines and stored copies are
dropped, and a transfer under way ends without effect. -/
def State.releaseWhere (s : State) (f : Nat → Bool) : State :=
  let s := (((s.link.waits.map (·.tile)).filter f).dedup).foldl (fun s t => s.completeWaits t) s
  let pool := s.t0.pool.filterMap fun x =>
    if !f x.tile then some x
    else if x.st = .filling || x.st = .writing then some { x with doomed := true }
    else none
  let s : State := { s with t0 := { s.t0 with pool := pool, stores := s.t0.stores.filter fun w => !f w.tile } }
  let tiles := ((s.t2.tileMap.map (·.1) ++ s.t2.moving.map (·.tile)).filter f).dedup
  (tiles.foldl (fun s t => s.zeroTile t) s).retryWaits

/-! ### Plan validation (03:R90-R95) -/

/-- Header pass: the result code. -/
def planHeaderCheck (l : List (Nat × Entry)) : Option Nat :=
  let h := planEntry l 0
  if !(hMagic h == 0x4C505653) then some 1
  else if !(hVersion h == 1) then some 2
  else if decide (4095 < hCount h) then some 3
  else if decide (16 < hScratch h) then some 4
  else
    let body := (List.range (hCount h)).flatMap fun i => toBytes (planEntry l (i + 1)) 32
    if !((crc32c body).toNat == hCrc h) then some 5 else none

/-- A record names a unit the part lacks. -/
def planAbsent (p : Part) (e : Entry) : Bool :=
  match rKind e with
  | 1 => !p.dense
  | 2 => !p.dense
  | 3 => decide (p.channels ≤ cChannel e) || (!p.dense && !((cOps e) &&& 0x33 == 0))
  | 4 => !p.dense
  | 5 => !p.dense
  | 6 => !p.dense
  | 7 => !p.encrypt || (!p.dense && sTier e == 2)
  | _ => false

/-- A field outside its range. -/
def planBadField (p : Part) (e : Entry) : Bool :=
  match rKind e with
  | 1 => !(decide (1 ≤ aSlots e) && decide (aSlots e ≤ 16384))
  | 2 => !(decide (wWindow e ≤ 63) && decide (16 ≤ wSlots e) && decide (wSlots e ≤ 4096) && decide (1 ≤ wLead e) && decide (wLead e ≤ wSlots e))
  | 3 => !(decide (cChannel e ≤ 63) && decide (cClass e ≤ 2) && decide (1 ≤ cOwner e) && decide (cOwner e ≤ 0xFFE) &&
           (decide (cWindow e ≤ 63) || cWindow e == 0xFF))
  | 4 => !(decide (1 ≤ vCount e) && decide (vFirst e + vCount e ≤ p.tiles))
  | 5 => !(decide (kClass e ≤ 7) && strengths.contains (kT e))
  | 6 => !(decide (mClass e ≤ 7) && decide (1 ≤ mCount e) && decide (mFirst e + mCount e ≤ p.tiles))
  | 7 =>
    let inside : Bool := match sTier e with
      | 1 => decide (fastBase ≤ sStart e) && decide (sEnd e < p.fastEnd)
      | 2 => decide (denseBase ≤ sStart e) && decide (sEnd e < denseBase + p.tiles * 4096)
      | _ => false
    !(inside && sStart e % 4096 == 0 && (sEnd e + 1) % 4096 == 0 && decide (sStart e ≤ sEnd e))
  | _ => false

/-- Limits of 03 Table 03-3. -/
def planLimit : Nat → Nat
  | 1 => 4092
  | 2 => 64
  | 3 => 64
  | 4 => 1024
  | 5 => 8
  | 6 => 1024
  | _ => 256

/-- What a record may appear once for. -/
def planName (e : Entry) : Option Nat :=
  match rKind e with
  | 1 => some (aHolder e)
  | 2 => some (wWindow e)
  | 3 => some (cChannel e)
  | 5 => some (kClass e)
  | _ => none

/-- The run a record must not share with another of its kind. -/
def planSpan (e : Entry) : Option (Nat × Nat) :=
  match rKind e with
  | 4 => some (vFirst e, vFirst e + vCount e)
  | 6 => some (mFirst e, mFirst e + mCount e)
  | 7 => some (sStart e, sEnd e + 1)
  | _ => none

def spansMeet : Option (Nat × Nat) → Option (Nat × Nat) → Bool
  | some (a, b), some (c, d) => decide (a < d) && decide (c < b)
  | _, _ => false

/-- Records pass on one record, given the records of its kind before it. -/
def planRecordCheck (p : Part) (before : List Entry) (e : Entry) : Option Nat :=
  let k := rKind e
  if k = 0 || decide (7 < k) then some 6
  else if planAbsent p e then some 8
  else if planBadField p e then some 4
  else if k = 1 && !(decide (1 ≤ aHolder e) && decide (aHolder e ≤ 0xFFC)) then some 9
  else
    let same := before.filter fun x => rKind x == k
    if planLimit k ≤ same.length then some 7
    else if (planName e).isSome && same.any fun x => planName x == planName e then some 10
    else if same.any fun x => spansMeet (planSpan x) (planSpan e) then some 11
    else none

/-- Records pass: the code and the entry. -/
def planRecordsCheck (p : Part) : Nat → List Entry → List Entry → Option (Nat × Nat)
  | _, _, [] => none
  | i, before, e :: rest =>
    match planRecordCheck p before e with
    | some c => some (c, i)
    | none => planRecordsCheck p (i + 1) (before ++ [e]) rest

/-- The tiles of a run that lie in no RESERVE run: some remain. -/
def unreservedIn (rs : List Entry) (first last : Nat) : Bool :=
  let shared := sumBy (fun e => min (last + 1) (vFirst e + vCount e) - max first (vFirst e)) rs
  decide (shared < last + 1 - first)

/-- The RESERVE runs given overcommit under the cadastre in force (03:R93). -/
def State.overcommits (s : State) (rs : List Entry) : Bool :=
  s.cad.inForce.any fun p =>
    pValid p.2 && pGate p.2 == 2 && pGrants p.2 .holder 1 &&
    unreservedIn rs ((pStart p.2 - denseBase) / 4096) ((pEnd p.2 - denseBase) / 4096)

def sealSame (a b : Entry) : Bool := sTier a == sTier b && sStart a == sStart b && sEnd a == sEnd b && sKey a == sKey b

/-- A parcel against SEAL records (03:R95): it meets a record that does not hold it whole under its key. -/
def sealClash (e r : Entry) : Bool :=
  (pGate e == 1 || pGate e == 2) && decide (pStart e ≤ sEnd r) && decide (sStart r ≤ pEnd e + 63) &&
  !(decide (sStart r ≤ pStart e) && decide (pEnd e + 63 ≤ sEnd r) && pSealed e && pKey e == sKey r)
def sealMeets (e r : Entry) : Bool :=
  (pGate e == 1 || pGate e == 2) && decide (pStart e ≤ sEnd r) && decide (sStart r ≤ pEnd e + 63)

/-- Whole-plan pass: for each code, the entries of its instances; an instance with no record gives 0. Table 03-5 names no entries for
SEAL_MISMATCH and CHANNEL_BUSY: the model takes the SEAL records that clash, and the CHANNEL or WINDOW records that change (log entry 86).
Stored tiles are those the map names at validation (03:R92, log entry 97). -/
def State.planWholeChecks (s : State) (l : List (Nat × Entry)) : List (Nat × List Nat) :=
  let of (k : Nat) := recordsOf l k
  let chans := of 3
  let wins := of 2
  let seals := of 7
  let res := of 4
  let old := s.plan.recs 7
  let names (w : Nat) := chans.filter fun c => cWindow c.2 == w
  let smax := max s.t0.scratchMiB (hScratch (planEntry l 0))
  let room := 16384 - 256 * smax - 256
  let taken := sumBy (fun p => aSlots p.2) (of 1) + sumBy (fun p => wSlots p.2) wins
  let rs := res.map (·.2)
  let outside := sumBy (fun p : Nat × MapEntry => if reservedIn rs p.1 then 0 else p.2.sectors) s.t2.tileMap
  let reserved := 8 * sumBy (fun e => vCount e) rs
  let parcels := (s.cad.inForce.filter fun p => pValid p.2).map (·.2)
  let oldChan (c : Nat) := s.plan.channel c
  let changed (c : Nat) : Bool := match oldChan c, chans.find? fun p => cChannel p.2 == c with
    | none, none => false
    | some a, some b => !(cOwner a == cOwner b.2 && cClass a == cClass b.2 && cOps a == cOps b.2 && cWindow a == cWindow b.2)
    | _, _ => true
  let busy := (List.range s.part.channels).filter fun c => !((s.chan c).state = .idle)
  let winChanged (c : Nat) : Option (List Nat) := match oldChan c with
    | none => none
    | some a => match s.plan.window (cWindow a), wins.find? fun p => wWindow p.2 == cWindow a with
      | some v, some w => if wSlots v == wSlots w.2 && wLead v == wLead w.2 then none else some [w.1]
      | some _, none => some [0]
      | none, _ => none
  let own (c : Nat) : List Nat := match changed c, chans.find? fun p => cChannel p.2 == c with
    | true, some p => [p.1]
    | true, none => [0]
    | false, _ => []
  let busyEntries : List Nat := busy.flatMap fun c => own c ++ (winChanged c).getD []
  [(0x0C, (chans.filter fun c =>
        (!(cWindow c.2 == 0xFF) && ((wins.all fun w => !(wWindow w.2 == cWindow c.2)) || decide (2 ≤ (names (cWindow c.2)).length))) ||
        (((cOps c.2).testBit 5) && cWindow c.2 == 0xFF)).map (·.1) ++
      (wins.filter fun w => (names (wWindow w.2)).isEmpty).map (·.1)),
   (0x0D, ((of 6).filter fun m => decide (1 ≤ mClass m.2) && (of 5).all fun k => !(kClass k.2 == mClass m.2)).map (·.1)),
   (0x0E, (if decide (room < taken) then (of 1).map (·.1) ++ wins.map (·.1) else []) ++
      ((of 1).filter fun a => decide (room < aSlots a.2)).map (·.1)),
   (0x0F, if decide (s.part.usableSectors < reserved + outside) then (if res.isEmpty then [0] else res.map (·.1)) else []),
   (0x10, if s.overcommits rs && !hOvercommitOk (planEntry l 0) then [0] else []),
   (0x11, (seals.filter fun r => !((s.keySlot (sKey r.2)).state == 1)).map (·.1)),
   (0x12, (seals.filter fun r => !(old.any fun o => sealSame o r.2) && !rRelease r.2).map (·.1) ++
      (if hReleaseRemoved (planEntry l 0) then []
       else if old.all fun o => seals.any fun r => sealSame o r.2 then [] else [0])),
   (0x13, (seals.filter fun r => parcels.any fun e => sealClash e r.2).map (·.1) ++
      (if parcels.any fun e => pSealed e && seals.all fun r => !sealMeets e r.2 then [0] else [])),
   (0x14, busyEntries)]

/-- The lowest record entry involved; 0 only when no instance involves a record. -/
def lowestEntry (l : List Nat) : Nat := match sortKey id (l.filter fun n => !(n == 0)) with
  | n :: _ => n
  | [] => 0

/-- Validate the shadow plan: the result and fail_index (03:R90). -/
def State.validatePlan (s : State) : Nat × Nat :=
  let l := s.plan.sh
  match planHeaderCheck l with
  | some c => (c, 0)
  | none =>
    match planRecordsCheck s.part 1 [] ((List.range (hCount (planEntry l 0))).map fun i => planEntry l (i + 1)) with
    | some r => r
    | none =>
      match (s.planWholeChecks l).find? fun q => !q.2.isEmpty with
      | some (c, es) => (c, lowestEntry es)
      | none => (0, 0)

/-! ### Cadastre validation (10:R264, Table 10-9) -/

/-- One HOLDER entry. -/
def holderCheck (p : Part) (e : Entry) : Option Nat :=
  if !(decide (1 ≤ hHolder e) && decide (hHolder e ≤ 0xFFD)) then some 1
  else if decide (p.ports ≤ hPort e) then some 2
  else none

/-- The address space of a gate: first and last part (10 Table 10-4); the family's fast and dense ranges. -/
def gateSpace (g : Nat) : Nat × Nat :=
  match g with
  | 1 => (fastBase, 0x7FFFFFFC0)
  | 2 => (denseBase, 0x7FFFFFFFC0)
  | 4 => (0, 0x3FFC0)
  | _ => (0, 0xFFFFFC0)

def parcelBadField (e : Entry) : Bool :=
  let g := pGate e
  let (lo, hi) := gateSpace g
  let m := pMatch e
  decide (4 < g) || pMode e == 3 || decide (pEnd e < pStart e) || !(pStart e % 64 == 0) || !(pEnd e % 64 == 0) ||
  decide (pStart e < lo) || decide (hi < pEnd e) ||
  (g == 4 && !(pStart e % 512 == 0 && (pEnd e + 64) % 512 == 0)) ||
  (decide (3 ≤ g) && (!(pRights e / 64 == 0) || !(pMode e == 0))) ||
  (pMode e == 1 && (!(m / 0x1000 == 0) || (!(decide (1 ≤ m) && decide (m ≤ 0xFFC)) && !(m == 0xFFF)))) ||
  (pMode e == 0 && !(m == 0)) || (pMode e == 2 && !(m / 256 == 0)) ||
  (pSealed e && !(g == 1 || g == 2)) || (!pSealed e && !(pKey e == 0))

/-- One PARCEL entry. -/
def State.parcelCheck (s : State) (e : Entry) : Option Nat :=
  let p := s.part
  let g := pGate e
  if parcelBadField e then some 1
  else if (g == 2 && (!p.dense || decide (denseBase + p.tiles * 4096 ≤ pEnd e))) || (g == 1 && decide (p.fastEnd ≤ pEnd e)) ||
          (pSealed e && !p.encrypt) then some 2
  else if decide (3 ≤ g) && !(pGrants e .steward 0 && pGrants e .steward 1) then some 3
  else if pSealed e && !((s.keySlot (pKey e)).state == 1) then some 4
  else none

/-- The first pair of a list that a test joins, in index order. -/
def firstPair (f : Entry → Entry → Bool) : List (Nat × Entry) → Option (Nat × Nat)
  | [] => none
  | a :: t => match t.find? fun b => f a.2 b.2 with
    | some b => some (a.1, b.1)
    | none => firstPair f t

/-- The groups an ID has through one entry, as a set. -/
def groupSet (e : Entry) : List Nat := (sortKey id (hGroups e)).dedup

/-- The bucket size of a gate (10 Table 10-4, R251). -/
def Part.bucket (p : Part) (g : Nat) : Nat :=
  match g, p with
  | 1, .rbk9208 => 0x200000
  | 1, _ => 0x400000
  | 2, .rbk9208 => 0x2000000
  | 2, _ => 0x4000000
  | 4, _ => 64
  | _, _ => 0x10000

/-- The buckets that a parcel covers in part, keyed by gate and bucket (10:R261). -/
def Part.partialBuckets (p : Part) (e : Entry) : List Nat :=
  let b := p.bucket (pGate e)
  let last := pEnd e + 63
  let cut (k : Nat) : Bool := decide (k * b < pStart e) || decide (last < k * b + b - 1)
  let l := if pStart e / b = last / b then [pStart e / b] else [pStart e / b, last / b]
  (l.filter cut).map fun k => pGate e * 2 ^ 32 + k

/-- The first pair of overlapping parcels in order of gate, then start. -/
def firstOverlap : List (Nat × Entry) → Option (Nat × Nat)
  | a :: b :: t => if pGate a.2 == pGate b.2 && decide (pStart b.2 ≤ pEnd a.2) then some (a.1, b.1) else firstOverlap (b :: t)
  | _ => none

/-- The result of a cadastre validation: code, table, INDEX_A, INDEX_B. -/
structure CadVerdict where
  code : Nat
  table : Bool
  ixA : Nat
  ixB : Nat
  deriving DecidableEq, Repr

/-- Validate the shadow cadastre. -/
def State.validateCad (s : State) : CadVerdict :=
  let hs := s.cad.shH.filter fun p => hValid p.2
  let ps := s.cad.shP.filter fun p => pValid p.2
  match hs.findSome? fun p => (holderCheck s.part p.2).map fun c => (c, p.1) with
  | some (c, i) => ⟨c, false, i, 0⟩
  | none =>
  match ps.findSome? fun p => (s.parcelCheck p.2).map fun c => (c, p.1) with
  | some (c, i) => ⟨c, true, i, 0⟩
  | none =>
  match firstPair (fun a b => hKind a == hKind b && hPort a == hPort b && (!hKind a || hSpid a == hSpid b)) hs with
  | some (a, b) => ⟨5, false, a, b⟩
  | none =>
  match firstPair (fun a b => hHolder a == hHolder b && !(groupSet a == groupSet b)) hs with
  | some (a, b) => ⟨6, false, a, b⟩
  | none =>
  match firstOverlap (sortKey (fun p => pGate p.2 * 2 ^ 40 + pStart p.2) ps) with
  | some (a, b) => ⟨7, true, a, b⟩
  | none =>
  let seals := s.plan.recs 7
  match ps.find? fun p => seals.any (fun r => sealClash p.2 r) || (pSealed p.2 && seals.all fun r => !sealMeets p.2 r) with
  | some p => ⟨8, true, p.1, 0⟩
  | none =>
  let need := sortKey (·.1) (ps.flatMap fun p => (s.part.partialBuckets p.2).map fun k => (k, p.1))
  match need.find? fun q => decide (32 < (need.filter fun r => r.1 == q.1).length) with
  | some q => ⟨9, true, q.2, 0⟩
  | none => ⟨0, false, 0, 0⟩

/-! ### Starting a commit (01:R35, 03:R88, R89, 10:R263, 11:R293) -/

/-- A commit starts; under VERSION_LIMITED it goes to its report with WRONG_MODE. -/
def State.startCommit (s : State) (isPlan : Bool) (byMailbox : Option Port) : State :=
  let limited : Bool := s.md.restrict.versionLimited
  let (touched, reowned) := if isPlan && !limited then planChans s.plan.inf s.plan.sh else ([], [])
  let k : Commit := ⟨isPlan, if limited then .reporting else .validating, byMailbox, if limited then resWrongMode isPlan else 0, 0, 0, false,
    touched, reowned⟩
  { s with
    commit := some k
    cad := if isPlan || limited then s.cad else { s.cad with running := true } }

/-- REVERT (10:R263). -/
def State.revertCad (s : State) : State := { s with cad := { s.cad with shH := s.cad.inH, shP := s.cad.inP } }

/-! ### Persistence (01:R31, 18:R443) -/

/-- The copy that a persistence writes: not the newest complete one (18:R443). -/
def writeSecond (complete0 complete1 : Bool) (g0 g1 : Word) : Bool :=
  complete0 && (!complete1 || decide (g1.toNat ≤ g0.toNat))

/-- The pages of a copy: its entries and its commit page, which is programmed last (18 Table 18-2, R443). -/
def copyPages (isPlan second : Bool) : List Nat :=
  if isPlan then (List.range 33).map fun i => (if second then 2880 else 2816) + i
  else (List.range 97).map fun i => (if second then 2688 else 2560) + i

/-- Program a charter page where it lies (log entry 88): a generation of its own, and its tallies (08:R216, 18:R442). -/
def State.programCharter (s : State) (c : Nat) : State :=
  let x := s.charterAt c
  let gen : Word := BitVec.ofNat 32 s.t2.seqNo
  let s : State := { s with t2 := { s.t2 with seqNo := s.t2.seqNo + 1, relocQ := s.t2.relocQ.filter fun q => !(q == x.page) } }
  (if s.part.dense then s.countPage x.page 1 0 else s.countCharterFast c 68).setCharter c ⟨x.page, gen, []⟩

def State.programCharters (s : State) (l : List Nat) : State := l.foldl (fun s c => s.programCharter c) s

/-- Generations for n charter pages lie below the stored ceiling (14:R361). -/
def State.charterReady (s : State) (n : Nat) : Bool := decide (s.t2.seqNo + n < (s.store.view 1544).value.toNat)

/-- Persistence begins: the copy being written is no longer complete, and the ceiling is raised where its pages need it (18:R443,
14:R361). -/
def State.beginPersist (s : State) (isPlan : Bool) : State :=
  let s := if s.charterReady 97 then s else s.raiseCeiling
  if isPlan then
    let p := s.plan
    if writeSecond p.copy0.complete p.copy1.complete p.copy0.gen p.copy1.gen then
      { s with plan := { p with copy1 := { p.copy1 with complete := false } } }
    else { s with plan := { p with copy0 := { p.copy0 with complete := false } } }
  else
    let c := s.cad
    if writeSecond c.copy0.complete c.copy1.complete c.copy0.gen c.copy1.gen then
      { s with cad := { c with copy1 := { c.copy1 with complete := false } } }
    else { s with cad := { c with copy0 := { c.copy0 with complete := false } } }

/-- Write the copy in force to the charter region under a generation. -/
def State.writeCad (s : State) (g : Word) (holders parcels : List (Nat × Entry)) : State :=
  let c := s.cad
  let copy : CadCopy := ⟨holders, parcels, g, true⟩
  let second := writeSecond c.copy0.complete c.copy1.complete c.copy0.gen c.copy1.gen
  ({ s with cad := { c with copy0 := if second then c.copy0 else copy, copy1 := if second then copy else c.copy1 } } :
    State).programCharters (copyPages false second)
def State.writePlan (s : State) (g : Word) (entries : List (Nat × Entry)) : State :=
  let p := s.plan
  let copy : PlanCopy := ⟨entries, g, true⟩
  let second := writeSecond p.copy0.complete p.copy1.complete p.copy0.gen p.copy1.gen
  ({ s with plan := { p with copy0 := if second then p.copy0 else copy, copy1 := if second then copy else p.copy1 } } :
    State).programCharters (copyPages true second)

/-! ### Meanings -/

/-- COMMIT_VALIDATED (01:R31, R34): validation ends; a passed shadow copy goes to persistence, unless the field abandons it at once. -/
def execCommitValidated (s : State) : Out :=
  let s := s.fresh
  match s.commit with
  | some k =>
    if !(k.phase = .validating) || !s.stewardUp then .next s
    else
      let v : CadVerdict := if k.isPlan then let (c, i) := s.validatePlan; ⟨c, false, i, 0⟩ else s.validateCad
      if v.code = 0 then
        let s := ({ s with commit := some { k with phase := .persisting } } : State).abandonOnField
        .next (if s.commit.any fun k => k.phase = .persisting then s.beginPersist k.isPlan else s)
      else
        .next { s with commit := some { k with phase := .reporting, result := BitVec.ofNat 16 v.code, ixA := BitVec.ofNat 16 v.ixA,
                                               ixB := BitVec.ofNat 16 v.ixB, table := v.table } }
  | none => .next s

/-- The cadastre epoch (01:R32). -/
def State.cadEpoch (s : State) : State :=
  let g := s.cad.gen + 1
  let s := s.writeCad g s.cad.shH s.cad.shP
  let s : State := { s with cad := { s.cad with inH := s.cad.shH, inP := s.cad.shP, gen := g } }
  s.addTrace 0x06 srcDevice (tpay [(12, 1, 0), (13, 4, g.toNat)])

/-- The header of the copy in force: generation g, result and fail_index 0 (03:R86). -/
def setReport (h : Entry) (g : Word) (result fail : BitVec 16) : Entry :=
  h.extractLsb' 0 192 |>.setWidth 256 |> fun x => x ||| (g.setWidth 256 <<< 192) ||| (result.setWidth 256 <<< 224) ||| (fail.setWidth 256 <<< 240)

/-- The plan epoch (01:R36, 03:R96, R97): the released ranges' dense tiles are released under the old plan, and their fast lines keep their
stored bits. -/
def State.planEpoch (s : State) : State :=
  let old := s.plan
  let g := old.gen + 1
  let entries := tset (old.sh.filter fun p => decide (p.1 ≤ hCount (planEntry old.sh 0))) 0 (setReport (planEntry old.sh 0) g 0 0)
  let seals (l : List (Nat × Entry)) : List Entry := (recordsOf l 7).map (·.2)
  let gone := ((seals entries).filter fun r => !((seals old.inf).any fun o => sealSame o r)) ++
              ((seals old.inf).filter fun r => !((seals entries).any fun o => sealSame o r))
  let hit (n : Nat) : Bool :=
    gone.any fun r => sTier r == 2 && decide (sStart r ≤ denseBase + n * 4096) && decide (denseBase + n * 4096 ≤ sEnd r)
  let free := s.usableFree
  let s := (s.releaseWhere hit).writePlan g entries
  let s : State := { s with plan := { s.plan with inf := entries, gen := g } }
  (s.addTrace 0x06 srcDevice (tpay [(12, 1, 1), (13, 4, g.toNat)])).review free

/-- COMMIT_EPOCH (01:R31-R34, 18:R443): persistence has completed and the new copy takes effect. -/
def execCommitEpoch (s : State) : Out :=
  let s := s.fresh
  match s.commit with
  | some k =>
    if !(k.phase = .persisting) || !s.stewardUp || !s.inService then .next s
    else if !s.charterReady 97 then .next s.raiseCeiling
    else
      let s := if k.isPlan then s.planEpoch else s.cadEpoch
      .next { s with commit := some { k with phase := .reporting, result := 0, ixA := 0, ixB := 0, table := false } }
  | none => .next s

/-- Held doorbells after the report, in arrival order: discarded where the plan was taken and the channel's owner changed (03:R98). -/
def State.releaseBells (s : State) (k : Commit) : State :=
  let l := s.ferry.held
  let s : State := { s with ferry := { s.ferry with held := [] } }
  l.foldl (fun s b =>
    if k.result = 0 && k.reowned.contains b.channel then s.bellRefuse b.channel (fld b.data 6 1) 8
    else if s.md.mode = .service then s.actBell b.channel b.holder b.data b.enables
    else s) s

/-- A commit's report step (03:R86, 10:R264, 11:R293). -/
def State.reportCommit (s : State) (k : Commit) : State :=
  let free := s.usableFree
  let s : State := { s with commit := none }
  let s : State :=
    if k.isPlan then
      { s with plan := { s.plan with sh := tset s.plan.sh 0 (setReport (planEntry s.plan.sh 0) s.plan.gen k.result k.ixA) } }
    else
      { s with cad := { s.cad with running := false, result := k.result.setWidth 4, table := k.table, ixA := k.ixA.setWidth 13,
                                   ixB := k.ixB.setWidth 13 } }
  let gen := if k.isPlan then s.plan.gen else s.cad.gen
  let s := s.raise (if k.isPlan then 22 else 23) 0x09 srcDevice
    (pay [(16, 1, bnat k.isPlan), (17, 2, k.result.toNat), (19, 2, k.ixA.toNat), (21, 2, k.ixB.toNat), (23, 4, gen.toNat)])
  let s : State := match k.byMailbox with
    | some _ => { s.touch .mailbox with mbox := { s.mbox with background := none,
                                                              bgStatus := some (if k.isPlan then .planCommit else .cadCommit, k.result) } }
    | none => s
  if k.isPlan then (s.releaseBells k).review free else s

/-- COMMIT_REPORT (01:R31). -/
def execCommitReport (s : State) : Out :=
  let s := s.fresh
  match s.commit with
  | some k => if k.phase = .reporting && s.stewardUp then .next (s.reportCommit k) else .next s
  | none => .next s

end Sys2Proof.Machine
end

