-- ==== Sys2Proof/Machine/Digest.lean ====
section
/-! DEFINITION. SHA-256 (FIPS 180-4), for conditioning blocks (19:R466) and key check values (19 Table 19-5). -/

namespace Sys2Proof.Machine

open Sys2Proof

/-- The round constants. -/
def shaK : List Word :=
  [0x428a2f98, 0x71374491, 0xb5c0fbcf, 0xe9b5dba5, 0x3956c25b, 0x59f111f1, 0x923f82a4, 0xab1c5ed5] ++
  [0xd807aa98, 0x12835b01, 0x243185be, 0x550c7dc3, 0x72be5d74, 0x80deb1fe, 0x9bdc06a7, 0xc19bf174] ++
  [0xe49b69c1, 0xefbe4786, 0x0fc19dc6, 0x240ca1cc, 0x2de92c6f, 0x4a7484aa, 0x5cb0a9dc, 0x76f988da] ++
  [0x983e5152, 0xa831c66d, 0xb00327c8, 0xbf597fc7, 0xc6e00bf3, 0xd5a79147, 0x06ca6351, 0x14292967] ++
  [0x27b70a85, 0x2e1b2138, 0x4d2c6dfc, 0x53380d13, 0x650a7354, 0x766a0abb, 0x81c2c92e, 0x92722c85] ++
  [0xa2bfe8a1, 0xa81a664b, 0xc24b8b70, 0xc76c51a3, 0xd192e819, 0xd6990624, 0xf40e3585, 0x106aa070] ++
  [0x19a4c116, 0x1e376c08, 0x2748774c, 0x34b0bcb5, 0x391c0cb3, 0x4ed8aa4a, 0x5b9cca4f, 0x682e6ff3] ++
  [0x748f82ee, 0x78a5636f, 0x84c87814, 0x8cc70208, 0x90befffa, 0xa4506ceb, 0xbef9a3f7, 0xc67178f2]

/-- The initial hash value. -/
def shaInit : List Word := [0x6a09e667, 0xbb67ae85, 0x3c6ef372, 0xa54ff53a, 0x510e527f, 0x9b05688c, 0x1f83d9ab, 0x5be0cd19]

def ror (x : Word) (n : Nat) : Word := x.rotateRight n

/-- The next word of the schedule, from the words so far, latest first. -/
def shaNext (w : List Word) : Word :=
  let a := lgetD w 14 0
  let b := lgetD w 1 0
  (ror b 17 ^^^ ror b 19 ^^^ (b >>> 10)) + lgetD w 6 0 + (ror a 7 ^^^ ror a 18 ^^^ (a >>> 3)) + lgetD w 15 0

/-- The 64 words of a block's schedule. -/
def shaSchedule (block : List Word) : List Word := (iter (fun w => shaNext w :: w) 48 block.reverse).reverse

/-- One round on the eight working variables. -/
def shaRound (v : List Word) (kw : Word × Word) : List Word :=
  match v with
  | [a, b, c, d, e, f, g, h] =>
    let t1 := h + (ror e 6 ^^^ ror e 11 ^^^ ror e 25) + ((e &&& f) ^^^ (~~~e &&& g)) + kw.1 + kw.2
    let t2 := (ror a 2 ^^^ ror a 13 ^^^ ror a 22) + ((a &&& b) ^^^ (a &&& c) ^^^ (b &&& c))
    [t1 + t2, a, b, c, d + t1, e, f, g]
  | _ => v

/-- Compress one block of 16 words. -/
def shaBlock (h : List Word) (block : List Word) : List Word :=
  (h.zip ((shaK.zip (shaSchedule block)).foldl shaRound h)).map fun p => p.1 + p.2

/-- Big-endian words of a list of bytes. -/
def beWords (l : List Byte) (n : Nat) : List Word :=
  (List.range n).map fun i => (List.range 4).foldl (fun (x : Word) k => (x <<< 8) ||| (lgetD l (4 * i + k) 0).setWidth 32) 0

/-- The padded message. -/
def shaPad (l : List Byte) : List Byte :=
  let n := l.length
  l ++ [0x80] ++ List.replicate ((119 - n % 64) % 64) 0 ++ (List.range 8).map fun i => BitVec.ofNat 8 (8 * n / 256 ^ (7 - i))

/-- SHA-256 of a list of bytes: the 32 bytes of the digest. -/
def sha256 (l : List Byte) : List Byte :=
  let m := shaPad l
  let h := (List.range (m.length / 64)).foldl (fun h i => shaBlock h (beWords (m.drop (64 * i)) 16)) shaInit
  h.flatMap fun w => (toBytes w 4).reverse

/-- Bytes 0-7 of the SHA-256 of "RNBK" and the key (19 Table 19-5). -/
def kcv (key : BitVec 512) : BitVec 64 := ofBytes 64 ((sha256 ([0x52, 0x4E, 0x42, 0x4B] ++ toBytes key 64)).take 8)

end Sys2Proof.Machine
end

