-- ==== Sys2Proof/Machine/Registers.lean ====
section
/-! DEFINITION. The direct registers: what each reads, what a write does, and which accesses a warden path is refused
(spec/12 R301-R306, R317-R320, 13, 15 Table 15-10, 16 Table 16-4). -/

namespace Sys2Proof.Machine

open Sys2Proof

/-! ### Values (13 Tables 13-4 to 13-13) -/

def word (n : Nat) : Word := BitVec.ofNat 32 n

/-- OWNER.HOLDER. -/
def OwnerTok.code (o : OwnerTok) : Nat := match o.holder with
  | some p => (pathHolder p).toNat
  | none => 0
/-- A background command of the mailbox runs: its holder's activity lasts until it ends (12:R319). -/
def State.ownerBusy (s : State) : Bool := s.own.holder = some .mailbox && s.mbox.background.isSome

/-- OWNER.IDLE_MS (12:R319). -/
def State.idleMs (s : State) : Nat := if s.own.holder.isNone || s.ownerBusy then 0 else min 1000 ((s.now - s.own.last.toNat) / msec)

/-- A channel mask, one bit a channel. -/
def State.chanMask (s : State) (st : ChState) : BitVec 64 :=
  ((List.range s.part.channels).filter fun c => (s.chan c).state = st).foldl (fun m c => m ||| bitOf c) 0

/-- The image of a slot that passes every check of 18:R448 but the stepping. -/
def Steward.image (w : Steward) (slotB : Bool) : Option Image :=
  if w.writing = some slotB then none
  else match (if slotB then w.imgB else w.imgA) with
    | some i => if i.authentic && !w.unread.getLsbD (bnat slotB) then some i else none
    | none => none
/-- A stepping list accepts the part's stepping (18:R447). -/
def State.accepts (s : State) (l : List (Byte × Byte × Byte)) : Bool :=
  l.any fun (j, lo, hi) => j == s.fuse.stepMajor && decide (lo.toNat ≤ s.fuse.stepMinor.toNat) && decide (s.fuse.stepMinor.toNat ≤ hi.toNat)
/-- FW_VER_A, FW_VER_B (18:R449). -/
def State.fwVer (s : State) (slotB : Bool) : Word := match s.stew.image slotB with
  | some i => i.version
  | none => 0
def State.stepOk (s : State) (slotB : Bool) : Bool := match s.stew.image slotB with
  | some i => s.accepts i.steppings
  | none => false

/-- TRAV_STAT progress in units of 1/1,024. -/
def State.progress (s : State) (t : Tier) : Nat :=
  let n := s.passTotal t
  if n = 0 then 0 else min 1023 (1024 * (s.travOf t).done / n)

/-- CAP3 (13 Table 13-4): widest link 8 lanes and 64 GT/s a port (21 R501). -/
def State.cap3 (s : State) : Word :=
  word (0x38 + (if s.part.ports = 2 then 0x3800 else 0) + bbit s.strap.msel 16 + s.strap.saddr.toNat * 2 ^ 17)

/-- PD_CTL.PORT_OFF as the part has it (13 Table 13-14). -/
def Part.portOffMask (p : Part) : BitVec 2 := if p.ports = 2 then 3 else 1

/-- What a register reads. Reading ENT_DATA also draws (19:R469): that is `State.readReg`. -/
def State.reg (s : State) (o : Nat) : Word :=
  match o with
  | 0x000 => 0x1F6C02D5
  | 0x004 => word (s.part.number + bbit s.part.encrypt 16)
  | 0x008 => word (s.fuse.stepMajor.toNat * 256 + s.fuse.stepMinor.toNat)
  | 0x010 => s.part.cap0
  | 0x014 => s.part.cap1
  | 0x018 => s.part.cap2
  | 0x01C => s.cap3
  | 0x020 => word (s.md.cause.toNat * 16 + s.md.prev.code * 4 + s.md.mode.code)
  | 0x024 => word (bbit s.md.lock 31 + bbit s.md.musterEn 4)
  | 0x028 => word (s.idleMs * 2 ^ 16 + s.own.code * 16)
  | 0x030 => s.evt.stat.setWidth 32
  | 0x034 => s.evt.en.setWidth 32
  | 0x040 => word s.md.restrict.toNat
  | 0x050 => word (s.tide.seq.toNat * 2 ^ 24 + s.tide.energy.toNat)
  | 0x054 => word (bbit s.tide.src 31 + s.tide.budget)
  | 0x058 => word ((s.dirtyBytes + 1023) / 1024)
  | 0x05C => word (bbit s.tide.lock 31 + s.tide.ceiling.toNat)
  | 0x060 => s.comp.x.setWidth 32
  | 0x064 => s.comp.y.setWidth 32
  | 0x068 => s.comp.z.setWidth 32
  | 0x06C => word ((if s.part.dense then s.comp.witD.toNat else 0) * 2 ^ 24 + s.comp.witF.toNat * 2 ^ 16 + s.comp.seq.toNat * 256 +
      s.comp.valid.toNat * 16 + s.comp.src.toNat * 4 + s.comp.level.toNat)
  | 0x070 => word (bbit s.comp.lock 31 + s.comp.ro.toNat * 2 ^ 20 + s.comp.inhibit.toNat * 2 ^ 10 + s.comp.caution.toNat)
  | 0x074 => word (s.comp.warnThr.toNat * 2 ^ 24 + s.comp.tempDie.toNat * 2 ^ 16 + s.comp.tempMax.toNat)
  | 0x080 => s.tbl.sel.setWidth 32
  | 0x084 => s.tbl.index.setWidth 32
  | 0x08C => word (s.tbl.cmd.toNat * 2 ^ 16 + s.tbl.code.toNat * 256 + bbit s.tbl.overrun 1 + bbit s.tbl.busy 0)
  | 0x090 => s.tbl.data.extractLsb' 0 32
  | 0x094 => s.tbl.data.extractLsb' 32 32
  | 0x098 => s.tbl.data.extractLsb' 64 32
  | 0x09C => s.tbl.data.extractLsb' 96 32
  | 0x0A0 => s.tbl.data.extractLsb' 128 32
  | 0x0A4 => s.tbl.data.extractLsb' 160 32
  | 0x0A8 => s.tbl.data.extractLsb' 192 32
  | 0x0AC => s.tbl.data.extractLsb' 224 32
  | 0x0C4 => word (s.cad.ixB.toNat * 2 ^ 19 + s.cad.ixA.toNat * 64 + s.cad.result.toNat * 4 + bbit s.cad.table 1 + bbit s.cad.running 0)
  | 0x0C8 => s.cad.faultAddr
  | 0x0CC => s.cad.faultInfo
  | 0x104 => word (s.busyPage * 2 ^ 16 + s.store.last.toNat * 256 + bbit s.store.ready 1 + bbit s.store.busy 0)
  | 0x108 => s.store.page.setWidth 32
  | 0x140 => word (s.ferry.halts.toNat * 2 ^ 16 +
      ((List.range s.part.channels).filter fun c => !((s.chan c).state = .idle)).length * 256 + s.inFlight)
  | 0x148 => (s.chanMask .halted).extractLsb' 0 32
  | 0x14C => (s.chanMask .halted).extractLsb' 32 32
  | 0x150 => (s.chanMask .stalled).extractLsb' 0 32
  | 0x154 => (s.chanMask .stalled).extractLsb' 32 32
  | 0x180 => word (bbit s.trav.t2en 0)
  | 0x184 => word (s.progress .t2 * 2 ^ 16 + s.progress .t1 * 64 + bbit s.trav.t2.late 3 + bbit s.trav.t1.late 2 + bbit s.trav.t2.escalated 1 +
      bbit s.trav.t1.escalated 0)
  | 0x188 => s.trav.t1.period.setWidth 32
  | 0x18C => s.trav.t2.period.setWidth 32
  | 0x1C0 => word (bbit s.ent.healthFail 2 + bbit s.ent.seededOnly 1 + bbit s.ent.ready 0)
  | 0x1E0 => word (bbit s.lh.freeze 0)
  | 0x1E4 => word (bbit s.lh.wrapped 1 + bbit s.lh.freeze 0)
  | 0x1E8 => word (s.lh.seq.toNat * 2 ^ 16 + s.lh.index.toNat)
  | 0x200 => word (bbit s.pwr.lock 31 + (s.pwr.portOff &&& s.part.portOffMask).toNat)
  | 0x204 => s.pwr.on.setWidth 32
  | 0x220 => word (s.stew.restarts.toNat * 256 + bbit s.stew.slotB 0)
  | 0x224 => s.fwVer false
  | 0x228 => s.fwVer true
  | 0x22C => word ((if s.part.dense then s.stew.lz4Ver.toNat else 0) * 2 ^ 16 + s.stew.ferryVer.toNat)
  | 0x230 => word (bbit (s.stepOk true) 3 + bbit (s.stepOk false) 2 + s.stew.pairing.toNat)
  | 0x240 => s.err.ce
  | 0x244 => s.err.ue
  | 0x248 => s.err.addrFault
  | 0x260 => word (s.rcl.detail.toNat * 2 ^ 16 + s.rcl.outcome.toNat * 256 + s.rcl.stage.toNat)
  | 0x264 => s.rcl.timeUs
  | _ => 0

/-- Read a register; ENT_DATA gives 24 bits of a fresh draw while READY is 1 (19:R469). -/
def State.readReg (s : State) (o : Nat) : Word × State :=
  if o = 0x1C4 then
    if s.ent.ready then
      let (d, s) := s.draw
      (word (2 ^ 31 + bits d 0 24), s)
    else (0, s)
  else (s.reg o, s)

/-- Read a run of registers. -/
def State.readRun : State → Nat → Nat → List Word × State
  | s, _, 0 => ([], s)
  | s, o, n + 1 =>
    let (v, s) := s.readReg o
    let (l, s) := s.readRun (o + 4) n
    (v :: l, s)

/-! ### Parity of captured bytes (06:R158) -/

/-- A byte with its even parity bit, as the register file holds it: the bit follows every update, so it is a function of the byte. -/
def parByte (b : Byte) : BitVec 9 := BitVec.ofBool (parityOf b) ++ b

/-- The bytes captured where bits of the register file read inverted; none where a byte's parity is wrong. -/
def parBytes (l : List Byte) (flips : BitFlips) : Option (List Byte) :=
  let ws := (List.range l.length).zip l |>.map fun (i, b) => flips.foldl (fun (w : BitVec 9) f => if f.1 = i then w ^^^ (1 <<< f.2) else w) (parByte b)
  if ws.any parityOf then none else some (ws.map (·.setWidth 8))

/-- The same for registers. -/
def parWords (l : List Word) (flips : BitFlips) : Option (List Word) :=
  (parBytes (wordBytes l) flips).map fun b => (List.range l.length).map fun i => ofBytes 32 ((b.drop (4 * i)).take 4)

/-! ### What refuses an access (12:R304, R317, R323, 16 Table 16-4) -/

/-- The phases of Table 16-4. -/
inductive Phase where
  | early
  | middle
  | late
  | stopped
  deriving DecidableEq, Repr

/-- The phase of a stage (16:R409). -/
def phaseOf (byReset : Bool) (stage : Nat) : Phase :=
  if decide (stage ≤ 1) then (if byReset then .early else .middle) else if stage = 7 || stage = 8 then .late else .middle

/-- The phase of a recall; none outside RECALL. -/
def State.phase (s : State) : Option Phase :=
  if !(s.md.mode = .recall) then none
  else if s.rcl.stage = 15 then some .stopped
  else some (phaseOf s.rcl.byReset (if s.rcl.stage = 9 then s.rcl.heldStage else s.rcl.stage).toNat)

/-- The phase whose reads are served: that at the stop in a stopped recall. -/
def State.readPhase (s : State) : Option Phase :=
  match s.phase with
  | some .stopped => some (phaseOf s.rcl.byReset s.rcl.heldStage.toNat)
  | p => p

/-- Registers read in the early phase. -/
def earlyReadable (o : Nat) : Bool := [0, 4, 8, 0x10, 0x14, 0x18, 0x1C, 0x20, 0x30, 0x34, 0x104, 0x204, 0x260, 0x264].contains o

/-- A firmware load is admitted in this stopped recall (18:R460). -/
def State.loadStop (s : State) : Bool := s.rcl.stage = 15 && (s.rcl.outcome = 0x82 || s.rcl.outcome = 0x84)

/-- The path can be used at all (12:R300, 11:R288): a Strait port ready, a port trained. -/
def State.pathUp (s : State) (p : Path) : Bool :=
  s.clk.run && (match p with
    | .strait => s.strait.ready
    | .mailbox => s.link.p0.trained || s.link.p1.trained)

/-- A TBL_CMD value is a table read command. -/
def readCmd (v : Word) : Bool := bits v 0 4 == 1 || bits v 0 4 == 4

abbrev RegWrites := List (Nat × Word)

/-- The value a register has for a later register of the same frame (12:R306). -/
def projected (l : RegWrites) (o d : Nat) : Nat := match l.find? fun p => p.1 == o with
  | some p => p.2.toNat
  | none => d

/-- A table code (00 Table 00-5): TBL_SEL.SEL takes no other (00:R17). -/
def tableCodeOk (sel : Nat) : Bool := decide (1 ≤ sel) && decide (sel ≤ 13)

/-- SEL and INDEX as the frame's TBL_CMD write finds them. -/
def State.selFor (s : State) (l : RegWrites) : Nat × Nat :=
  let sel := projected l 0x80 s.tbl.sel.toNat % 256
  (if tableCodeOk sel then sel else s.tbl.sel.toNat, projected l 0x84 s.tbl.index.toNat % 65536)

/-- A write of OWNER, or a table read command with its TBL_SEL and TBL_INDEX writes. -/
def ownerOrTableRead (p : Nat × Word) : Bool := p.1 == 0x28 || p.1 == 0x80 || p.1 == 0x84 || (p.1 == 0x88 && readCmd p.2)

/-- A write accepted in CAUSEWAY and the settle phase (01 Table 01-7). -/
def causewayOk (p : Nat × Word) : Bool := ownerOrTableRead p || p.1 == 0x30

/-- A write of a firmware-load register (18:R458). -/
def State.loadOk (s : State) (p : Nat × Word) : Bool :=
  (decide (0x90 ≤ p.1) && decide (p.1 ≤ 0xAC)) || (p.1 == 0x88 && bits p.2 0 4 == 2) ||
  (p.1 == 0x100 && p.2.getLsbD 0 && stagingPage s.store.page.toNat) || (p.1 == 0x108 && stagingPage (bits p.2 0 9))

/-- A write accepted in a stopped recall. -/
def State.stoppedOk (s : State) (path : Path) (p : Nat × Word) : Bool :=
  p.1 == 0x28 || p.1 == 0x30 || p.1 == 0x34 || (path = .strait && (ownerOrTableRead p || (s.loadStop && s.loadOk p)))

/-- A write accepted under VERSION_LIMITED (15 Table 15-10). -/
def State.limitedOk (s : State) (l : RegWrites) (p : Nat × Word) : Bool :=
  let (sel, index) := s.selFor l
  if ([0x28, 0x30, 0x34, 0x38, 0x184, 0x80, 0x84, 0x1E0].contains p.1) then true
  else if p.1 = 0x24 then bits p.2 0 3 == 2
  else if p.1 = 0xC0 then bits p.2 0 2 == 1
  else if p.1 = 0x88 then
    readCmd p.2 || bits p.2 0 4 == 3 ||
    (bits p.2 0 4 == 2 && (sel == 5 || sel == 9 || sel == 10 || (sel == 6 && stagingPage (index / 16))))
  else if 0x90 ≤ p.1 ∧ p.1 ≤ 0xAC then true
  else if p.1 = 0x100 then p.2.getLsbD 0 && stagingPage s.store.page.toNat
  else p.1 == 0x108 && stagingPage (bits p.2 0 9)

/-- NOT_READY: refused by the recall stage. -/
def State.writeNotReady (s : State) (path : Path) (l : RegWrites) : Bool :=
  match s.phase with
  | none => false
  | some .stopped => false
  | some _ => !(path = .strait && l.all fun p => !(p.1 == 0x28) && ownerOrTableRead p)

/-- The Strait port's claim takes a token that the mailbox's claim of the same cycle took while it was free (12:R318). -/
def State.claimPrevails (s : State) (path : Path) : Bool := path = .strait && s.own.holder = some .mailbox && s.evt.cyc.mboxClaim

/-- NOT_OWNER (12:R317, R318). -/
def State.writeNotOwner (s : State) (path : Path) (l : RegWrites) : Bool :=
  let mine : Bool := s.own.holder = some path
  match l with
  | [(0x28, v)] =>
    let claim := v.getLsbD 0
    let release := v.getLsbD 1
    if claim == release then false
    else if claim then s.own.holder.isSome && !mine && !s.claimPrevails path else !mine
  | _ => !mine && !(path = .strait && l.all fun p => !(p.1 == 0x28) && ownerOrTableRead p)

/-- The CAUSEWAY epoch of this very cycle was caused by PFAIL_N or MUSTER: a request of the cycle is taken, discarded and logged (01:R44,
15 Corners). -/
def State.requestLate (s : State) : Bool :=
  s.md.mode = .causeway && s.md.prev = .service && (s.md.cause = 2 || s.md.cause = 3) && s.drain.step = 2 && s.drain.epoch = s.ts48

/-- Steps 1 and 2 of SERVICE to CAUSEWAY still run: a channel has not yet stopped (01 Table 01-7). -/
def State.stopping (s : State) : Bool :=
  s.md.mode = .causeway && s.drain.step = 2 &&
  (List.range s.part.channels).any fun c => match (s.chan c).state with
    | .loading => true
    | .running => true
    | .stalled => true
    | .aborting => true
    | _ => false

/-- A write accepted until step 3 of Table 01-7 limits management: all but what only SERVICE takes, a mode request and a CAD_CTL action (01:R35,
15:R378). -/
def stoppingOk (p : Nat × Word) : Bool := !(p.1 == 0xC0 && !(bits p.2 0 2 == 0)) && !(p.1 == 0x24 && (bits p.2 0 3 == 1 || bits p.2 0 3 == 2))

/-- WRONG_MODE. -/
def State.writeWrongMode (s : State) (path : Path) (l : RegWrites) : Bool :=
  let limited : Bool := s.md.restrict.versionLimited && !l.all (s.limitedOk l)
  match s.md.mode with
  | .recall => s.rcl.stage = 15 && !l.all (s.stoppedOk path)
  | .service => limited
  | _ =>
    (!s.stopping || limited || !l.all stoppingOk) &&
    !l.all fun p => causewayOk p || (s.requestLate && p.1 == 0x24 && (bits p.2 0 3 == 1 || bits p.2 0 3 == 2))

/-- BUSY: steward work during a steward restart, or a CAD_CTL write that 10:R263 answers so. -/
def State.writeBusy (s : State) (l : RegWrites) : Bool :=
  l.any fun p =>
    let commit : Bool := p.1 == 0xC0 && bits p.2 0 2 == 1
    let revert : Bool := p.1 == 0xC0 && bits p.2 0 2 == 2
    (s.stew.restarting && (commit || revert || (p.1 == 0x100 && p.2.getLsbD 0))) ||
    (commit && s.commit.isSome) ||
    (revert && (match s.commit with | some k => !k.isPlan | none => false))

/-! ### OWNER (12:R318-R320) -/

/-- OWNER.HOLDER changes, with its record. Causes: 0 claim, 1 release, 2 IDLE, 3 recall. -/
def State.setOwner (s : State) (new : Option Path) (cause : Nat) (source : BitVec 16) : State :=
  if s.own.holder = new then s
  else
    let o := s.own.code
    let s : State := { s with own := ⟨new, s.clk.ts⟩ }
    s.note 0x08 source (pay [(16, 2, o), (18, 2, s.own.code), (20, 1, cause)])

/-- The mailbox's claim of this cycle is refused after all: the token is free again, the claim has left no record, and the mailbox path is told
NOT_OWNER (12:R318, log entry 89). -/
def State.undoClaim (s : State) : State :=
  let cyc := s.evt.cyc
  ({ s with
    own := ⟨none, s.own.last⟩
    evt := { s.evt with cyc := { cyc with mboxClaim := false, events := cyc.events.filter fun d => !(d.code = 0x08 && d.source = srcPath .mailbox) } } }
    : State).respond (.write .mailbox .notOwner)

def State.writeOwner (s : State) (path : Path) (v : Word) : State :=
  let claim := v.getLsbD 0
  let release := v.getLsbD 1
  if claim && !release then
    let s := if s.claimPrevails path then s.undoClaim else s
    if s.own.holder.isNone then
      let s := s.setOwner (some path) 0 (srcPath path)
      { s with evt := { s.evt with cyc := { s.evt.cyc with mboxClaim := s.evt.cyc.mboxClaim || path = .mailbox } } }
    else s
  else if release && !claim && s.own.holder = some path then s.setOwner none 1 (srcPath path)
  else s

/-! ### Fields that a write changes -/

/-- Bits to clear of EVT_STAT: those set in this cycle stay (01:R46); a cleared CAD_FAULT captures again (10:R268). -/
def State.clearFlags (s : State) (v : BitVec 24) : State :=
  let stat := s.evt.stat &&& ~~~(v &&& ~~~s.evt.cyc.setNow)
  if v.getLsbD 1 then
    let s : State := { s with evt := { s.evt with stat := stat, cyc := { s.evt.cyc with cadHeld := false } } }
    if s.evt.stat.getLsbD 1 then
      { s with cad := match s.evt.cyc.faults with
                 | f :: _ => s.cad.capture f
                 | [] => s.cad }
    else s
  else { s with evt := { s.evt with stat := stat } }

/-- Forced sets, in ascending bit order (13:R330). -/
def State.forceFlags (s : State) (path : Path) (v : BitVec 24) : State :=
  (List.finRange 24).foldl (fun s b => if v.getLsbD b.val then s.force b (srcPath path) else s) s

/-- MODE_CTL.WITNESS_CLR (09:R242). -/
def State.clearWitness (s : State) (path : Path) : State :=
  if !s.md.restrict.witnessExpired then s
  else if s.trav.passSinceExpired then
    let s := s.setRestrict { s.md.restrict with witnessExpired := false }
    let s : State := { s with trav := { s.trav with passSinceExpired := false }, store := { s.store with witExpired := false, witPass := false } }
    s.persist 1
  else s.note 0x34 (srcPath path) 0

/-- MODE_CTL: the recalled field and its lock, then WITNESS_CLR, then REQ (13 Table 13-6). -/
def State.writeModeCtl (s : State) (path : Path) (v : Word) : State :=
  let req := bits v 0 3
  let s : State :=
    if s.md.restrict.versionLimited then s
    else
      let s : State := if s.md.lock then s else ({ s with md := { s.md with musterEn := v.getLsbD 4 } } : State).persist 0
      let s : State := { s with md := { s.md with lock := s.md.lock || v.getLsbD 31 } }
      if v.getLsbD 8 then s.clearWitness path else s
  if !(req = 1 || req = 2) then s
  else if s.requestLate then s.discardRequest req
  else if req = 1 then s.requestDormant else s.enterCauseway 4

/-- TIDE_CTL (01:R38, 13:R329). -/
def State.writeTideCtl (s : State) (v : Word) : State :=
  let s : State := if s.tide.lock then s
    else (({ s with tide := { s.tide with ceiling := v.extractLsb' 0 20 } } : State).persist 0).applyBudget
  { s with tide := { s.tide with lock := s.tide.lock || v.getLsbD 31 } }

/-- The limits of 09:R224. -/
def thresholdsOk (ro inhibit caution : Nat) : Bool :=
  decide (15 ≤ caution) && decide (caution ≤ 30) && decide (40 ≤ inhibit) && decide (inhibit ≤ 80) && decide (125 ≤ ro) && decide (ro ≤ 250) &&
  decide (caution < inhibit) && decide (inhibit < ro)

/-- COMPASS_THR: a write that breaks a limit leaves the register unchanged. -/
def State.writeCompassThr (s : State) (v : Word) : State :=
  if s.comp.lock then s
  else if thresholdsOk (bits v 20 10) (bits v 10 10) (bits v 0 10) then
    ({ s with comp := { s.comp with
        ro := v.extractLsb' 20 10, inhibit := v.extractLsb' 10 10, caution := v.extractLsb' 0 10, lock := v.getLsbD 31 } } : State).persist 0
  else s

/-- TEMP.MAX in units of 0.5 C. -/
def Compass.temp (c : Compass) : Int := c.tempMax.toInt

/-- TEMP_WARN (09:R235): set on reaching the threshold, again only after a fall to 3 C below it. -/
def State.evalTemp (s : State) : State :=
  let t := s.comp.temp
  let thr : Int := 2 * s.comp.warnThr.toNat
  if s.comp.warnArmed && decide (thr ≤ t) then
    ({ s with comp := { s.comp with warnArmed := false } } : State).raise 10 0x35 (srcDie s.comp.tempDie.toNat)
      (pay [(16, 2, s.comp.tempMax.toNat)])
  else if !s.comp.warnArmed && decide (t ≤ thr - 6) then { s with comp := { s.comp with warnArmed := true } }
  else s

/-- TEMP.WARN_THR. -/
def State.writeTemp (s : State) (v : Word) : State :=
  let t := bits v 24 8
  if 60 ≤ t ∧ t ≤ 110 then (({ s with comp := { s.comp with warnThr := v.extractLsb' 24 8 } } : State).persist 0).evalTemp else s

/-- TBL_SEL: a code that names no table leaves the field unchanged (00:R17). Of two paths' writes of one cycle the Strait port's stands
(13:R328). -/
def State.writeTblSel (s : State) (path : Path) (v : Word) : State :=
  let cyc := s.evt.cyc
  if !tableCodeOk (bits v 0 8) || (path = .mailbox && cyc.straitSel) then s
  else { s with
    tbl := { s.tbl with sel := v.extractLsb' 0 8 }
    evt := { s.evt with cyc := { cyc with straitSel := cyc.straitSel || path = .strait } } }

/-- TBL_INDEX. -/
def State.writeTblIndex (s : State) (path : Path) (v : Word) : State :=
  let cyc := s.evt.cyc
  if path = .mailbox && cyc.straitIndex then s
  else { s with
    tbl := { s.tbl with index := v.extractLsb' 0 16 }
    evt := { s.evt with cyc := { cyc with straitIndex := cyc.straitIndex || path = .strait } } }

/-- TBL_CMD (13:R332). Of two paths' commands of one cycle the Strait port's is accepted and the mailbox's sets OVERRUN (13:R328). -/
def State.writeTblCmd (s : State) (path : Path) (v : Word) : State :=
  let cmd : BitVec 4 := v.extractLsb' 0 4
  let cyc := s.evt.cyc
  let prevails : Bool := path = .strait && cyc.mboxCmd && (match s.tbl.latch with | some l => l.path = .mailbox && !l.inStore | none => false)
  if cmd = 0 then s
  else if s.tbl.busy && !prevails then { s with tbl := { s.tbl with overrun := true } }
  else { s with
    tbl := { s.tbl with
      cmd := cmd, overrun := prevails, busy := true, latch := some ⟨path, cmd, s.tbl.sel, s.tbl.index, s.tbl.data, false, false⟩ }
    evt := { s.evt with cyc := { cyc with mboxCmd := path = .mailbox } } }

/-- TBL_DATAk. -/
def setDataWord (d : Entry) (k : Nat) (v : Word) : Entry :=
  (d &&& ~~~((0xFFFFFFFF : Entry) <<< (32 * k))) ||| (v.setWidth 256 <<< (32 * k))

/-- CAD_CTL (10:R263). -/
def State.writeCadCtl (s : State) (v : Word) : State :=
  if bits v 0 2 = 1 then s.startCommit false none else if bits v 0 2 = 2 then s.revertCad else s

/-- The benchmark store is refused to a warden in this mode (14 Table 14-8). -/
def State.storeRefused (s : State) (page : Nat) : Bool :=
  match s.md.mode with
  | .service => s.md.restrict.fieldRo || (s.md.restrict.versionLimited && !stagingPage page)
  | .recall => !(s.loadStop && stagingPage page)
  | _ => true

/-- BMK_STAT.LAST takes a code. -/
def State.setLast (s : State) (c : Byte) : State := { s with store := { s.store with last := c } }

/-- A warden's preset of a page: refusals report in BMK_STAT.LAST (14:R341, R342, R345, R349). -/
def State.presetCommand (s : State) (path : Path) : State :=
  let page := s.store.page.toNat
  let say (s : State) (c : Byte) : State := s.setLast c
  if !s.store.ready then say s 0x04
  else if !appliancePage page then say s 0x08
  else
    let (ok, s) := s.lookRun 4 (pathHolder path) 1 5 (pathSource path) (page * 512) 8
    if !ok then say s 0x05
    else if s.storeRefused page then say s 0x07
    else if s.store.busy then s.storeBusy
    else s.startOp (.pagePreset page) .preset

/-- TRAV_CTL (08 Table 08-2). -/
def State.writeTravCtl (s : State) (v : Word) : State :=
  { s with trav := { s.trav with
      t2en := v.getLsbD 0
      t1 := if v.getLsbD 1 then s.trav.t1.restart s.md.restrict.witnessSuspect else s.trav.t1
      t2 := if v.getLsbD 2 then s.trav.t2.restart false else s.trav.t2 } }

/-- TRAV_STAT: W1C of the LATE bits; a set of the same cycle wins (13:R328). -/
def State.writeTravStat (s : State) (v : Word) : State :=
  let keep (x : Trav) (bit : Nat) (now : Bool) : Trav := if v.getLsbD bit && !now then { x with late := false } else x
  { s with trav := { s.trav with t1 := keep s.trav.t1 2 (s.evt.cyc.lateNow.getLsbD 0), t2 := keep s.trav.t2 3 (s.evt.cyc.lateNow.getLsbD 1) } }

/-- TRAV_PERIOD_T1, TRAV_PERIOD_T2 (08:R197). -/
def State.writePeriod (s : State) (t : Tier) (v : Word) : State :=
  let n := bits v 0 10
  let ok : Bool := match t with
    | .t1 => decide (60 ≤ n) && decide (n ≤ 480)
    | .t2 => decide (24 ≤ n) && decide (n ≤ 720)
  if ok then ((s.setTrav t { s.travOf t with period := BitVec.ofNat 10 n }).persist 0).evalPace t else s

/-- PD_CTL (15:R372). -/
def State.writePdCtl (s : State) (v : Word) : State :=
  let s : State := if s.pwr.lock then s
    else ({ s with pwr := { s.pwr with portOff := v.extractLsb' 0 2 &&& s.part.portOffMask } } : State).persist 0
  { s with pwr := { s.pwr with lock := s.pwr.lock || v.getLsbD 31 } }

/-- The effect of one executed register write, each field by its access code (12:R306, 13). -/
def State.putReg (s : State) (path : Path) (o : Nat) (v : Word) : State :=
  match o with
  | 0x024 => s.writeModeCtl path v
  | 0x028 => s.writeOwner path v
  | 0x030 => s.clearFlags (v.extractLsb' 0 24)
  | 0x034 => { s with evt := { s.evt with en := v.extractLsb' 0 24 } }
  | 0x038 => s.forceFlags path (v.extractLsb' 0 24)
  | 0x05C => s.writeTideCtl v
  | 0x070 => s.writeCompassThr v
  | 0x074 => s.writeTemp v
  | 0x080 => s.writeTblSel path v
  | 0x084 => s.writeTblIndex path v
  | 0x088 => s.writeTblCmd path v
  | 0x0C0 => s.writeCadCtl v
  | 0x100 => if v.getLsbD 0 then s.presetCommand path else s
  | 0x108 => { s with store := { s.store with page := v.extractLsb' 0 9 } }
  | 0x180 => s.writeTravCtl v
  | 0x184 => s.writeTravStat v
  | 0x188 => s.writePeriod .t1 v
  | 0x18C => s.writePeriod .t2 v
  | 0x1E0 => { s with lh := { s.lh with freeze := v.getLsbD 0 } }
  | 0x200 => s.writePdCtl v
  | _ =>
    if 0x90 ≤ o ∧ o ≤ 0xAC ∧ o % 4 = 0 ∧ !s.tbl.busy then
      { s with
        tbl := { s.tbl with data := setDataWord s.tbl.data ((o - 0x90) / 4) v }
        evt := { s.evt with cyc := { s.evt.cyc with capture := none } } }
    else s

/-- Executed writes in ascending offset, each with its WRITE trace record (12:R306, 20 Table 20-3). -/
def State.putRegs (s : State) (path : Path) (l : RegWrites) : State :=
  l.foldl (fun s p => (s.putReg path p.1 p.2).addTrace 0x07 (srcPath path) (tpay [(12, 2, p.1), (14, 4, p.2.toNat)])) s

/-- Gate 3 for the part of a register (10:R252, R253). -/
def State.lookReg (s : State) (path : Path) (o right : Nat) : Bool × State :=
  s.look 3 (o / 64 * 64) (pathHolder path) right (if right = 0 then 0 else 1) (pathSource path)

/-- A Strait frame with a good CRC is its holder's activity whatever its status; a mailbox command is once it executes (12:R319). -/
def State.heard (s : State) (path : Path) : State := if path = .strait then s.touch path else s

/-- A preset that a steward restart refuses reports BUSY in BMK_STAT.LAST (14:R349, log entry 90). -/
def State.presetBusy (s : State) (l : RegWrites) : State := if l.any fun p => p.1 == 0x100 && p.2.getLsbD 0 then s.setLast 0x0A else s

/-- A Strait write frame, or one register written through either path: the checks of 12:R304 in order, then the effect. -/
def State.wardenWrite (s : State) (path : Path) (l : RegWrites) : WStatus × State :=
  let s := s.heard path
  if s.writeNotReady path l then (.notReady, s)
  else if s.writeNotOwner path l then (.notOwner, s)
  else
    let (ok, s) := s.lookReg path (match l with | p :: _ => p.1 | [] => 0) 1
    if !ok then (.denied, s)
    else if s.writeWrongMode path l then (.wrongMode, s)
    else if s.writeBusy l then (.busy, s.presetBusy l)
    else (.ok, (s.touch path).putRegs path l)

/-- A Strait read frame, or one register read through either path; `flips` are bits of the register file that read inverted in the capture,
by byte of the run (06 hop 0x12). -/
def State.wardenRead (s : State) (path : Path) (o n : Nat) (flips : BitFlips) : WStatus × List Word × State :=
  let s := s.heard path
  let zero := List.replicate n (0 : Word)
  if s.readPhase = some .early && !(List.range n).all (fun i => earlyReadable (o + 4 * i)) then (.notReady, zero, s)
  else
    let (ok, s) := s.lookReg path o 0
    if !ok then (.denied, zero, s)
    else
      let (l, s) := (s.touch path).readRun o n
      match parWords l flips with
      | some l => (.ok, l, s)
      | none => (.dataError, zero, s.custody 0x12 (srcPath path) o (pathHolder path))

/-- A row that writes one register through a path. -/
def State.writeRow (s : State) (path : Path) (o v : Nat) : State :=
  if !s.pathUp path then s
  else
    let (st, s) := s.wardenWrite path [(o, word v)]
    s.respond (.write path st)

/-! ### Meanings -/

/-- OWNER_IDLE_RELEASE (12:R319). -/
def execOwnerIdleRelease (s : State) : Out :=
  let s := s.fresh
  match s.own.holder with
  | some _ =>
    if s.clk.run && s.since s.own.last 1600000000 && !s.ownerBusy then .next (s.setOwner none 2 srcDevice)
    else .next s
  | none => .next s

/-- OWNER_CLAIM (12:R318). -/
def execOwnerClaim (path : Path) (s : State) : Out := .next (s.fresh.writeRow path 0x28 1)
/-- OWNER_RELEASE (12:R318). -/
def execOwnerRelease (path : Path) (s : State) : Out := .next (s.fresh.writeRow path 0x28 2)
/-- EVT_STAT_CLEAR (13:R330). -/
def execEvtStatClear (path : Path) (bits : BitVec 24) (s : State) : Out := .next (s.fresh.writeRow path 0x30 bits.toNat)
/-- EVT_FORCE (13:R330). -/
def execEvtForce (path : Path) (bits : BitVec 24) (s : State) : Out := .next (s.fresh.writeRow path 0x38 bits.toNat)
/-- MODE_CTL_REQ_DORMANT (15:R378). -/
def execModeCtlReqDormant (path : Path) (musterEn : Bool) (s : State) : Out := .next (s.fresh.writeRow path 0x24 (1 + bbit musterEn 4))
/-- MODE_CTL_REQ_CAUSEWAY (15:R378). -/
def execModeCtlReqCauseway (path : Path) (musterEn : Bool) (s : State) : Out := .next (s.fresh.writeRow path 0x24 (2 + bbit musterEn 4))
/-- WITNESS_CLR (09:R242). -/
def execWitnessClr (path : Path) (musterEn : Bool) (s : State) : Out := .next (s.fresh.writeRow path 0x24 (256 + bbit musterEn 4))
/-- MUSTER_EN_WRITE (13 Table 13-6). -/
def execMusterEnWrite (path : Path) (musterEn : Bool) (s : State) : Out := .next (s.fresh.writeRow path 0x24 (bbit musterEn 4))
/-- MODE_CTL_LOCK (13:R329). -/
def execModeCtlLock (path : Path) (musterEn : Bool) (s : State) : Out := .next (s.fresh.writeRow path 0x24 (2 ^ 31 + bbit musterEn 4))
/-- TIDE_CTL_LOCK (13:R329). -/
def execTideCtlLock (path : Path) (ceiling : BitVec 20) (s : State) : Out := .next (s.fresh.writeRow path 0x5C (2 ^ 31 + ceiling.toNat))
/-- The fields of COMPASS_THR. -/
def thrWord (ro inhibit caution : BitVec 10) : Nat := ro.toNat * 2 ^ 20 + inhibit.toNat * 2 ^ 10 + caution.toNat
/-- COMPASS_THR_LOCK (13:R329, 09:R224). -/
def execCompassThrLock (path : Path) (ro inhibit caution : BitVec 10) (s : State) : Out :=
  .next (s.fresh.writeRow path 0x70 (2 ^ 31 + thrWord ro inhibit caution))
/-- PD_CTL_LOCK (13:R329). -/
def execPdCtlLock (path : Path) (portOff : BitVec 2) (s : State) : Out := .next (s.fresh.writeRow path 0x200 (2 ^ 31 + portOff.toNat))
/-- COMPASS_THR_WRITE (09:R224). -/
def execCompassThrWrite (path : Path) (ro inhibit caution : BitVec 10) (s : State) : Out :=
  .next (s.fresh.writeRow path 0x70 (thrWord ro inhibit caution))
/-- TRAV_PERIOD_WRITE (08:R197). -/
def execTravPeriodWrite (path : Path) (tier : Tier) (value : BitVec 10) (s : State) : Out :=
  .next (s.fresh.writeRow path (match tier with | .t1 => 0x188 | .t2 => 0x18C) value.toNat)
/-- CEILING_WRITE (01:R38). -/
def execCeilingWrite (path : Path) (ceiling : BitVec 20) (s : State) : Out := .next (s.fresh.writeRow path 0x5C ceiling.toNat)
/-- WARN_THR_WRITE (13 Table 13-11). -/
def execWarnThrWrite (path : Path) (value : Byte) (s : State) : Out := .next (s.fresh.writeRow path 0x74 (value.toNat * 2 ^ 24))
/-- PORT_OFF_WRITE (15:R372). -/
def execPortOffWrite (path : Path) (portOff : BitVec 2) (s : State) : Out := .next (s.fresh.writeRow path 0x200 portOff.toNat)
/-- CAD_CTL_COMMIT (10:R263). -/
def execCadCtlCommit (path : Path) (s : State) : Out := .next (s.fresh.writeRow path 0xC0 1)
/-- CAD_CTL_REVERT (10:R263). -/
def execCadCtlRevert (path : Path) (s : State) : Out := .next (s.fresh.writeRow path 0xC0 2)
/-- TBL_CMD_READ (13:R332). -/
def execTblCmdRead (path : Path) (s : State) : Out := .next (s.fresh.writeRow path 0x88 1)
/-- TBL_CMD_READ_INC (13:R332). -/
def execTblCmdReadInc (path : Path) (s : State) : Out := .next (s.fresh.writeRow path 0x88 4)
/-- TBL_CMD_PLAN_COMMIT (13:R333). -/
def execTblCmdPlanCommit (path : Path) (s : State) : Out := .next (s.fresh.writeRow path 0x88 3)
/-- TBL_CMD_WRITE (13:R332). -/
def execTblCmdWrite (path : Path) (s : State) : Out := .next (s.fresh.writeRow path 0x88 2)
/-- BMK_CTL_PRESET (14:R342). -/
def execBmkCtlPreset (path : Path) (s : State) : Out := .next (s.fresh.writeRow path 0x100 1)
/-- TRAV_RESTART_T1 (08 Table 08-2). -/
def execTravRestartT1 (path : Path) (t2en : Bool) (s : State) : Out := .next (s.fresh.writeRow path 0x180 (2 + bbit t2en 0))
/-- TRAV_RESTART_T2 (08 Table 08-2). -/
def execTravRestartT2 (path : Path) (t2en : Bool) (s : State) : Out := .next (s.fresh.writeRow path 0x180 (4 + bbit t2en 0))
/-- TRAV_T2_EN_WRITE (08 Table 08-2). -/
def execTravT2EnWrite (path : Path) (t2en : Bool) (s : State) : Out := .next (s.fresh.writeRow path 0x180 (bbit t2en 0))
/-- LH_FREEZE (20:R492). -/
def execLhFreeze (path : Path) (freeze : Bool) (s : State) : Out := .next (s.fresh.writeRow path 0x1E0 (bbit freeze 0))

/-- ENT_DATA_READ (19:R469). -/
def execEntDataRead (path : Path) (s : State) : Out :=
  let s := s.fresh
  if !s.pathUp path then .next s
  else
    let (st, l, s) := s.wardenRead path 0x1C4 1 []
    .next (if st = .ok then s.respond (.value path (lgetD l 0 0)) else s.respond (.write path st))

/-- REGISTER_WRITE (13:R325): any register; an offset is a multiple of 4. -/
def execRegisterWrite (path : Path) (offset : BitVec 10) (value : Word) (s : State) : Out :=
  if !WellFormed (.registerWrite path offset value) then .refused (.illFormed "REGISTER_WRITE")
  else .next (s.fresh.writeRow path offset.toNat value.toNat)

end Sys2Proof.Machine
end

