-- ==== Sys2Proof/Machine/Keys.lean ====
section
/-! DEFINITION. Key slots: what KEYSLOT reads, generation, import and erase (spec/19 R472-R481). -/

namespace Sys2Proof.Machine

open Sys2Proof

/-! ### KEYSLOT (19 Table 19-5) -/

/-- A SEAL record of the plan in force names slot k; a sealed parcel of the cadastre in force carries it. -/
def State.heldByPlan (s : State) (k : Nat) : Bool := (s.plan.recs 7).any fun e => sKey e == k
def State.heldByCad (s : State) (k : Nat) : Bool := s.cad.inForce.any fun p => pValid p.2 && pSealed p.2 && pKey p.2 == k
def State.keyHeld (s : State) (k : Nat) : Bool := s.heldByPlan k || s.heldByCad k

/-- KEYSLOT[k]. -/
def State.keyEntry (s : State) (k : Nat) : Entry :=
  let x := s.keySlot k
  pack 256 [(0, 1, x.state), (1, 1, if x.state = 1 then x.origin.toNat else 0), (2, 1, bbit (s.heldByPlan k) 0 + bbit (s.heldByCad k) 1),
    (4, 8, if x.state = 1 then (kcv x.key).toNat else 0), (12, 2, x.hits.toNat), (14, 6, x.changed.toNat)]

/-! ### Records (14:R365, 19 Table 19-6) -/

/-- Bytes 0-123 of a record. -/
def keyBody (uid : BitVec 128) (k : Nat) (key : BitVec 512) (origin : Byte) : BitVec 992 :=
  pack 992 [(0, 4, 0x5359454B), (4, 1, k), (5, 1, origin.toNat), (8, 72, (Config.aesKw uid key).toNat), (80, 8, (kcv key).toNat)]

/-- The 32 words of a record. -/
def keyWords (uid : BitVec 128) (k : Nat) (key : BitVec 512) (origin : Byte) : List Word :=
  let b := keyBody uid k key origin
  let r : BitVec 1024 := crc32c (toBytes b 124) ++ b
  (List.range 32).map fun i => r.extractLsb' (32 * i) 32

/-- Key1 and Key2 differ (19:R472). -/
def keyUsable (key : BitVec 512) : Bool := !(key.extractLsb' 0 256 == key.extractLsb' 256 256)

/-- 64 B of DRBG output. -/
def State.draw512 (s : State) : BitVec 512 × State :=
  (List.range 8).foldl (fun (acc : BitVec 512 × State) i =>
    let (d, s) := acc.2.draw
    (acc.1 ||| (d.setWidth 512 <<< (64 * i)), s)) (0, s)

/-- Draw a key, drawing again while Key1 equals Key2 (19:R472); a key still equal after n such draws has its lowest bit inverted
(log entry 23). -/
def State.drawKey : Nat → State → BitVec 512 × State
  | 0, s =>
    let (k, s) := s.draw512
    (if keyUsable k then k else k ^^^ 1, s)
  | n + 1, s =>
    let (k, s) := s.draw512
    if keyUsable k then (k, s) else s.drawKey n

/-- A slot changes state, with its KEY record. Causes: 0 GENERATE, 1 IMPORT, 2 ERASE, 3 found LOST. -/
def State.setKey (s : State) (k : Nat) (state : Nat) (origin : Byte) (key : BitVec 512) (cause : Nat) (source : BitVec 16) : State :=
  let x := s.keySlot k
  let s : State := { s with keys := { s.keys with
    slots := tput ⟨0, 0, 0, 0, 0⟩ s.keys.slots k { x with state := state, origin := origin, key := key, changed := s.ts48 } } }
  s.note 0x56 source (pay [(16, 1, k), (17, 1, x.state), (18, 1, state), (19, 1, cause)])

/-- The engine's work on a record (14:R365): 8 segment presets, and for a key its words; a word that still fails is named by its place in the
page. The key is then installed where it is to be. A record with a failing word installs nothing and ends with DATA_ERROR (14:R348, 19:R479,
log entry 91). -/
def State.applyRecord (s : State) (k : Nat) (key : Option (BitVec 512 × Byte)) (install : Bool) (source : BitVec 16) (fail : Option Nat) :
    Byte × State :=
  let a := keyAddr k
  let page := a / 128
  let blank := swPreset s.store.words a 32
  match key with
  | none =>
    (0, { s with store := { s.store with words := blank }, keys := { s.keys with records := tdel s.keys.records k } })
  | some (v, origin) =>
    let ws := (List.range 32).zip (keyWords s.fuse.uniqueId k v origin) |>.map fun (i, x) => (a + i, x)
    let w := swProgram blank ws
    let bad : Option Nat := match fail with
      | some f => if decide (a ≤ page * 128 + f) && decide (page * 128 + f < a + 32) then some f else none
      | none => none
    match bad with
    | some f =>
      (0x0C, ({ s with
        store := { s.store with words := swFail w (page * 128 + f) }
        keys := { s.keys with records := tdel s.keys.records k } } : State).storeWordFailed page f)
    | none =>
      let s : State := { s with
        store := { s.store with words := w }
        keys := { s.keys with records := tset s.keys.records k (v, origin) } }
      (0, if install then s.setKey k 1 origin v (if origin = 1 then 0 else 1) source else s)

/-- A record waits for the engine, or is in it. -/
def State.recordAsked (s : State) (k : Nat) : Bool :=
  let mine (o : IntOp) : Bool := match o with
    | .record j _ _ _ _ => j == k
    | _ => false
  s.store.queue.any mine || (match s.store.dev with | some (.int o _) => mine o | _ => false)

/-- A key command asks for its record, an operation of the counter class (14:R363): with the engine free and none of the class before it, it
is made at once and the command's code is known; else it waits. -/
def State.askRecord (s : State) (k : Nat) (key : Option (BitVec 512 × Byte)) (source : BitVec 16) (wait : KeyWait) (fail : Option Nat) :
    Option Byte × State :=
  if s.mayStart 1 && s.store.queue.all (fun o => !(o.rank == 1)) then
    let (c, s) := s.applyRecord k key true source fail
    (some c, s)
  else (none, { s with store := { s.store with queue := s.store.queue ++ [.record k key true source wait] } })

/-! ### Refusals (19 Table 19-7, R484) -/

/-- The mode or a restriction refuses key commands. -/
def State.keyModeRefused (s : State) : Bool :=
  !(s.md.mode = .service) || s.md.restrict.versionLimited || s.md.restrict.fieldRo

/-- GENERATE: the TBL_STAT code that refuses it (19 Table 19-7). -/
def State.generateRefused (s : State) (k : Nat) (blob : Bool) : Option Byte :=
  if !s.part.encrypt then some 0x06
  else if s.keyModeRefused then some 0x07
  else if s.stew.restarting then some 0x0A
  else if !blob && !s.ent.ready then some 0x04
  else if !((s.keySlot k).state == 0) || s.recordAsked k then some 0x0B
  else if s.keyHeld k then some 0x09
  else none

/-- GENERATE into an EMPTY slot: its requests reseed first (19:R466). -/
def State.generateKey (s : State) (k : Nat) (source : BitVec 16) (wait : KeyWait) (fail : Option Nat) : Option Byte × State :=
  let s : State := { s with ent := { s.ent with lastReseed := s.clk.ts, requests := 0 } }
  let (key, s) := s.drawKey 8
  s.askRecord k (some (key, 1)) source wait fail

/-! ### Erase (19:R481) -/

/-- Every pool slot of a tile that a test names is freed with its dirty lines; one in transfer completes it first. -/
def State.dropSlots (s : State) (f : Nat → Bool) : State :=
  let pool := s.t0.pool.filterMap fun x =>
    if f x.tile then (if x.st = .filling || x.st = .writing then some { x with doomed := true } else none) else some x
  { s with t0 := { s.t0 with pool := pool } }

/-- The erase cycle (19:R481): the key leaves the engine, slots and sealed queue entries lose their data; then the record's presets. -/
def State.eraseKey (s : State) (k : Nat) (source : BitVec 16) (wait : KeyWait) : Option Byte × State :=
  let free := s.usableFree
  let seals := (s.plan.recs 7).filter fun e => sTier e == 2 && sKey e == k
  let hit (tile : Nat) : Bool := seals.any fun e => decide (sStart e ≤ denseBase + tile * 4096) && decide (denseBase + tile * 4096 ≤ sEnd e)
  let s := (s.setKey k 0 0 0 2 source).dropSlots hit
  let wq := s.t1.wq.map fun e =>
    if e.key = some (BitVec.ofNat 8 k) then { e with words := packWords (List.replicate 64 (poisonWord (lineFold e.line))) } else e
  let s : State := { s with t1 := { s.t1 with wq := wq } }
  (s.retryWaits.review free).askRecord k none source wait none

/-- A KEYSLOT table write: its operation and its code, none while its record waits (19:R478). -/
def State.keyWrite (s : State) (k op : Nat) (source : BitVec 16) (wait : KeyWait) (fail : Option Nat) : Option Byte × State :=
  if op = 1 then
    match s.generateRefused k false with
    | some c => (some c, s)
    | none => s.generateKey k source wait fail
  else if op = 2 then
    if (s.keySlot k).state = 0 then (some 0, s) else s.eraseKey k source wait
  else (some 0, s)

end Sys2Proof.Machine
end

