-- ==== Sys2Proof/Machine/Tables.lean ====
section
/-! DEFINITION. The indirect tables: what an entry reads, the checks of 13 Table 13-9 in order, and what a table write does
(spec/13 R332-R336, 04 R121, 08 R215, R216, 14 R341-R349, R359). -/

namespace Sys2Proof.Machine

open Sys2Proof

/-! ### Index ranges and absent resources (13 Table 13-10, 00:R8) -/

/-- Entries of a table; none for a code that names no table. -/
def tableSize : Nat → Option Nat
  | 1 => some 0x2000
  | 2 => some 0x4000
  | 3 => some 0x2000
  | 4 => some 64
  | 5 => some 64
  | 6 => some 0x2000
  | 7 => some 2048
  | 8 => some 8192
  | 9 => some 512
  | 10 => some 32
  | 11 => some 512
  | 12 => some 4096
  | 13 => some 256
  | _ => none

def Part.bankPresent (p : Part) (b : Nat) : Bool := decide (b < p.fastBanks) || (decide (128 ≤ b) && decide (b < 128 + p.denseBanks))

/-- The entry describes a resource the part lacks. -/
def Part.entryAbsent (p : Part) (sel i : Nat) : Bool :=
  match sel with
  | 4 => !p.dense
  | 5 => decide (p.channels ≤ i)
  | 9 => !p.bankPresent i
  | 11 => !p.bankPresent i
  | 13 => !p.encrypt
  | _ => false

/-! ### Entries -/

/-- BANKERR[b] (08 Table 08-6). -/
def State.bankEntry (s : State) (b : Nat) : Entry :=
  let e := s.bankErr b
  pack 256 [(0, 4, e.corrections.toNat), (4, 4, e.uncorrectable.toNat), (8, 4, e.addrFaults.toNat), (12, 4, e.hardFaults.toNat),
    (16, 4, e.writeRetries.toNat), (20, 4, e.writeFails.toNat), (24, 2, e.verifyLate.toNat), (26, 1, (s.pulseStep b).toNat),
    (27, 1, (BitVec.ofInt 8 e.trim).toNat), (28, 4, e.lastTs.toNat)]

/-- WEAR[b] (08 Table 08-7). -/
def State.wearEntry (s : State) (b : Nat) : Entry :=
  let w := s.wearOf b
  let most := if b < 128 then 2097184 * 10 ^ 13 else s.part.bankPages b * 10 ^ 10
  pack 256 [(0, 8, w.programs.toNat), (8, 4, w.presets.toNat), (12, 4, w.gapMoves.toNat),
    (16, 4, min (2 ^ 32 - 1) (10 ^ 6 * w.programs.toNat / most)), (20, 4, w.writeFails.toNat), (24, 4, w.hardFaults.toNat)]

/-- FLAGCNT[n] (13:R331). -/
def State.flagEntry (s : State) (n : Nat) : Entry :=
  let c := lgetD s.evt.cnt n ⟨0, 0⟩
  pack 256 [(0, 2, c.count.toNat), (2, 6, c.last.toNat)]

/-- Entry i of a table, as it stands. -/
def State.entry (s : State) (sel i : Nat) : Entry :=
  if s.part.entryAbsent sel i then 0
  else match sel with
    | 1 => if i < 0x1000 then tgetD s.cad.shH i 0 else tgetD s.cad.inH (i - 0x1000) 0
    | 2 => if i < 0x2000 then tgetD s.cad.shP i 0 else tgetD s.cad.inP (i - 0x2000) 0
    | 3 => if i < 0x1000 then tgetD s.plan.sh i 0 else tgetD s.plan.inf (i - 0x1000) 0
    | 4 => s.swinEntry i
    | 5 => s.fchanEntry i
    | 6 => swEntry s.store.words (i * 8)
    | 7 => swEntry s.store.words (16384 + i * 8)
    | 8 => tgetD s.lh.ring i 0
    | 9 => s.bankEntry i
    | 10 => s.flagEntry i
    | 11 => s.wearEntry i
    | 12 => (s.store.view i).entry
    | 13 => s.keyEntry i
    | _ => 0

/-- The benchmark page that holds an entry (14:R347). -/
def entryPage (sel i : Nat) : Option Nat :=
  match sel with
  | 6 => some (i / 16)
  | 7 => some (128 + i / 16)
  | 12 => some (256 + i / 16)
  | 13 => some (64 + i / 4)
  | _ => none

/-- A benchmark-store entry: NOT_READY until the store's recall completes (14:R351). -/
def storeTable (sel : Nat) : Bool := [6, 7, 11, 12, 13].contains sel

/-! ### Gate (10:R252, R253) -/

/-- The gate and address of an entry. -/
def entryGate (sel i : Nat) : Fin 5 × Nat := if sel = 6 then (4, i * 32) else (3, tableAddr sel i)

/-- Look an entry up for a path. -/
def State.lookEntry (s : State) (path : Path) (sel i right : Nat) : Bool × State :=
  let (g, a) := entryGate sel i
  s.look g a (pathHolder path) right 5 (pathSource path)

/-! ### Reads (13:R333) -/

/-- The engine works on this page; a trace set's preset has two (14:R347). -/
def State.pageBusy (s : State) (p : Nat) : Bool :=
  s.store.busy && (s.busyPage == p || (s.busyPage + 1 == p && s.store.dev == some (.int .tracePreset [])))

/-- A read is refused by the recall stage (16 Table 16-4), by the store's recall, or by the operation on its page. -/
def State.readNotReady (s : State) (sel i : Nat) : Bool :=
  (match s.readPhase with
   | some .early => true
   | some .middle => [1, 2, 3, 13].contains sel
   | _ => false) ||
  (storeTable sel && !s.store.ready) ||
  (match entryPage sel i with
   | some p => s.pageBusy p
   | none => false)

/-- The first uncorrectable word of an entry held as raw words: its address. -/
def State.badWord (s : State) (sel i : Nat) : Option Nat :=
  match (match sel with | 6 => some (i * 8) | 7 => some (16384 + i * 8) | _ => none) with
  | some a => ((List.range 8).map (a + ·)).find? fun b => swBad s.store.words b
  | none => none

/-- A table read: its code and the entry, zero where it fails. -/
def State.readEntry (s : State) (path : Path) (sel i : Nat) : Byte × Entry × State :=
  match tableSize sel with
  | none => (0x02, 0, s)
  | some n =>
    if n ≤ i then (0x03, 0, s)
    else if s.readNotReady sel i then (0x04, 0, s)
    else
      let (ok, s) := s.lookEntry path sel i 0
      if !ok then (0x05, 0, s)
      else
        match s.badWord sel i with
        | some a => (0x0C, 0, s.raise 3 0x22 srcDevice (pay [(16, 1, 5), (17, 2, a / 128), (19, 1, a % 128)]))
        | none => (0, s.entry sel i, s)

/-! ### Writes -/

/-- The defined fields of a HOLDER entry (10 Table 10-3). -/
def maskHolder (e : Entry) : Entry :=
  e &&& pack 256 [(0, 1, 0x0F), (1, 1, 0x0F), (2, 2, 0x0FFF), (4, 2, 0x0FFF), (6, 4, 0xFFFFFFFF), (24, 8, 2 ^ 64 - 1)]

/-- The defined fields of a PARCEL entry (10 Table 10-6). -/
def maskParcel (e : Entry) : Entry :=
  e &&& pack 256 [(0, 10, 2 ^ 80 - 1), (10, 1, 0x07), (11, 1, 0x37), (12, 2, 0x01FF), (14, 2, 0xFFFF), (16, 1, 0xFF), (24, 8, 2 ^ 64 - 1)]

/-- The defined fields of a PLAN record by its kind; an unknown kind keeps all (03:R82, Table 03-3). -/
def maskRecord (e : Entry) : Entry :=
  let h (l : List (Nat × Nat × Nat)) : Entry := e &&& pack 256 ((0, 1, 0xFF) :: l)
  match rKind e with
  | 1 => h [(4, 2, 0x0FFF), (6, 2, 0xFFFF)]
  | 2 => h [(4, 1, 0xFF), (6, 2, 0xFFFF), (8, 2, 0xFFFF)]
  | 3 => h [(4, 2, 0xFFFF), (6, 2, 0x0FFF), (8, 1, 0xFF), (9, 1, 0x3F)]
  | 4 => h [(4, 8, 2 ^ 64 - 1)]
  | 5 => h [(4, 2, 0xFFFF)]
  | 6 => h [(4, 1, 0xFF), (8, 8, 2 ^ 64 - 1)]
  | 7 => h [(1, 1, 0x01), (4, 2, 0xFFFF), (8, 5, 2 ^ 40 - 1), (16, 5, 2 ^ 40 - 1)]
  | _ => e

/-- The header as written over the old one: bytes 24-31 are read-only, reserved bits are dropped (03 Table 03-2, R86). -/
def maskHeader (old e : Entry) : Entry :=
  (e &&& pack 256 [(0, 9, 2 ^ 72 - 1), (9, 1, 0x03), (12, 12, 2 ^ 96 - 1)]) ||| (old &&& pack 256 [(24, 8, 2 ^ 64 - 1)])

/-- The steward is needed for a write of this table (13 Table 13-10). -/
def needsSteward (sel : Nat) : Bool := [1, 2, 3, 6, 10, 12, 13].contains sel

/-- WRONG_MODE: refused in the present mode or restriction (13 Table 13-9, 14 Table 14-8, 15 Table 15-10, 16 Table 16-4). -/
def State.entryWrongMode (s : State) (sel i : Nat) : Bool :=
  match s.md.mode with
  | .service =>
    (s.md.restrict.versionLimited && !(sel == 5 || sel == 9 || sel == 10 || (sel == 6 && stagingPage (i / 16)))) ||
    (s.md.restrict.fieldRo && (sel == 6 || sel == 12 || sel == 13))
  | .recall => !(s.loadStop && sel == 6 && stagingPage (i / 16))
  | _ => true

/-- READ_ONLY: a copy in force, or a table or entry without writes. -/
def entryReadOnly (sel i : Nat) : Bool :=
  match sel with
  | 1 => decide (0x1000 ≤ i)
  | 2 => decide (0x2000 ≤ i)
  | 3 => decide (0x1000 ≤ i)
  | 5 => false
  | 6 => !appliancePage (i / 16)
  | 9 => false
  | 10 => false
  | 12 => decide (i < 2048)
  | 13 => false
  | _ => true

/-- LOCKED (10:R266). -/
def State.entryLocked (s : State) (sel i : Nat) : Bool :=
  match sel with
  | 1 => hLock (tgetD s.cad.inH i 0)
  | 2 => pLock (tgetD s.cad.inP i 0)
  | _ => false

/-- BUSY (13 Table 13-9). -/
def State.entryBusy (s : State) (sel : Nat) : Bool :=
  (match s.commit with
   | some k => if k.isPlan then sel == 3 else sel == 1 || sel == 2
   | none => false) ||
  (s.stew.restarting && needsSteward sel) ||
  (s.store.busy && (sel == 6 || sel == 12))

/-- The first refusal of a write, after its gate check. -/
def State.writeRefusal (s : State) (sel i : Nat) : Option Byte :=
  if s.part.entryAbsent sel i then some 0x06
  else if s.entryWrongMode sel i then some 0x07
  else if entryReadOnly sel i then some 0x08
  else if s.entryLocked sel i then some 0x09
  else if s.entryBusy sel then some 0x0A
  else none

/-- FCHAN[c] (04:R121): a clear applies before what this cycle adds (13:R328). -/
def State.writeFchan (s : State) (path : Path) (c op : Nat) : State :=
  let x := s.chan c
  if op = 1 then s.setChan c { x with cnt := tgetD s.evt.cyc.chanInc c ⟨0, 0, 0, 0, 0, 0, 0, 0⟩ }
  else if op = 2 && x.state.active then
    (s.abortChan c).note 0x10 (srcPath path) (pay [(16, 1, 5), (17, 1, 1)])
  else s

/-- BANKERR[b] (08:R215): the counters clear, with last_ts, before what this cycle adds (13:R328); the trim's own fields stay. -/
def State.clearBank (s : State) (b : Nat) : State :=
  let e := s.bankErr b
  let z : BankErr := { tgetD s.evt.cyc.bankInc b .zero with
    trim := e.trim, sec := e.sec, secPrograms := e.secPrograms, secRetries := e.secRetries, prevPrograms := e.prevPrograms
    prevRetries := e.prevRetries, trimDue := e.trimDue }
  { s with err := { s.err with banks := tput .zero s.err.banks b z } }

/-- FLAGCNT[n]: the clear applies first and the occurrences of this cycle after it (13:R328, R331). -/
def State.clearFlagCnt (s : State) (n : Nat) : State :=
  let hits := (s.evt.cyc.hits.filter fun b => b.val == n).length
  let c : FlagCnt := if hits = 0 then ⟨0, 0⟩ else ⟨BitVec.ofNat 16 (min 65535 hits), s.ts48⟩
  { s with evt := { s.evt with cnt := s.evt.cnt.set n c } }

/-- How a table write goes on once it passed every check: it ends in this cycle with a code, the store's engine runs it, or it waits for a key
record. -/
inductive Ended where
  | code (c : Byte)
  | op (o : StoreOp)
  | waits
  deriving DecidableEq, Repr

/-- The effect of a write that passed every check. -/
def State.writeEntry (s : State) (path : Path) (sel i : Nat) (e : Entry) (wait : KeyWait) (fail : Option Nat) : Ended × State :=
  match sel with
  | 1 => (.code 0, { s with cad := { s.cad with shH := tput 0 s.cad.shH i (maskHolder e) } })
  | 2 => (.code 0, { s with cad := { s.cad with shP := tput 0 s.cad.shP i (maskParcel e) } })
  | 3 =>
    let v := if i = 0 then maskHeader (tgetD s.plan.sh 0 0) e else maskRecord e
    (.code 0, { s with plan := { s.plan with sh := tput 0 s.plan.sh i v } })
  | 5 => (.code 0, s.writeFchan path i (fld e 0 1))
  | 6 => (.op (s.store.planProgram i e), s)
  | 9 => (.code 0, if fld e 0 1 = 1 then s.clearBank i else s)
  | 10 => (.code 0, if fld e 0 1 = 1 && decide (i < 24) then s.clearFlagCnt i else s)
  | 12 => (.op (s.store.planMcount i e), s)
  | 13 =>
    let (c, s) := s.keyWrite i (fld e 0 1) (srcPath path) wait fail
    (match c with | some c => .code c | none => .waits, s)
  | _ => (.code 0x08, s)

/-- A refused BMKPAGE or MCOUNT write reports its code in BMK_STAT.LAST too (14:R349); one that ends with BUSY holds the device's own operations
back (14:R346). -/
def State.refuseWrite (s : State) (sel : Nat) (c : Byte) : Ended × State :=
  (.code c, if !(sel == 6 || sel == 12) then s else if c = 0x0A && s.store.busy then s.storeBusy else s.setLast c)

/-- A table write: the checks of Table 13-9 in order, then the effect; `fail` names a word of a key record that still fails. -/
def State.tableWrite (s : State) (path : Path) (sel i : Nat) (e : Entry) (wait : KeyWait) (fail : Option Nat) : Ended × State :=
  match tableSize sel with
  | none => (.code 0x02, s)
  | some n =>
    if n ≤ i then s.refuseWrite sel 0x03
    else if (match s.phase with | some .stopped => false | some _ => true | none => false) || (storeTable sel && !s.store.ready) then
      s.refuseWrite sel 0x04
    else
      let (ok, s) := s.lookEntry path sel i 1
      if !ok then s.refuseWrite sel 0x05
      else
        match s.writeRefusal sel i with
        | some c => s.refuseWrite sel c
        | none => s.writeEntry path sel i e wait fail

/-! ### Table commands (13:R332) -/

/-- Clear BUSY with a code; a row's command tells it to its path. -/
def State.endTable (s : State) (code : Byte) : State :=
  let t : State := { s with tbl := { s.tbl with code := code, busy := false, latch := none } }
  match s.tbl.latch with
  | some l => if l.tell then t.respond (.table l.path code) else t
  | none => t

/-- PLAN_COMMIT (13:R333). -/
def State.tablePlanCommit (s : State) (path : Path) : Byte × State :=
  let (ok, s) := s.lookEntry path 3 0 1
  if !ok then (0x05, s)
  else if !(s.md.mode = .service) then (0x07, s)
  else if s.commit.isSome || s.stew.restarting then (0x0A, s)
  else (0, s.startCommit true none)

/-- A read that ends with OK loads TBL_DATA with the entry as it stands at the end of this cycle (13:R332). -/
def State.loadEntry (s : State) (sel i : Nat) (code : Byte) (e : Entry) : State :=
  { s with
    tbl := { s.tbl with data := e }
    evt := { s.evt with cyc := { s.evt.cyc with capture := if code = 0 then some (sel, i) else none } } }

/-- A latched command acts. -/
def State.runTable (s : State) (l : TblLatch) (fail : Option Nat) : State :=
  let sel := l.sel.toNat
  let i := l.index.toNat
  let wait (s : State) : State := { s with tbl := { s.tbl with latch := some { l with inStore := true } } }
  match l.cmd.toNat with
  | 1 =>
    let (c, e, s) := s.readEntry l.path sel i
    (s.loadEntry sel i c e).endTable c
  | 4 =>
    let (c, e, s) := s.readEntry l.path sel i
    let s := s.loadEntry sel i c e
    let s : State := { s with tbl := { s.tbl with index := if c = 0 then l.index + 1 else s.tbl.index } }
    s.endTable c
  | 2 =>
    let (r, s) := s.tableWrite l.path sel i l.data .table fail
    match r with
    | .code c => s.endTable c
    | .op o => wait (s.startOp o .table)
    | .waits => wait s
  | 3 =>
    let (c, s) := s.tablePlanCommit l.path
    s.endTable c
  | _ => s.endTable 0x01

/-- TBL_CMD_COMPLETE (13:R332, R333). -/
def execTblCmdComplete (failing : Option (Fin 128)) (s : State) : Out :=
  let s := s.fresh
  match s.tbl.latch with
  | some l => if l.inStore || !s.clk.run then .next s else .next (s.runTable l (failing.map (·.val)))
  | none => .next s

/-- STORE_OP_COMPLETE (14:R348, R349): the running operation ends, and with it the command that waits for it. -/
def execStoreOpComplete (failingWord : Option (Fin 128)) (s : State) : Out :=
  let s := s.fresh
  match s.store.op with
  | some (op, w) =>
    if !s.clk.run then .next s
    else
      let (s, code) := s.endOp op (failingWord.map (·.val))
      .next (match w with
        | .preset => s
        | .table => s.endTable code)
  | none => .next s

/-- One cycle of the clock that runs (01:R23, R27): the engine takes a waiting operation, the cycle ends, and a table read of the cycle captures
its entry. -/
def State.tick (s : State) : State :=
  if !s.clk.run then s.aonTick
  else
    let s := s.startInternal
    let c := s.evt.cyc.capture
    let s := s.endCycle
    (match c with
     | some (sel, i) => ({ s with tbl := { s.tbl with data := s.entry sel i } } : State)
     | none => s).advance

/-! ### Rows that write one entry through a path -/

/-- A table write through a path's registers (13:R332): TBL_SEL and TBL_INDEX, TBL_DATA0-7, then WRITE in TBL_CMD, which is answered with the
frame's refusal or with the command's code at its end. A WRITE that finds a command running sets OVERRUN. -/
def State.entryRow (s : State) (path : Path) (sel i : Nat) (e : Entry) (fail : Option Nat := none) : State :=
  if !s.pathUp path then s
  else
    let (st, s) := s.wardenWrite path [(0x80, word sel), (0x84, word i)]
    if !(st = .ok) then s.respond (.write path st)
    else
      let (st, s) := s.wardenWrite path ((List.range 8).zip (entryWords e) |>.map fun (k, v) => (0x90 + 4 * k, v))
      if !(st = .ok) then s.respond (.write path st)
      else
        let busy := s.tbl.busy
        let (st, s) := s.wardenWrite path [(0x88, 2)]
        match s.tbl.latch with
        | some l =>
          if !(st = .ok) || busy then s.respond (.write path st)
          else
            let l : TblLatch := { l with tell := true }
            ({ s with tbl := { s.tbl with latch := some l } } : State).runTable l fail
        | none => s.respond (.write path st)

/-- HOLDER_WRITE (10:R262). -/
def execHolderWrite (path : Path) (index : BitVec 16) (entry : Entry) (s : State) : Out :=
  .next (s.fresh.entryRow path 1 index.toNat entry)
/-- PARCEL_WRITE (10:R262). -/
def execParcelWrite (path : Path) (index : BitVec 16) (entry : Entry) (s : State) : Out :=
  .next (s.fresh.entryRow path 2 index.toNat entry)
/-- PLAN_ENTRY_WRITE (03:R83). -/
def execPlanEntryWrite (path : Path) (index : BitVec 16) (entry : Entry) (s : State) : Out :=
  .next (s.fresh.entryRow path 3 index.toNat entry)
/-- FCHAN_CLEAR (04:R121). -/
def execFchanClear (path : Path) (channel : BitVec 16) (s : State) : Out := .next (s.fresh.entryRow path 5 channel.toNat 1)
/-- FCHAN_ABORT (04:R121). -/
def execFchanAbort (path : Path) (channel : BitVec 16) (s : State) : Out := .next (s.fresh.entryRow path 5 channel.toNat 2)
/-- BANKERR_CLEAR (08:R215). -/
def execBankerrClear (path : Path) (bank : BitVec 16) (s : State) : Out := .next (s.fresh.entryRow path 9 bank.toNat 1)
/-- FLAGCNT_CLEAR (13:R331). -/
def execFlagcntClear (path : Path) (flag : BitVec 16) (s : State) : Out := .next (s.fresh.entryRow path 10 flag.toNat 1)
/-- BMKPAGE_PROGRAM (14:R342). -/
def execBmkpageProgram (path : Path) (index : BitVec 16) (chunk : Entry) (s : State) : Out :=
  .next (s.fresh.entryRow path 6 index.toNat chunk)
/-- An MCOUNT write's entry (14:R359). -/
def mcountEntry (op : Nat) (operand : BitVec 64) : Entry := pack 256 [(0, 1, op), (8, 8, operand.toNat)]
/-- MCOUNT_INCREMENT (14:R359). -/
def execMcountIncrement (path : Path) (index : BitVec 16) (operand : BitVec 64) (s : State) : Out :=
  .next (s.fresh.entryRow path 12 index.toNat (mcountEntry 1 operand))
/-- MCOUNT_ADVANCE (14:R359). -/
def execMcountAdvance (path : Path) (index : BitVec 16) (operand : BitVec 64) (s : State) : Out :=
  .next (s.fresh.entryRow path 12 index.toNat (mcountEntry 2 operand))
/-- MCOUNT_REBASE (14:R359). -/
def execMcountRebase (path : Path) (index : BitVec 16) (operand : BitVec 64) (s : State) : Out :=
  .next (s.fresh.entryRow path 12 index.toNat (mcountEntry 3 operand))
/-- KEYSLOT_GENERATE (19:R478, R479). -/
def execKeyslotGenerate (path : Path) (slot : BitVec 16) (failing : Option (Fin 128)) (s : State) : Out :=
  .next (s.fresh.entryRow path 13 slot.toNat 1 (failing.map (·.val)))
/-- KEYSLOT_ERASE (19:R481). -/
def execKeyslotErase (path : Path) (slot : BitVec 16) (s : State) : Out := .next (s.fresh.entryRow path 13 slot.toNat 2)

end Sys2Proof.Machine
end

