-- ==== Sys2Proof/Machine/Frames.lean ====
section
/-! DEFINITION. The Strait port: frames over both transports, and the I3C Basic target (spec/12 R299-R316, R321, R324). -/

namespace Sys2Proof.Machine

open Sys2Proof

/-! ### Frames (12:R301-R308) -/

def WStatus.straitCode : WStatus → Nat
  | .ok => 0
  | .notOwner => 1
  | .denied => 2
  | .dataError => 3
  | .badFrame => 4
  | .busy => 5
  | .notReady => 6
  | .wrongMode => 7
  | .noRequest => 8
  | .noResponse => 0xFF

/-- A frame with its CRC-8. -/
def withCrc (l : List Byte) : List Byte := l ++ [crc8 l]

/-- A response frame (12 Table 12-3). -/
def responseFrame (st : WStatus) (tag : Byte) (data : List Byte) : List Byte :=
  withCrc (BitVec.ofNat 8 st.straitCode :: tag :: data)

/-- Request bytes by op and count (12:R301); a frame of an undefined op is taken as long as a READ (log entry 24). -/
def requestLen (b : List Byte) : Nat := if byteAt b 0 = 2 then 6 + 4 * byteAt b 4 else 6

/-- The frame is bad before anything of it is checked: cut short, too long on I3C (12:R314), or with a wrong CRC. -/
def frameBad (i3c : Bool) (b : List Byte) : Bool :=
  let n := requestLen b
  decide (b.length < n) || (i3c && decide (n < b.length)) || !(crc8 (b.take (n - 1)) == lgetD b (n - 1) 0)

/-- An op, offset or count outside Table 12-2, or a run that crosses a part. -/
def frameOutside (op off n : Nat) : Bool :=
  !(op == 1 || op == 2) || !(off % 4 == 0) || decide (0x3FC < off) || !(decide (1 ≤ n) && decide (n ≤ 16)) ||
  !(off / 64 == (off + 4 * (n - 1)) / 64)

/-- The port serves frames: ready, and on I3C with a dynamic address. -/
def State.straitServes (s : State) : Bool := s.pathUp .strait && (!s.strap.msel || s.i3c.addr.isSome)

/-- A bad frame: flagged and counted, with a record for the first after recall and then one per 100 ms (12:R305). -/
def State.badFrame (s : State) : State :=
  let n := satAdd s.strait.bad 1
  let due : Bool := match s.strait.lastBadRecord with
    | none => true
    | some t => s.since t (100 * msec)
  if due then
    { s with strait := { s.strait with bad := 0, lastBadRecord := some s.clk.ts } }.raise 21 0x43 (srcPath .strait) (pay [(16, 2, n.toNat)])
  else ({ s with strait := { s.strait with bad := n } } : State).flagHit 21

/-- MISO through an SPI transaction of n bytes: 0xFF in the request, two turnaround bytes, the response as far as it is clocked out, and 0xFF after
it (12:R307, R308). -/
def misoStream (n request : Nat) (response : List Byte) : List Byte :=
  (List.replicate (request + 2) (0xFF : Byte) ++ response ++ List.replicate n (0xFF : Byte)).take n

/-- An SPI transaction of n bytes ends: what MISO carried. -/
def State.clockOut (s : State) (n request : Nat) (response : List Byte) : State :=
  if s.strap.msel then s else { s with strait := { s.strait with miso := some (misoStream n request response) } }

/-- Send the response to a request in b: MISO bytes on SPI; pending until read on I3C (12:R314). -/
def State.straitAnswer (s : State) (b l : List Byte) : State :=
  let s := s.respond (.strait l)
  if s.strap.msel then { s with strait := { s.strait with response := l } } else s.clockOut b.length (requestLen b) l

/-- One request: the bytes of a private write on I3C, or the bytes that a whole SPI transaction clocks on MOSI (12:R301-R308, R314). -/
def State.frame (s : State) (b : List Byte) (flips : BitFlips) : State :=
  if !s.straitServes then { s with strait := { s.strait with miso := none } }
  else if frameBad s.strap.msel b then (s.clockOut b.length 0 []).badFrame
  else
    let op := byteAt b 0
    let tag : Byte := BitVec.ofNat 8 (byteAt b 1)
    let off := num b 2 2
    let n := byteAt b 4
    if frameOutside op off n then
      (s.touch .strait).straitAnswer b (responseFrame .badFrame tag (if op = 1 then zeros (4 * n) else []))
    else if op = 1 then
      let (st, l, s) := s.wardenRead .strait off n flips
      s.straitAnswer b (responseFrame st tag (wordBytes l))
    else
      let (st, s) := s.wardenWrite .strait ((List.range n).map fun i => (off + 4 * i, word (num b (5 + 4 * i) 4)))
      s.straitAnswer b (responseFrame st tag [])

/-- STRAIT_READ_FRAME (12:R306). -/
def execStraitReadFrame (bytes : List Byte) (regs : BitFlips) (s : State) : Out := .next (s.fresh.frame bytes regs)

/-- STRAIT_WRITE_FRAME (12:R306). -/
def execStraitWriteFrame (bytes : List Byte) (s : State) : Out := .next (s.fresh.frame bytes [])

/-- STRAIT_BAD_FRAME (12:R305, R315). -/
def execStraitBadFrame (reason : BadFrame) (s : State) : Out :=
  let s := s.fresh
  if !s.straitServes then .next { s with strait := { s.strait with miso := none } }
  else
    let s : State := { s.clockOut 1 0 [] with
      i3c := { s.i3c with protErr := s.i3c.protErr || (s.strap.msel && reason = .parity) } }
    .next s.badFrame

/-! ### I3C Basic (12:R309-R316) -/

/-- The I3C target takes part on the bus. -/
def State.i3cUp (s : State) : Bool := s.pathUp .strait && s.strap.msel

/-- A transfer is addressed to the device. -/
def State.i3cMine (s : State) (target : BitVec 7) : Bool := s.i3cUp && s.i3c.addr == some target

/-- Bits 31:0 of the provisioned ID are drawn (12:R310). -/
def State.drawPid (s : State) : State :=
  let (d, s) := s.draw
  { s with i3c := { s.i3c with pidLow := d.extractLsb' 0 32 } }

/-- Another target answers to the same address (12:R311). -/
def State.i3cCollision (s : State) : State :=
  let s := ({ s with i3c := { s.i3c with addr := none, ibi := false } } : State).drawPid
  let s := s.note 0x44 (srcPath .strait) (pay [(16, 1, 0)])
  { s with i3c := { s.i3c with hotJoin := some s.clk.ts } }

/-- STRAIT_PORT_READY (12:R300, R310, R312). -/
def execStraitPortReady (s : State) : Out :=
  let s := s.fresh
  if !s.clk.run || s.strait.ready then .next s
  else
    let s : State := { s with strait := { s.strait with ready := true } }
    if s.strap.msel then
      let s := s.drawPid
      .next { s with i3c := { s.i3c with hotJoin := if s.i3c.addr.isNone then some s.clk.ts else s.i3c.hotJoin } }
    else .next s

/-- A dynamic address is taken; no reason to request Hot-Join stands. -/
def State.takeAddr (s : State) (a : BitVec 7) : State := { s with i3c := { s.i3c with addr := some a, hotJoin := none } }

/-- ENTDAA (12:R311): `wins` says whether the device wins an arbitration of this ENTDAA. -/
def execEntdaa (addr : BitVec 7) (wins : Bool) (s : State) : Out :=
  let s := s.fresh
  if s.i3cUp && s.i3c.addr.isNone && wins then .next ((s.takeAddr addr).respond .i3cAck) else .next s

/-- The static address (12:R310). -/
def State.staticAddr (s : State) : BitVec 7 := 0x30 + s.strap.saddr.setWidth 7

/-- SETDASA (12 Table 12-5). -/
def execSetdasa (static addr : BitVec 7) (s : State) : Out :=
  let s := s.fresh
  if s.i3cUp && static == s.staticAddr then .next ((s.takeAddr addr).respond .i3cAck) else .next s

/-- SETNEWDA (12 Table 12-5). -/
def execSetnewda (target addr : BitVec 7) (s : State) : Out :=
  let s := s.fresh
  if s.i3cMine target then .next ((s.takeAddr addr).respond .i3cAck) else .next s

/-- RSTDAA (12 Table 12-5). -/
def execRstdaa (s : State) : Out :=
  let s := s.fresh
  if s.i3cUp then .next { s with i3c := { s.i3c with addr := none } } else .next s

/-- A broadcast, or a direct CCC to the device. -/
def State.i3cFor (s : State) (target : Option (BitVec 7)) : Bool := match target with
  | none => s.i3cUp
  | some a => s.i3cMine a

/-- A direct CCC is acknowledged. -/
def State.i3cAckDirect (s : State) (target : Option (BitVec 7)) : State := if target.isSome then s.respond .i3cAck else s

/-- ENEC (12 Table 12-5): INT is bit 0 and HJ bit 3 (PRESUMED, log entry 11). -/
def execEnec (target : Option (BitVec 7)) (bits : Byte) (s : State) : Out :=
  let s := s.fresh
  if !s.i3cFor target then .next s
  else
    let i := s.i3c
    let hj := bits.getLsbD 3
    .next (({ s with i3c := { i with intEn := i.intEn || bits.getLsbD 0, hjEn := i.hjEn || hj, hjStopped := i.hjStopped && !hj } } : State).i3cAckDirect
      target)

/-- DISEC (12 Table 12-5). -/
def execDisec (target : Option (BitVec 7)) (bits : Byte) (s : State) : Out :=
  let s := s.fresh
  if !s.i3cFor target then .next s
  else
    let i := s.i3c
    let hj := bits.getLsbD 3
    .next (({ s with i3c := { i with intEn := i.intEn && !bits.getLsbD 0, hjEn := i.hjEn && !hj, hjStopped := i.hjStopped || hj } } : State).i3cAckDirect
      target)

/-- A direct read returns bytes, or finds a collision on the first of them. -/
def State.i3cSend (s : State) (mismatch : Bool) (l : List Byte) : State := if mismatch then s.i3cCollision else s.respond (.i3cBytes l)

/-- A value's bytes, most significant first. -/
def beBytes (v n : Nat) : List Byte := (leBytes v n).reverse

/-- The provisioned ID (12:R310). -/
def State.pid (s : State) : Nat := bits (s.reg 0) 0 15 * 2 ^ 33 + 2 ^ 32 + s.i3c.pidLow.toNat

/-- GETPID (12:R310). -/
def execGetpid (target : BitVec 7) (mismatch : Bool) (s : State) : Out :=
  let s := s.fresh
  if s.i3cMine target then .next (s.i3cSend mismatch (beBytes s.pid 6)) else .next s

/-- GETBCR (12:R310). -/
def execGetbcr (target : BitVec 7) (mismatch : Bool) (s : State) : Out :=
  let s := s.fresh
  if s.i3cMine target then .next (s.i3cSend mismatch [0x0E]) else .next s

/-- GETDCR (12:R310). -/
def execGetdcr (target : BitVec 7) (mismatch : Bool) (s : State) : Out :=
  let s := s.fresh
  if s.i3cMine target then .next (s.i3cSend mismatch [0x00]) else .next s

/-- EVT_STAT AND EVT_EN. -/
def State.enabledFlags (s : State) : BitVec 24 := s.evt.stat &&& s.evt.en

/-- ALERT_N is driven low (12:R321). -/
def State.alertLow (s : State) : Bool := !(s.enabledFlags == 0)

/-- The condition of 12:R313: a bit is 1 that was 0 at the previous answered IBI, and no target reset has withdrawn its request since it became
1 (12:R316). -/
def State.ibiDue (s : State) : Bool :=
  s.i3c.intEn && s.i3c.addr.isSome && !(s.enabledFlags &&& ~~~(s.i3c.ibiSeen ||| s.i3c.withdrawn) == 0)

/-- An IBI is pending. -/
def State.ibiPending (s : State) : Bool := s.ibiDue || (s.i3c.ibi && s.alertLow)

/-- The GETSTATUS word (12 Table 12-6). -/
def State.i3cStatus (s : State) : Nat :=
  bbit (s.own.holder = some .strait) 11 + bbit (!(s.md.restrict.toNat == 0)) 10 + s.md.mode.code * 256 + bbit s.i3c.protErr 5 +
  bbit s.ibiPending 0

/-- GETSTATUS (12 Table 12-6). -/
def execGetstatus (target : BitVec 7) (mismatch : Bool) (s : State) : Out :=
  let s := s.fresh
  if s.i3cMine target then
    let v := s.i3cStatus
    let s : State := { s with i3c := { s.i3c with protErr := false } }
    .next (s.i3cSend mismatch (beBytes v 2))
  else .next s

/-- RSTACT (12:R316). -/
def execRstact (target : Option (BitVec 7)) (defining : Byte) (s : State) : Out :=
  let s := s.fresh
  if !s.i3cFor target then .next s
  else if decide (defining.toNat ≤ 2) then .next (({ s with i3c := { s.i3c with rstAct := defining } } : State).i3cAckDirect target)
  else .next (if target.isSome then s.respond .i3cNak else s)

/-- I3C_TARGET_RESET (12:R316). -/
def execI3cTargetReset (s : State) : Out :=
  let s := s.fresh
  if s.i3cUp && !(s.i3c.rstAct == 0) then
    .next { s with
      strait := { s.strait with response := [] }
      i3c := { s.i3c with ibi := false, withdrawn := s.i3c.withdrawn ||| s.enabledFlags, protErr := false, rstAct := 0 } }
  else .next s

/-- I3C_CCC_UNSUPPORTED (12:R309). -/
def execI3cCccUnsupported (target : Option (BitVec 7)) (code : Byte) (s : State) : Out :=
  if !WellFormed (.i3cCccUnsupported target code) then .refused (.illFormed "I3C_CCC_UNSUPPORTED")
  else
    let s := s.fresh
    .next (if target.isSome && s.i3cFor target then s.respond .i3cNak else s)

/-- I3C_PRIVATE_READ (12:R314): `whole` says whether the controller reads the response to its end. -/
def execI3cPrivateRead (target : BitVec 7) (whole mismatch : Bool) (s : State) : Out :=
  let s := s.fresh
  if !s.i3cMine target then .next s
  else if mismatch then .next s.i3cCollision
  else if s.strait.response.isEmpty then .next (s.respond (.i3cBytes (responseFrame .noRequest 0 [])))
  else
    let l := s.strait.response
    .next (({ s with strait := { s.strait with response := if whole then [] else l } } : State).respond (.i3cBytes l))

/-- HOT_JOIN_REQUEST (12:R312). -/
def execHotJoinRequest (answer : BusAnswer) (s : State) : Out :=
  let s := s.fresh
  match s.i3c.hotJoin with
  | some t =>
    if !(s.i3cUp && s.i3c.hjEn && !s.i3c.hjStopped && s.i3c.addr.isNone && s.since t msec) then .next s
    else
      let s := (s.respond .hotJoin).note 0x44 (srcPath .strait) (pay [(16, 1, 1)])
      match answer with
      | .ack =>
        let (d, s) := s.draw
        let wait := d.toNat % (15 * msec + 1)
        .next { s with i3c := { s.i3c with hotJoin := some (s.clk.ts + BitVec.ofNat 64 (9 * msec + wait)) } }
      | .nack => .next { s with i3c := { s.i3c with hjStopped := true } }
      | .lost => .next s
  | none => .next s

/-- The lowest flag set and enabled (12:R313). -/
def State.ibiByte (s : State) : Byte := BitVec.ofNat 8 ((ones s.enabledFlags).headD 0)

/-- An IBI contends on the bus; a lost arbitration draws the delay of the next attempt. -/
def State.contendIbi (s : State) (answer : BusAnswer) (mismatch : Bool) : State :=
  let seen := s.enabledFlags
  match answer with
  | .ack =>
    let s : State := { s with i3c := { s.i3c with ibi := false, ibiSeen := seen, withdrawn := 0 } }
    if mismatch then s.i3cCollision else s.respond (.ibi s.ibiByte)
  | .nack => { s with i3c := { s.i3c with ibi := false, ibiSeen := seen, withdrawn := 0 } }
  | .lost =>
    let (_, s) := s.draw
    { s with i3c := { s.i3c with ibi := true } }

/-- IBI_REQUEST (12:R313). -/
def execIbiRequest (answer : BusAnswer) (mismatch : Bool) (s : State) : Out :=
  let s := s.fresh
  .next (if s.i3cUp && s.ibiDue && !s.i3c.ibi then s.contendIbi answer mismatch else s)

/-- IBI_RETRY (12:R313). -/
def execIbiRetry (answer : BusAnswer) (mismatch : Bool) (s : State) : Out :=
  let s := s.fresh
  .next (if s.i3cUp && s.i3c.ibi && s.i3c.intEn && s.i3c.addr.isSome && s.alertLow then s.contendIbi answer mismatch else s)

/-- I3C_PROTOCOL_ERROR (12:R315): the CCC is ignored. -/
def execI3cProtocolError (s : State) : Out :=
  let s := s.fresh
  .next (if s.i3cUp then { s with i3c := { s.i3c with protErr := true } } else s)

end Sys2Proof.Machine
end

