-- ==== Sys2Proof/Machine/Answers.lean ====
section
/-! DEFINITION. What the mailbox answers: return codes, the Dexaris header and status, the ends of table runs and key commands (spec/11
R288-R292, 19 Table 19-7). -/

namespace Sys2Proof.Machine

open Sys2Proof

/-! ### Answers (11 Tables 11-8, 11-9) -/

/-- A foreground command of the mailbox waits for a key record: the doorbells of later ones stay set (11:R288, log entry 92). -/
def State.mboxHeld (s : State) : Bool :=
  let mine (o : IntOp) : Bool := match o with
    | .record _ _ _ _ (.command _) => true
    | _ => false
  s.mbox.run.isSome || s.store.queue.any mine || (match s.store.dev with | some (.int o _) => mine o | _ => false)

/-- A port's mailbox takes a command: its link is trained (16 Table 16-4, R411), and no earlier command waits. -/
def State.mboxUp (s : State) (p : Port) : Bool := s.clk.run && (s.port p).trained && !s.mboxHeld

/-- A mailbox command ends; one that was executed is the mailbox path's activity (12:R319). -/
def State.mboxEnd (s : State) (p : Port) (rc : MboxRc) (ext : WStatus) (out : MboxOut) : State :=
  let s := if rc = .success || rc = .backgroundStarted then s.touch .mailbox else s
  s.respond (.mbox p rc ext out)

/-- A return code with no output. -/
def State.mboxCode (s : State) (p : Port) (rc : MboxRc) : State := s.mboxEnd p rc .ok .none

def dOk : Nat := 0
def dDenied : Nat := 1
def dPartial : Nat := 2
def dAbsent : Nat := 3
def dBusy : Nat := 4
def dNotReady : Nat := 5
def dNotOwner : Nat := 6
def dWrongMode : Nat := 7
def dRefused : Nat := 8

/-- The status of units of which some were denied. -/
def dStatus (denied executed : Nat) : Nat := if denied = 0 then dOk else if executed = 0 then dDenied else dPartial

/-- A foreground Dexaris command ends: the header, then the rest of its output. -/
def State.dexEnd (s : State) (p : Port) (status detail done : Nat) (rest : List Byte) : State :=
  s.mboxEnd p .success .ok (.bytes (leBytes status 2 ++ leBytes detail 2 ++ leBytes done 4 ++ rest))

def maskOf (l : List Nat) : Nat := l.foldl (fun m k => m + 2 ^ k) 0

/-! ### Runs of table entries (11:R292) -/

/-- How a run of entries ended: the denied ones, those executed, and the code that stopped it. -/
structure TableRun where
  denied : List Nat
  done : Nat
  stop : Option Byte
  data : List Entry

/-- The status and detail of a run: NOT_READY of a read stays NOT_READY; any other code is REFUSED. -/
def TableRun.status (r : TableRun) (reads : Bool) : Nat × Nat := match r.stop with
  | none => (dStatus r.denied.length r.done, 0)
  | some c => (if reads && c = 4 then dNotReady else dRefused, c.toNat)

/-- A table command ends: the header, the denial mask, and a read's data. -/
def State.tableEnd (s : State) (p : Port) (r : TableRun) (data : List Byte) (reads : Bool) : State :=
  let (st, detail) := r.status reads
  s.dexEnd p st detail r.done (leBytes (maskOf r.denied) 16 ++ zeros 8 ++ data)

/-- A TBL_WRITE ends: how its entries ended, and the code that stopped it where one did. -/
def State.runStop (s : State) (p : Port) (denied : List Nat) (done : Nat) (stop : Option Byte) : State :=
  ({ s with mbox := { s.mbox with run := none } } : State).tableEnd p ⟨denied, done, stop, []⟩ [] false

/-! ### Key commands (19 Table 19-7) -/

/-- A refusal's Dexaris status and detail (19 Table 19-7). -/
def keyStatus (code : Byte) : Nat × Nat :=
  if code = 0x06 then (dAbsent, 0) else if code = 0x07 then (dWrongMode, 0) else if code = 0x0A then (dBusy, 0)
  else if code = 0x04 then (dNotReady, 0) else (dRefused, code.toNat)

/-- A key command of a port ends with a table code: its status, and done where the slot changed. -/
def State.keyEnd (s : State) (p : Port) (code : Byte) : State :=
  if code = 0 then s.dexEnd p dOk 0 1 [] else s.dexEnd p (keyStatus code).1 (keyStatus code).2 0 []

end Sys2Proof.Machine
end

