-- ==== Sys2Proof/Machine/Steward.lean ====
section
/-! DEFINITION. The steward: images and slots, transfers and activations for both warden paths, the fetch trap and restarts, and
the staging window (spec/18). -/

namespace Sys2Proof.Machine

open Sys2Proof

/-! ### Images and bundles (18:R445-R447) -/

/-- The stepping entries of a header. -/
def stepsOf (l : List Byte) (n : Nat) : List (Byte × Byte × Byte) :=
  (List.range n).map fun k => (lgetD l (64 + 4 * k) 0, lgetD l (65 + 4 * k) 0, lgetD l (66 + 4 * k) 0)

/-- 18:R447 over bytes 0 to 351 and those from `first` to `last`. -/
def signed (root : BitVec 384) (l : List Byte) (first last : Nat) : Bool :=
  let key := (l.drop 256).take 96
  Config.sha384 key == root && Config.ecdsa key ((l.drop 352).take 96) (l.take 352 ++ (l.take last).drop first)

/-- The bundle at the head of l; none where its header is malformed or its body cut short (18:R446). -/
def bundleOf (root : BitVec 384) (l : List Byte) : Option Bundle :=
  let n := byteAt l 12
  let len := 512 + num l 8 4
  if num l 0 4 == 0x45444355 && decide (n ≤ 16) && decide (len ≤ l.length) then
    some ⟨BitVec.ofNat 16 (num l 4 2), BitVec.ofNat 16 (num l 6 2), stepsOf l n, signed root l 512 len, len⟩
  else none

/-- The image in l; none where its header is malformed or it does not end within the slot and the bytes given (18:R445, log entry 93). -/
def imageOf (root : BitVec 384) (l : List Byte) : Option Image :=
  let steps := byteAt l 6
  let pairs := byteAt l 7
  let code := num l 8 4
  let blen := num l 16 4
  let mid := (4096 + code + 4095) / 4096 * 4096
  let last := if blen = 0 then 4096 + code else mid + blen
  if num l 0 4 == 0x44575453 && num l 4 2 == 1 && decide (1 ≤ steps) && decide (steps ≤ 16) && decide (1 ≤ pairs) && decide (pairs ≤ 32) &&
    decide (4 ≤ code) && decide (code ≤ 4186112) && decide (last ≤ 4194304) && decide (last ≤ l.length) then
    some {
      version := BitVec.ofNat 32 (num l 12 4)
      steppings := stepsOf l steps
      pairings := (List.range pairs).map fun k => (BitVec.ofNat 16 (num l (128 + 4 * k) 2), BitVec.ofNat 16 (num l (130 + 4 * k) 2))
      bundle := if blen = 0 then none else bundleOf root ((l.drop mid).take blen)
      installUcode := byteAt l 20 % 2 == 1
      authentic := signed root l 4096 last
      len := last }
  else none

/-! ### Charter pages of firmware (18 Table 18-2) -/

/-- Pages that so many bytes take. -/
def pagesFor (n : Nat) : Nat := (n + 4095) / 4096
def slotPage (slotB : Bool) : Nat := if slotB then 1024 else 0

/-- Program n charter pages from one on. -/
def State.programRun (s : State) (first n : Nat) : State := s.programCharters ((List.range n).map (first + ·))

/-- Generations for the pages that a firmware command programs lie below the stored ceiling (14:R361). -/
def State.fwReady (s : State) : Bool := s.charterReady 1026

/-! ### Slots (18:R444, R447, R448, R453) -/

/-- The preferred slot of the boot record: true for B. -/
def Steward.preferred (w : Steward) : Bool :=
  if w.boot0.valid && (!w.boot1.valid || decide (w.boot1.gen.toNat ≤ w.boot0.gen.toNat)) then w.boot0.slotB
  else if w.boot1.valid then w.boot1.slotB else false

/-- Write the boot record: the copy that does not hold the higher valid generation. -/
def Steward.prefer (w : Steward) (slotB : Bool) : Steward :=
  let a : BootRec := w.boot0
  let b : BootRec := w.boot1
  let g : Word := match a.valid, b.valid with
    | true, true => if b.gen.toNat ≤ a.gen.toNat then a.gen else b.gen
    | true, false => a.gen
    | false, true => b.gen
    | false, false => 0
  let r : BootRec := ⟨g + 1, slotB, true⟩
  if writeSecond a.valid b.valid a.gen b.gen then { w with boot1 := r } else { w with boot0 := r }

/-- The boot record is written: its page is programmed. -/
def State.preferSlot (s : State) (slotB : Bool) : State :=
  let w := s.stew
  let second := writeSecond w.boot0.valid w.boot1.valid w.boot0.gen w.boot1.gen
  ({ s with stew := w.prefer slotB } : State).programRun (if second then 2945 else 2944) 1

/-- The image of a slot that passes every check of 18:R448. -/
def State.bootable (s : State) (slotB : Bool) : Option Image :=
  match s.stew.image slotB with
  | some i => if s.accepts i.steppings then some i else none
  | none => none

/-- A pairing entry matches a microcode (18:R447). -/
def State.pairs (s : State) (i : Image) (ferry lz4 : BitVec 16) : Bool :=
  i.pairings.any fun p => p.1 == ferry && (!s.part.dense || p.2 == lz4)

/-- An authentic bundle of an image. -/
def State.ownBundle (s : State) (i : Image) : Option Bundle :=
  match i.bundle with
  | some b => if b.authentic && s.accepts b.steppings then some b else none
  | none => none

/-- The condition of 18:R453 against the microcode in use. -/
def State.fitsUcode (s : State) (i : Image) : Bool :=
  s.pairs i s.stew.ferryVer s.stew.lz4Ver ||
  (match i.bundle with
   | some b => b.authentic && b.ferry == s.stew.ferryVer && (!s.part.dense || b.lz4 == s.stew.lz4Ver)
   | none => false)

/-- A slot is written: what it then holds. -/
def Steward.setSlot (w : Steward) (slotB : Bool) (i : Option Image) : Steward :=
  if slotB then { w with imgB := i, unread := w.unread &&& 0xD } else { w with imgA := i, unread := w.unread &&& 0xE }

/-! ### Work cut by a restart (18 Table 18-4) -/

/-- A table write that needs the steward ends BUSY, its entry unchanged, whether it is latched or the store's engine runs it (13:R334): one that
has reached the engine sets BMK_DONE (14:R349). -/
def State.cutTable (s : State) : State :=
  match s.tbl.latch with
  | some l =>
    let sel := l.sel.toNat
    if !(l.cmd = 2 && needsSteward sel) then s
    else match s.store.op with
      | some (op, .table) => ((s.endOp (.refused op.page 0x0A) none).1).endTable 0x0A
      | _ => (if sel == 6 || sel == 12 then s.setLast 0x0A else s).endTable 0x0A
  | none => s

/-- What waits for a key command ends BUSY; the table write among them is cut by `cutTable`. -/
def State.cutKeyWait (s : State) (w : KeyWait) : State := match w with
  | .nothing => s
  | .table => s
  | .run => match s.mbox.run with
    | some r => s.runStop r.port r.denied r.done (some 0x0A)
    | none => s
  | .command p => s.keyEnd p 0x0A

/-- Key commands end BUSY (19:R482): a record that the engine has not taken is dropped; one in it completes and installs nothing more. -/
def State.cutKeys (s : State) : State :=
  let waits := s.store.queue.filterMap fun o => match o with
    | .record _ _ _ _ w => some w
    | _ => none
  let kept := s.store.queue.filter fun o => match o with
    | .record _ _ _ _ _ => false
    | _ => true
  let (dev, more) : Option DevOp × List KeyWait := match s.store.dev with
    | some (.int (.record k key _ source w) image) => (some (.int (.record k key false source .nothing) image), [w])
    | d => (d, [])
  (more ++ waits).foldl State.cutKeyWait { s with store := { s.store with queue := kept, dev := dev } }

/-- RELEASE_TILES before its release record ends with Dexaris status BUSY. -/
def State.cutRelease (s : State) : State :=
  match s.t2.release with
  | some r =>
    if r.phase = .prepare then
      let s : State := { s with
        t2 := { s.t2 with release := none }
        mbox := { s.mbox with background := none, bgStatus := some (.releaseTiles, 4) } }
      (s.touch .mailbox).retryPinned
    else s
  | none => s

/-- A firmware transfer is abandoned. -/
def State.cutTransfer (s : State) : State :=
  if s.stew.xfer.isSome then { s with stew := { s.stew with xfer := none, xferAborted := true, writing := none } } else s

def State.cutWork (s : State) : State := s.abandonCommit.cutTable.cutKeys.cutRelease.cutTransfer

/-- The steward stops and a restart begins. -/
def State.restartSteward (s : State) (goal : Option Bool) : State :=
  ({ s with stew := { s.stew with run := false, restarting := true, restartTo := goal, restarts := satAdd s.stew.restarts 1 } } : State).cutWork

/-! ### Fetch traps (18:R452, R453, 16:R417) -/

/-- STEWARD_TRAP with its record. -/
def State.trapRecord (s : State) (address : Word) : State :=
  s.raise 20 0x54 srcDevice (pay [(16, 1, bnat s.stew.slotB), (17, 4, address.toNat)])

/-- The domains go off; port links go with PD1 and PD2. -/
def State.domainsOff (s : State) (m : Byte) : State :=
  { s with pwr := { s.pwr with on := s.pwr.on &&& ~~~m, ramping := s.pwr.ramping &&& ~~~m } }

/-- PFAIL_N holds the recall: PD7 goes off, STAGE shows HELD. -/
def State.holdRecall (s : State) : State :=
  if s.rcl.stage = 15 || s.rcl.stage = 9 then { s with pin := { s.pin with pfailHighSince := none } }
  else
    ({ s with
      rcl := { s.rcl with heldStage := s.rcl.stage, stage := 9, detail := s.rcl.detail ||| 0x4000 }
      pin := { s.pin with pfailHighSince := none } } : State).domainsOff 0x80

/-- A recall that begins with PFAIL_N asserted is held at once (21:R513). -/
def State.holdIfPfail (s : State) : State := if s.pin.pfail then s.holdRecall else s

/-- A recall stops on a fault (16:R413): PD7 goes off. -/
def State.stopRecall (s : State) (outcome : Byte) : State :=
  let s : State := { s with
    rcl := { s.rcl with heldStage := if s.rcl.stage = 9 then s.rcl.heldStage else s.rcl.stage, stage := 15, outcome := outcome }
    pwr := { s.pwr with on := s.pwr.on &&& 0x7F, ramping := s.pwr.ramping &&& 0x7F } }
  s.showPorts

def State.setDetail (s : State) (n : Nat) : State := { s with rcl := { s.rcl with detail := s.rcl.detail ||| (1 <<< n) } }

/-- STEWARD_FETCH_TRAP. -/
def execStewardFetchTrap (address : Word) (s : State) : Out :=
  let s := s.fresh
  if !s.stewardUp || !s.clk.run then .next s
  else
    let s := s.trapRecord address
    if !(s.md.mode = .recall) then .next (s.restartSteward none)
    else
      let s := (s.setDetail 0).setDetail 15
      let s : State := { s with rcl := { s.rcl with traps := s.rcl.traps + 1 }, stew := { s.stew with run := false } }
      if s.rcl.stage = 15 then .next s
      else if 2 ≤ s.rcl.traps then .next ((s.stopRecall 0x84).cutTransfer)
      else .next ({ s with
        stew := { s.stew with restarting := true, restartTo := none }
        cad := { s.cad with loaded := s.cad.loaded && (s.rcl.stage = 7 || (s.rcl.stage = 9 && s.rcl.heldStage = 7)) } } : State).cutTransfer

/-- STEWARD_RESTART_DONE (18:R453, R457): the other slot where it passes and fits, else the slot that trapped; an online activation
names its slot. In RECALL the stage in progress begins again (16:R417). -/
def execStewardRestartDone (s : State) : Out :=
  let s := s.fresh
  if !s.stew.restarting || !s.clk.run then .next s
  else
    let other := !s.stew.slotB
    let slot : Bool := match s.stew.restartTo with
      | some b => b
      | none => match s.bootable other with
        | some i => if s.fitsUcode i then other else s.stew.slotB
        | none => s.stew.slotB
    let s : State := { s with stew := { s.stew with run := true, restarting := false, restartTo := none, slotB := slot } }
    .next (if s.md.mode = .recall && decide (s.rcl.stage.toNat ≤ 7) then s.beginStage s.rcl.stage.toNat else s)

/-! ### Transfers (18:R455, R456, R459, R460) -/

/-- Firmware is loaded in SERVICE and in a stopped recall that admits it (18:R460, R462). -/
def State.loadMode (s : State) : Bool := s.inService || s.loadStop
/-- Parts and activations wait for the field (18:R456, 05:R148). -/
def State.loadWaits (s : State) : Bool := s.inService && decide (2 ≤ s.comp.level.toNat)

/-- A slot number: true for B. -/
def fwSlot (n : Nat) : Option Bool := if n = 1 then some false else if n = 2 then some true else none

/-- A transfer may not go to this slot: the active one, outside a stopped recall. -/
def State.slotActive (s : State) (b : Bool) : Bool := s.inService && s.stew.slotB == b

/-- A transfer begins: its slot reads zero while it is written; in a stopped recall T0 holds it. -/
def State.beginTransfer (s : State) (path : Path) (b : Bool) : State :=
  let w := if s.inService then { (s.stew.setSlot b none) with writing := some b } else { s.stew with staged := none, stagedAuth := false }
  { s with stew := { w with xfer := some ⟨path, b, []⟩, xferAborted := false } }

/-- Data arrives: in SERVICE the pages that it completes are programmed into the slot. -/
def State.addPart (s : State) (x : Transfer) (data : List Byte) : State :=
  let done := x.data.length / 4096
  let all := x.data ++ data
  let s : State := { s with stew := { s.stew with xfer := some { x with data := all } } }
  if s.inService then s.programRun (slotPage x.slotB + done) (min 1024 (all.length / 4096) - done) else s

/-- The end of a transfer: its last page is programmed, and the image is checked against 18:R447. -/
def State.endTransfer (s : State) (x : Transfer) : MboxRc × State :=
  let n := x.data.length
  let s := if s.inService && !(n % 4096 == 0) && decide (n < 4194304) then s.programRun (slotPage x.slotB + n / 4096) 1 else s
  let i := (imageOf s.fuse.rootHash x.data).filter (·.authentic)
  let w : Steward := { s.stew with xfer := none, writing := none }
  let w : Steward := if s.inService then w.setSlot x.slotB i
    else { w with staged := i.map fun i => (x.slotB, i), stagedAuth := i.isSome }
  (if i.isSome then .success else .fwAuthFailed, { s with stew := w })

/-- The checks of a first part. -/
def State.firstPart (s : State) (slot : Nat) : MboxRc ⊕ Bool :=
  match fwSlot slot with
  | none => .inl .invalidSlot
  | some b => if s.slotActive b then .inl .invalidSlot else if s.stew.xfer.isSome then .inl .fwInProgress else .inr b

/-- The checks of a later part: the position it must have is given where one is. -/
def State.laterPart (s : State) (path : Path) (slot : Nat) (offset : Option Nat) : MboxRc ⊕ Transfer :=
  match fwSlot slot with
  | none => .inl .invalidSlot
  | some b =>
    if s.slotActive b then .inl .invalidSlot
    else match s.stew.xfer with
      | none => .inl (if s.stew.xferAborted then .fwAborted else .fwOutOfOrder)
      | some x =>
        if !(x.path = path && x.slotB == b) then .inl .fwInProgress
        else if (match offset with | some o => !(o == x.data.length) | none => false) then .inl .fwOutOfOrder
        else .inr x

/-- FW Transfer Aborted is told once. -/
def State.toldAborted (s : State) (rc : MboxRc) : State :=
  if rc = .fwAborted then { s with stew := { s.stew with xferAborted := false } } else s

/-- A first part: a transfer begins with these bytes. -/
def State.fwInitiate (s : State) (path : Path) (slot : Nat) (data : List Byte) : MboxRc × State :=
  match s.firstPart slot with
  | .inl rc => (rc, s)
  | .inr b => (.success, (s.beginTransfer path b).addPart ⟨path, b, []⟩ data)

/-- A whole image in one part. -/
def State.fwFull (s : State) (path : Path) (slot : Nat) (data : List Byte) : MboxRc × State :=
  match s.firstPart slot with
  | .inl rc => (rc, s)
  | .inr b => ((s.beginTransfer path b).addPart ⟨path, b, []⟩ data).endTransfer ⟨path, b, data⟩

/-- A later part. -/
def State.fwContinue (s : State) (path : Path) (slot offset : Nat) (data : List Byte) : MboxRc × State :=
  match s.laterPart path slot (some offset) with
  | .inl rc => (rc, s.toldAborted rc)
  | .inr x => (.success, s.addPart x data)

/-- The last part, with the bytes it brings. -/
def State.fwEnd (s : State) (path : Path) (slot : Nat) (offset : Option Nat) (data : List Byte) : MboxRc × State :=
  match s.laterPart path slot offset with
  | .inl rc => (rc, s.toldAborted rc)
  | .inr x => (s.addPart x data).endTransfer { x with data := x.data ++ data }

def State.fwAbort (s : State) (path : Path) : MboxRc × State :=
  match s.stew.xfer with
  | none => let rc : MboxRc := if s.stew.xferAborted then .fwAborted else .fwOutOfOrder
            (rc, s.toldAborted rc)
  | some x =>
    if !(x.path = path) then (.fwInProgress, s)
    else (.success, { s with stew := { s.stew with xfer := none, writing := none } })

/-! ### Activations (18:R457, R460) -/

def State.activateOnline (s : State) (slot : Nat) : MboxRc × State :=
  match fwSlot slot with
  | none => (.invalidSlot, s)
  | some b =>
    if !s.inService then (.coldResetRequired, s)
    else match s.bootable b with
      | none => (.invalidSlot, s)
      | some i =>
        if i.installUcode || !s.fitsUcode i then (.coldResetRequired, s)
        else (.success, (s.preferSlot b).restartSteward (some b))

/-- A bundle is written into microcode copy 0 and then into copy 1. -/
def State.installUcode (s : State) (u : Bundle) : State :=
  (({ s with stew := { s.stew with ucode0 := some u, ucode1 := some u, unread := s.stew.unread &&& 0x3 } } : State).programRun 2048
    (pagesFor u.len)).programRun 2304 (pagesFor u.len)

def State.activateRecall (s : State) (slot : Nat) : MboxRc × State :=
  match fwSlot slot with
  | none => (.invalidSlot, s)
  | some b =>
    if s.inService then
      match s.bootable b with
      | none => (.invalidSlot, s)
      | some i =>
        let s := s.preferSlot b
        (.success, match i.installUcode, i.bundle with
          | true, some u => s.installUcode u
          | _, _ => s)
    else
      match s.stew.staged with
      | some (c, i) =>
        if !(c == b && s.stew.stagedAuth && s.accepts i.steppings) then (.invalidSlot, s)
        else (.success, ({ s with rcl := { s.rcl with outcome := 0, traps := 0 }, cad := { s.cad with loaded := false } } : State).beginStage 2 |>.holdIfPfail)
      | none => (.invalidSlot, s)

/-! ### The staging window (18:R458, R459) -/

/-- Word k of the descriptor. -/
def State.descriptor (s : State) (k : Nat) : Word := swVal s.store.words (32 * 128 + k)

/-- A descriptor with this action waits for the steward, or for the boot ROM in a stopped recall. -/
def State.stagingDue (s : State) (action : Nat) : Bool :=
  s.loadMode && (s.stewardUp || s.loadStop) && !s.loadWaits && s.mayStart 1 &&
  (s.descriptor 0).toNat == 0x54465753 && bits (s.descriptor 1) 0 8 == action && !swAnyWritten s.store.words (32 * 128 + 8) 8

/-- Results (18 Table 18-6). -/
def stagingCode : MboxRc → Nat
  | .fwOutOfOrder => 1
  | .invalidPayloadLength => 2
  | .invalidSlot => 3
  | .fwAuthFailed => 4
  | .fwInProgress => 5
  | .coldResetRequired => 6
  | .fwAborted => 7
  | _ => 0

/-- Preset pages 24 to 32 and program the result. -/
def State.stagingResult (s : State) (action : Nat) (rc : MboxRc) : State :=
  let next : Nat := match s.stew.xfer with
    | some x => pagesFor x.data.length
    | none => 0
  let l := [(4104, word 0x54465753), (4105, word (action + stagingCode rc * 256)), (4106, word next)] ++
    ((List.range 5).map fun i => (4107 + i, (0 : Word)))
  { s with store := { s.store with words := swProgram (swPreset s.store.words (24 * 128) (9 * 128)) l } }

/-- The bytes of the window that a DATA descriptor names. -/
def State.window (s : State) : List Byte := (wordBytes (swRun s.store.words (24 * 128) 1024)).take (s.descriptor 3).toNat

/-- DATA: the window's bytes match the CRC and have a length of 1 to 4,096. -/
def State.windowOk (s : State) : Bool :=
  let n := (s.descriptor 3).toNat
  decide (1 ≤ n) && decide (n ≤ 4096) && crc32c s.window == s.descriptor 4

/-- A staging action waits until generations for its pages lie below the stored ceiling. -/
def State.staging (s : State) (action : Nat) (f : State → State) : State :=
  if !s.stagingDue action then s else if s.inService && !s.fwReady then s.raiseCeiling else f s

/-- STAGING_DATA (18:R459); BAD_CRC is carried as the payload-length code. -/
def execStagingData (s : State) : Out :=
  .next (s.fresh.staging 1 fun s =>
    let slot := bits (s.descriptor 1) 8 8
    let off := (s.descriptor 2).toNat
    let first := off = 0 && s.stew.xfer.isNone
    let check : MboxRc := if first then (match s.firstPart slot with | .inl rc => rc | .inr _ => .success)
      else match s.laterPart .strait slot (some (off * 4096)) with | .inl rc => rc | .inr _ => .success
    let (rc, s) : MboxRc × State :=
      if !(check = .success) then (check, s.toldAborted check)
      else if !s.windowOk then (.invalidPayloadLength, s)
      else if first then s.fwInitiate .strait slot s.window else s.fwContinue .strait slot (off * 4096) s.window
    s.stagingResult 1 rc)

/-- STAGING_END (18:R459). -/
def execStagingEnd (s : State) : Out :=
  .next (s.fresh.staging 2 fun s =>
    let (rc, s) := s.fwEnd .strait (bits (s.descriptor 1) 8 8) none []
    s.stagingResult 2 rc)

/-- STAGING_ABORT (18:R459). -/
def execStagingAbort (s : State) : Out :=
  .next (s.fresh.staging 3 fun s =>
    let (rc, s) := s.fwAbort .strait
    s.stagingResult 3 rc)

/-- STAGING_ACTIVATE_ONLINE (18:R459). -/
def execStagingActivateOnline (s : State) : Out :=
  .next (s.fresh.staging 4 fun s =>
    let (rc, s) := s.activateOnline (bits (s.descriptor 1) 8 8)
    s.stagingResult 4 rc)

/-- STAGING_ACTIVATE_RECALL (18:R459). -/
def execStagingActivateRecall (s : State) : Out :=
  .next (s.fresh.staging 5 fun s =>
    let (rc, s) := s.activateRecall (bits (s.descriptor 1) 8 8)
    s.stagingResult 5 rc)

/-- STAGED_IMAGE_WRITE (18:R460): the image into its slot, then the boot record. -/
def execStagedImageWrite (s : State) : Out :=
  let s := s.fresh
  match s.stew.staged with
  | some (b, i) =>
    if !(s.inService && s.stewardUp) || s.loadWaits then .next s
    else if !s.fwReady then .next s.raiseCeiling
    else
      let s : State := { s with stew := { (s.stew.setSlot b (some i)) with staged := none, stagedAuth := false } }
      .next ((s.programRun (slotPage b) (pagesFor i.len)).preferSlot b)
  | none => .next s

end Sys2Proof.Machine
end

