-- ==== Sys2Proof/Machine/Dexaris.lean ====
section
/-! DEFINITION. The Dexaris commands (spec/11 R290-R298): register, table, commit, release, capacity and key commands. -/

namespace Sys2Proof.Machine

open Sys2Proof

/-- The mailbox path holds OWNER. -/
def State.mboxOwner (s : State) : Bool := s.own.holder = some .mailbox

/-- A command other than REG_READ, REG_WRITE and TBL_READ is refused: by the recall stage, for an absent unit, for OWNER, by the
mode, or by a steward restart (16 Table 16-4, 11:R291, R297, R298, R29; order: log entry 26). -/
def State.dexRefused (s : State) (absent changes limited steward : Bool) : Option Nat :=
  match s.phase with
  | some .stopped => some (if changes && !s.mboxOwner then dNotOwner else dWrongMode)
  | some _ => some dNotReady
  | none =>
    if absent then some dAbsent
    else if changes && !s.mboxOwner then some dNotOwner
    else if !s.inService || (s.md.restrict.versionLimited && !limited) then some dWrongMode
    else if steward && s.stew.restarting then some dBusy
    else none

/-! ### Hop 0x13 (06 Tables 06-3, 06-4, R158) -/

/-- A payload as its SRAM lines give it back where bits of their words read inverted, and the classes of those lines (07 Table 07-4). -/
def sramPayload (l : List Byte) (flips : BitFlips) : List Byte × List LineClass :=
  if flips.isEmpty then (l, [])
  else
    let lines := (List.range ((l.length + 63) / 64)).map fun k =>
      decLine (bufferFold k) (rereadWords (encLine (bufferFold k) (ofBytes 512 ((l.drop (64 * k)).take 64)))
        (flips.filterMap fun x => if x.1 / 64 = k then some (x.1 % 64, x.2) else none))
    ((lines.flatMap fun d => toBytes d.data 64).take l.length, lines.map (·.cls))

/-- Hop 0x13 fails: Internal Error and ECC_UE (06 Table 06-4). -/
def State.hop13 (s : State) (p : Port) : State := (s.custody 0x13 (srcPath .mailbox) 0 (pathHolder .mailbox)).mboxCode p .internalError

/-- Take a command's payload out of its SRAM through hop 0x13: a line beyond correction ends the command; one corrected is counted, and the
command goes on. -/
def State.payload (s : State) (p : Port) (l : List Byte) (flips : BitFlips) (f : List Byte → State → State) : State :=
  let (l, cs) := sramPayload l flips
  let s := s.countBuffer cs
  if cs.any badLine then s.hop13 p else f l s

/-- Bytes of a response pass register parity into the payload SRAM, or end the command with nothing changed: s is the state before it. -/
def State.respondBytes (s : State) (p : Port) (l : List Byte) (flips : BitFlips) (f : List Byte → State) : State :=
  match parBytes l flips with
  | some l => f l
  | none => s.hop13 p

/-! ### Registers (11 Table 11-10) -/

/-- Parts of a run of registers, by number from the part holding the first. -/
def runParts (off n : Nat) : List Nat := (List.range ((off + 4 * n - 1) / 64 - off / 64 + 1))

/-- Look every part of a run up; the denied ones. -/
def State.lookParts (s : State) (off n right : Nat) : List Nat × State :=
  (runParts off n).foldl (fun (acc : List Nat × State) k =>
    let (ok, s) := acc.2.lookReg .mailbox (off / 64 * 64 + k * 64) right
    (if ok then acc.1 else acc.1 ++ [k], s)) ([], s)

/-- Read the registers of parts that are not denied, zero for the others. -/
def State.readParts (s : State) (off : Nat) (denied : List Nat) : Nat → List Word × State
  | 0 => ([], s)
  | n + 1 =>
    let (l, s) := s.readParts off denied n
    let o := off + 4 * n
    if denied.contains (o / 64 - off / 64) then (l ++ [0], s)
    else
      let (v, s) := s.readReg o
      (l ++ [v], s)

/-- REG_READ (11:R291). -/
def execRegRead (port : Port) (payload : List Byte) (sram regs : BitFlips) (s : State) : Out :=
  let s := s.fresh
  if !s.mboxUp port then .next s
  else .next (s.payload port payload sram fun payload s =>
    let off := num payload 0 2
    let n := num payload 2 2
    if !(payload.length == 4) then s.mboxCode port .invalidPayloadLength
    else if !(off % 4 == 0) || !(decide (1 ≤ n) && decide (n ≤ 256)) || decide (0x400 < off + 4 * n) then s.mboxCode port .invalidInput
    else if s.readPhase = some .early && !(List.range n).all (fun i => earlyReadable (off + 4 * i)) then
      s.dexEnd port dNotReady 0 0 (zeros (8 + 4 * n))
    else
      let (denied, s) := s.lookParts off n 0
      let (l, t) := s.readParts off denied n
      let done := ((List.range n).filter fun i => !denied.contains ((off + 4 * i) / 64 - off / 64)).length
      s.respondBytes port (wordBytes l) regs fun l =>
        t.dexEnd port (dStatus denied.length done) 0 done (leBytes (maskOf denied) 2 ++ zeros 6 ++ l))

/-- REG_WRITE (11:R291). -/
def execRegWrite (port : Port) (payload : List Byte) (sram : BitFlips) (s : State) : Out :=
  let s := s.fresh
  if !s.mboxUp port then .next s
  else .next (s.payload port payload sram fun payload s =>
    let off := num payload 0 2
    let n := num payload 2 2
    let l : RegWrites := (List.range n).map fun i => (off + 4 * i, word (num payload (8 + 4 * i) 4))
    let say (s : State) (status done : Nat) (denied : List Nat) : State :=
      s.dexEnd port status 0 done (leBytes (maskOf denied) 2 ++ zeros 6)
    if !(payload.length == 8 + 4 * n) then s.mboxCode port .invalidPayloadLength
    else if !(off % 4 == 0) || !(decide (1 ≤ n) && decide (n ≤ 64)) || decide (0x400 < off + 4 * n) then s.mboxCode port .invalidInput
    else if s.writeNotReady .mailbox l then say s dNotReady 0 []
    else if s.writeNotOwner .mailbox l then say s dNotOwner 0 []
    else
      let (denied, s) := s.lookParts off n 1
      let live := l.filter fun p => !denied.contains (p.1 / 64 - off / 64)
      if live.isEmpty then say s dDenied 0 denied
      else if s.writeWrongMode .mailbox l then say s dWrongMode 0 denied
      else if s.writeBusy l then say (s.presetBusy l) dBusy 0 denied
      else say (s.putRegs .mailbox live) (dStatus denied.length live.length) live.length denied)

/-! ### Tables (11:R292) -/

/-- Read entries in ascending index. -/
def State.readEntries (s : State) (sel first : Nat) : Nat → Nat → TableRun × State
  | _, 0 => (⟨[], 0, none, []⟩, s)
  | k, n + 1 =>
    let (c, e, s) := s.readEntry .mailbox sel (first + k)
    if c = 0 || c = 5 then
      let (r, s) := s.readEntries sel first (k + 1) n
      (if c = 0 then { r with done := r.done + 1, data := e :: r.data } else { r with denied := k :: r.denied, data := 0 :: r.data }, s)
    else (⟨[], 0, some c, List.replicate (n + 1) 0⟩, s)

/-- Write entries in ascending index, from number k of the run on, with how the earlier ones ended; an operation of the store's engine runs to its
end, and a run that waits for a key record stays with its later entries. `fails` names the store words that still fail. -/
def State.writeOn (s : State) (port : Port) (sel first : Nat) (fails : List (Nat × Fin 128)) (k : Nat) (denied : List Nat) (done : Nat) :
    List Entry → State
  | [] => s.runStop port denied done none
  | e :: es =>
    let fail := (fails.find? fun x => x.1 == k).map (·.2.val)
    let (r, s) := s.tableWrite .mailbox sel (first + k) e .run fail
    let go (s : State) (c : Byte) : State :=
      if c = 0 then s.writeOn port sel first fails (k + 1) denied (done + 1) es
      else if c = 5 then s.writeOn port sel first fails (k + 1) (denied ++ [k]) done es
      else s.runStop port denied done (some c)
    match r with
    | .code c => go s c
    | .op o => go (s.endOp o fail).1 (s.endOp o fail).2
    | .waits => { s with mbox := { s.mbox with run := some ⟨port, sel, first, k, es, denied, done⟩ } }

/-- The key record that a run waited for has ended with a code: the run goes on, or stops there. -/
def State.resumeRun (s : State) (code : Byte) : State :=
  match s.mbox.run with
  | none => s
  | some r =>
    if code = 0 then ({ s with mbox := { s.mbox with run := none } } : State).writeOn r.port r.sel r.first [] (r.k + 1) r.denied (r.done + 1) r.rest
    else s.runStop r.port r.denied r.done (some code)

/-- What waits for a key record goes on with its code. -/
def State.answerKey (s : State) (w : KeyWait) (code : Byte) : State := match w with
  | .nothing => s
  | .table => s.endTable code
  | .run => s.resumeRun code
  | .command p => s.keyEnd p code

def countOk (n : Nat) : Bool := decide (1 ≤ n) && decide (n ≤ 120)

/-- TBL_READ (11:R292). -/
def execTblRead (port : Port) (payload : List Byte) (sram regs : BitFlips) (s : State) : Out :=
  let s := s.fresh
  if !s.mboxUp port then .next s
  else .next (s.payload port payload sram fun payload s =>
    let sel := byteAt payload 0
    let n := num payload 4 2
    if !(payload.length == 8) then s.mboxCode port .invalidPayloadLength
    else if !tableCodeOk sel || !countOk n then s.mboxCode port .invalidInput
    else
      let (r, t) := s.readEntries sel (num payload 2 2) 0 n
      s.respondBytes port (r.data.flatMap fun e => toBytes e 32) regs fun l => t.tableEnd port r l true)

/-- The entries of a table write's payload. -/
def entriesOf (payload : List Byte) (n : Nat) : List Entry := (List.range n).map fun i => entryAt payload (32 + 32 * i)

/-- TBL_WRITE (11:R292). -/
def execTblWrite (port : Port) (payload : List Byte) (sram : BitFlips) (failing : List (Nat × Fin 128)) (s : State) : Out :=
  let s := s.fresh
  if !s.mboxUp port then .next s
  else .next (s.payload port payload sram fun payload s =>
    let sel := byteAt payload 0
    let n := num payload 4 2
    if !(payload.length == 32 + 32 * n) then s.mboxCode port .invalidPayloadLength
    else if !tableCodeOk sel || !countOk n then s.mboxCode port .invalidInput
    else
      match s.dexRefused false true true (!(sel == 5 || sel == 9)) with
      | some c => s.dexEnd port c 0 0 (zeros 24)
      | none => s.writeOn port sel (num payload 2 2) failing 0 [] 0 (entriesOf payload n))

/-- PLAN_WRITE (11:R292). -/
def execPlanWrite (port : Port) (payload : List Byte) (sram : BitFlips) (s : State) : Out :=
  let s := s.fresh
  if !s.mboxUp port then .next s
  else .next (s.payload port payload sram fun payload s =>
    let first := num payload 2 2
    let n := num payload 4 2
    if !(payload.length == 32 + 32 * n) then s.mboxCode port .invalidPayloadLength
    else if !countOk n || decide (0x1000 < first + n) then s.mboxCode port .invalidInput
    else
      match s.dexRefused false true false true with
      | some c => s.dexEnd port c 0 0 (zeros 24)
      | none => s.writeOn port 3 first [] 0 [] 0 (entriesOf payload n))

/-! ### Commits (11:R293) -/

/-- A background command starts. -/
def State.bgStart (s : State) (p : Port) (b : Background) : State :=
  ({ s with mbox := { s.mbox with background := some (p, b) } } : State).mboxCode p .backgroundStarted

/-- A commit through the mailbox: Busy while a background command runs (11:R288), BUSY while any commit runs. -/
def State.dexCommit (s : State) (p : Port) (payload : List Byte) (isPlan : Bool) : State :=
  if !payload.isEmpty then s.mboxCode p .invalidPayloadLength
  else if s.mbox.background.isSome then s.mboxCode p .busy
  else match s.dexRefused false true true true with
    | some c => s.dexEnd p c 0 0 []
    | none =>
      let (ok, s) := if isPlan then s.lookEntry .mailbox 3 0 1 else s.lookReg .mailbox 0xC0 1
      if !ok then s.dexEnd p dDenied 0 0 []
      else if s.commit.isSome then s.dexEnd p dBusy 0 0 []
      else (s.startCommit isPlan (some p)).bgStart p (if isPlan then .planCommit else .cadCommit)

/-- PLAN_COMMIT (11:R293). -/
def execPlanCommit (port : Port) (payload : List Byte) (s : State) : Out :=
  let s := s.fresh
  .next (if s.mboxUp port then s.dexCommit port payload true else s)

/-- CAD_COMMIT (11:R293). -/
def execCadCommit (port : Port) (payload : List Byte) (s : State) : Out :=
  let s := s.fresh
  .next (if s.mboxUp port then s.dexCommit port payload false else s)

/-- CAD_REVERT (11:R293, 10:R263). -/
def execCadRevert (port : Port) (payload : List Byte) (s : State) : Out :=
  let s := s.fresh
  if !s.mboxUp port then .next s
  else if !payload.isEmpty then .next (s.mboxCode port .invalidPayloadLength)
  else match s.dexRefused false true false true with
    | some c => .next (s.dexEnd port c 0 0 [])
    | none =>
      let (ok, s) := s.lookReg .mailbox 0xC0 1
      if !ok then .next (s.dexEnd port dDenied 0 0 [])
      else if s.writeBusy [(0xC0, 2)] then .next (s.dexEnd port dBusy 0 0 [])
      else .next (s.revertCad.dexEnd port dOk 0 0 [])

/-! ### Release Tiles (11:R294-R296) -/

/-- The runs of a payload, in order of their first tile. -/
def runsOf (payload : List Byte) : List (Nat × Nat) :=
  sortKey (·.1) ((List.range (num payload 0 2)).map fun j => (num payload (8 + 8 * j) 4, num payload (12 + 8 * j) 4))

/-- Every run holds a tile, lies within the part, and ends before the next. -/
def runsOk (tiles : Nat) : List (Nat × Nat) → Bool
  | [] => true
  | [(a, n)] => decide (1 ≤ n) && decide (a + n ≤ tiles)
  | (a, n) :: (b, m) :: t => decide (1 ≤ n) && decide (a + n ≤ b) && runsOk tiles ((b, m) :: t)

/-- Look the tiles of a run up from the last down: the permitted ones, as runs, and whether one was denied. -/
def State.permitRun (s : State) (first : Nat) : Nat → List (Nat × Nat) × Bool × State
  | 0 => ([], false, s)
  | n + 1 =>
    let (l, bad, s) := s.permitRun first n
    let t := first + n
    let (ok, s) := s.lookRun 2 (pathHolder .mailbox) 1 5 (pathSource .mailbox) (denseBase + t * 4096) 64
    if !ok then (l, true, s)
    else match l.reverse with
      | (a, k) :: r => if a + k = t then ((((a, k + 1) :: r)).reverse, bad, s) else (l ++ [(t, 1)], bad, s)
      | [] => ([(t, 1)], bad, s)

/-- The permitted tiles of every run. -/
def State.permitRuns (s : State) : List (Nat × Nat) → List (Nat × Nat) × Bool × State
  | [] => ([], false, s)
  | (a, n) :: t =>
    let (l, bad, s) := s.permitRun a n
    let (l', bad', s) := s.permitRuns t
    (l ++ l', bad || bad', s)

def inRuns (l : List (Nat × Nat)) (tile : Nat) : Bool := l.any fun r => decide (r.1 ≤ tile) && decide (tile < r.1 + r.2)

/-- RELEASE_TILES (11:R294). -/
def execReleaseTiles (port : Port) (payload : List Byte) (s : State) : Out :=
  let s := s.fresh
  let k := num payload 0 2
  if !s.mboxUp port then .next s
  else if decide (payload.length < 8) || !(payload.length == 8 + 8 * k) then .next (s.mboxCode port .invalidPayloadLength)
  else if !(decide (1 ≤ k) && decide (k ≤ 64)) || (s.part.dense && !runsOk s.part.tiles (runsOf payload)) then
    .next (s.mboxCode port .invalidInput)
  else if s.mbox.background.isSome then .next (s.mboxCode port .busy)
  else match s.dexRefused (!s.part.dense) true false true with
    | some c => .next (s.dexEnd port c 0 0 [])
    | none =>
      let (l, bad, s) := s.permitRuns (runsOf payload)
      if l.isEmpty then .next (s.dexEnd port dDenied 0 0 [])
      else
        let r : Release := ⟨.prepare, port, l, bad, sumBy (·.2) l, 0⟩
        .next (({ s with t2 := { s.t2 with release := some r } } : State).bgStart port .releaseTiles)

/-- RELEASE_PREPARE_DONE (11:R295): the walk has summed the stored sectors and the release record is complete; not at INHIBIT. -/
def execReleasePrepareDone (s : State) : Out :=
  let s := s.fresh
  match s.t2.release with
  | some r =>
    if !(r.phase = .prepare) || !s.stewardUp || !s.inService || decide (2 ≤ s.comp.level.toNat) then .next s
    else
      let sum := sumBy (fun p : Nat × MapEntry => if inRuns r.runs p.1 then p.2.sectors else 0) s.t2.tileMap
      .next { s with t2 := { s.t2 with release := some { r with phase := .persisted, sectors := sum } } }
  | none => .next s

/-- RELEASE_CYCLE (02:R79, 11:R295). -/
def execReleaseCycle (s : State) : Out :=
  let s := s.fresh
  match s.t2.release with
  | some r =>
    if !(r.phase = .persisted) || !s.clk.run then .next s
    else
      let free := s.usableFree
      let s := s.releaseWhere (inRuns r.runs)
      let s : State := { s with t2 := { s.t2 with
        release := some { r with phase := .cleanup }
        lastReleasedTiles := BitVec.ofNat 32 r.permitted
        lastReleasedSectors := BitVec.ofNat 64 r.sectors } }
      .next (s.retryPinned.review free)
  | none => .next s

/-- RELEASE_CLEANUP_DONE (11:R295). -/
def execReleaseCleanupDone (s : State) : Out :=
  let s := s.fresh
  match s.t2.release with
  | some r =>
    if !(r.phase = .cleanup) || !s.stewardUp then .next s
    else .next (({ s with
      t2 := { s.t2 with release := none }
      mbox := { s.mbox with background := none
                            bgStatus := some (.releaseTiles, BitVec.ofNat 16 (if r.denied then dPartial else dOk)) } } : State).touch .mailbox)
  | none => .next s

/-- CAPACITY_QUERY (11:R297, Table 11-11). -/
def execCapacityQuery (port : Port) (payload : List Byte) (s : State) : Out :=
  let s := s.fresh
  if !s.mboxUp port then .next s
  else if !payload.isEmpty then .next (s.mboxCode port .invalidPayloadLength)
  else match s.dexRefused (!s.part.dense) false true false with
    | some c => .next (s.dexEnd port c 0 0 [])
    | none =>
      let flags := bbit s.t2.capacityLow 0 + bbit s.md.restrict.capacityStall 1 + bbit (s.overcommits (s.plan.recs 4)) 2
      .next (s.dexEnd port dOk 0 0 (leBytes s.part.usableSectors 8 ++ leBytes s.usableFree 8 ++ leBytes (8 * s.plan.reservedTiles) 8 ++
        leBytes s.pinnedBytes 8 ++ leBytes (s.t0.pool.filter fun x => x.st = .pinned).length 4 ++ leBytes flags 1 ++ zeros 3 ++
        leBytes s.t2.lastReleasedSectors.toNat 8 ++ leBytes s.t2.lastReleasedTiles.toNat 4 ++ zeros 4))

/-! ### Keys (19:R478-R482) -/

/-- What refuses a key command before its slot is looked at: the recall stage, an absent unit, OWNER, the slot's gate address. -/
def State.keyRefused (s : State) (slot : Nat) : Option Nat × State :=
  match s.phase with
  | some .stopped => (some (if s.mboxOwner then dWrongMode else dNotOwner), s)
  | some _ => (some dNotReady, s)
  | none =>
    if !s.part.encrypt then (some dAbsent, s)
    else if !s.mboxOwner then (some dNotOwner, s)
    else
      let (ok, s) := s.lookEntry .mailbox 13 slot 1
      (if ok then none else some dDenied, s)

/-- A key command has asked for its record: it ends with the record's code, or waits for it. -/
def keyAsked (p : Port) (r : Option Byte × State) : State := match r with
  | (some c, s) => s.keyEnd p c
  | (none, s) => s

/-- KEY_GENERATE (19:R479). -/
def execKeyGenerate (port : Port) (payload : List Byte) (failing : Option (Fin 128)) (s : State) : Out :=
  let s := s.fresh
  let k := byteAt payload 0
  if !s.mboxUp port then .next s
  else if !(payload.length == 8) then .next (s.mboxCode port .invalidPayloadLength)
  else
    let (c, s) := s.keyRefused k
    match c with
    | some c => .next (s.dexEnd port c 0 0 [])
    | none => match s.generateRefused k false with
      | some code => .next (s.dexEnd port (keyStatus code).1 (keyStatus code).2 0 [])
      | none => .next (keyAsked port (s.generateKey k (srcPath .mailbox) (.command port) (failing.map (·.val))))

/-- The key a blob carries; none where it is malformed or fails (19:R480). -/
def State.blobKey (s : State) (slot : Nat) (b : List Byte) : Option (BitVec 512) :=
  if !(num b 0 4 == 0x504D494B) || !(byteAt b 4 == 1) || !(byteAt b 5 == slot) || !(num b 6 2 == 0) then none
  else match Config.importKey s.fuse.uniqueId (BitVec.ofNat 8 slot) (BitVec.ofNat 768 (num b 8 96)) (BitVec.ofNat 576 (num b 104 72)) with
    | some key => if keyUsable key then some key else none
    | none => none

/-- KEY_IMPORT (19:R480). -/
def execKeyImport (port : Port) (payload : List Byte) (failing : Option (Fin 128)) (s : State) : Out :=
  let s := s.fresh
  let k := byteAt payload 0
  let n := num payload 2 2
  if !s.mboxUp port then .next s
  else if decide (payload.length < 8) || !(payload.length == 8 + n) then .next (s.mboxCode port .invalidPayloadLength)
  else
    let (c, s) := s.keyRefused k
    match c with
    | some c => .next (s.dexEnd port c 0 0 [])
    | none => match s.generateRefused k true with
      | some code => .next (s.dexEnd port (keyStatus code).1 (keyStatus code).2 0 [])
      | none =>
        if !(n == 176) then .next (s.mboxCode port .invalidInput)
        else match s.blobKey k (payload.drop 8) with
          | none => .next (s.mboxCode port .invalidInput)
          | some key => .next (keyAsked port (s.askRecord k (some (key, 2)) (srcPath .mailbox) (.command port) (failing.map (·.val))))

/-- KEY_ERASE (19:R481). -/
def execKeyErase (port : Port) (payload : List Byte) (s : State) : Out :=
  let s := s.fresh
  let k := byteAt payload 0
  if !s.mboxUp port then .next s
  else if !(payload.length == 8) then .next (s.mboxCode port .invalidPayloadLength)
  else
    let (c, s) := s.keyRefused k
    match c with
    | some c => .next (s.dexEnd port c 0 0 [])
    | none =>
      if s.keyModeRefused then .next (s.dexEnd port dWrongMode 0 0 [])
      else if s.stew.restarting then .next (s.dexEnd port dBusy 0 0 [])
      else if (s.keySlot k).state = 0 then .next (s.dexEnd port dOk 0 0 [])
      else .next (keyAsked port (s.eraseKey k (srcPath .mailbox) (.command port)))

end Sys2Proof.Machine
end

