-- ==== Sys2Proof/Machine/Mailbox.lean ====
section
/-! DEFINITION. The standard mailbox commands (spec/11 R279, R285-R289, 18 R455-R457). -/

namespace Sys2Proof.Machine

open Sys2Proof

/-! ### Events (11:R285-R287, R289) -/

/-- The record UUID of 11:R286, in the byte order of its text (PRESUMED, log entry 94). -/
def recordUuid : List Byte := beBytes 0x3D7A5C219B044E6FA8C251F0D9E3B776 16

/-- A CXL event record, 128 B: the common header of CXL 3.1 (PRESUMED, log entry 94), with the log's severity, handle and timestamp, and the
80 B body of 11:R286. -/
def cxlRecord (log : Nat) (handle : BitVec 16) (r : EvRec) (ts : Stamp) : List Byte :=
  recordUuid ++ [0x80] ++ leBytes log 3 ++ leBytes handle.toNat 2 ++ zeros 2 ++ leBytes ts.toNat 8 ++ zeros 16 ++
  toBytes r.entry 32 ++ [match r.bit with | some b => BitVec.ofNat 8 b.val | none => 0] ++ zeros 47

/-- Records that a payload of 4 KiB carries behind the 32 B of a Get Event Records output (11:R288). -/
def recordsFit : Nat := 31

/-- GET_EVENT_RECORDS (11:R285, R286). -/
def execGetEventRecords (port : Port) (log : Fin 4) (s : State) : Out :=
  let s := s.fresh
  if !s.mboxUp port then .next s
  else
    let l := lgetD s.mbox.logs log.val .empty
    .next (s.mboxEnd port .success .ok (.events l.overflow (decide (recordsFit < l.records.length)) l.overflowCount
      ((l.records.take recordsFit).map fun x => cxlRecord log.val x.1 x.2.1 x.2.2)))

/-- What a Clear Event Records leaves of a log; none where a handle names no record. -/
def CxlLog.clear (l : CxlLog) (sel : ClearSel) : Option CxlLog :=
  match sel with
  | .all => some .empty
  | .handles hs =>
    if hs.all fun h => l.records.any fun r => r.1 == h then
      let rest := l.records.filter fun r => !hs.contains r.1
      some (if rest.isEmpty && !l.records.isEmpty then .empty else { l with records := rest })
    else none

/-- CLEAR_EVENT_RECORDS (11:R287). -/
def execClearEventRecords (port : Port) (log : Fin 4) (sel : ClearSel) (s : State) : Out :=
  let s := s.fresh
  if !s.mboxUp port then .next s
  else match (lgetD s.mbox.logs log.val .empty).clear sel with
    | some l => .next (({ s with mbox := { s.mbox with logs := s.mbox.logs.set log.val l } } : State).mboxCode port .success)
    | none => .next (s.mboxCode port .invalidHandle)

/-- GET_EVENT_INTERRUPT_POLICY (11:R289). -/
def execGetEventInterruptPolicy (port : Port) (s : State) : Out :=
  let s := s.fresh
  .next (if s.mboxUp port then s.mboxEnd port .success .ok (.policy s.mbox.policy) else s)

/-- SET_EVENT_INTERRUPT_POLICY (11:R289). -/
def execSetEventInterruptPolicy (port : Port) (policy : Word) (s : State) : Out :=
  let s := s.fresh
  .next (if s.mboxUp port then ({ s with mbox := { s.mbox with policy := policy } } : State).mboxCode port .success else s)

/-! ### Timestamp (11:R286) -/

/-- The timestamp: 0 when none has been set, else the value set and the time since, 5 ns in 8 cycles (01:R23). -/
def State.cxlTime (s : State) : Stamp := match s.mbox.time with
  | some (ns, t) => ns + BitVec.ofNat 64 ((s.now - t.toNat) * 5 / 8)
  | none => 0

/-- GET_TIMESTAMP (11:R289). -/
def execGetTimestamp (port : Port) (s : State) : Out :=
  let s := s.fresh
  .next (if s.mboxUp port then s.mboxEnd port .success .ok (.time s.cxlTime) else s)

/-- SET_TIMESTAMP (11:R286). -/
def execSetTimestamp (port : Port) (ns : Stamp) (s : State) : Out :=
  let s := s.fresh
  .next (if s.mboxUp port then ({ s with mbox := { s.mbox with time := some (ns, s.clk.ts) } } : State).mboxCode port .success else s)

/-! ### Logs and identity (11:R279, R289) -/

/-- The Command Effects Log's UUID (PRESUMED from CXL 3.1, log entry 11). -/
def celUuid : BitVec 128 := 0x0DA9C0B5BF414B788F7996B1623B3F17

/-- GET_SUPPORTED_LOGS (11:R289): one log, 4 B a command. -/
def execGetSupportedLogs (port : Port) (s : State) : Out :=
  let s := s.fresh
  .next (if s.mboxUp port then s.mboxEnd port .success .ok (.logs celUuid (4 * mailboxOpcodes.length)) else s)

/-- What each command of the Command Effects Log changes: bits 0 to 4 for a configuration change after a reset, an immediate change of
configuration, of data, of policy, of a log; bit 5 a change of security state; bit 6 a background operation (PRESUMED from CXL 3.1, log entry
94). -/
def commandEffects : List (BitVec 16 × BitVec 16) :=
  mailboxOpcodes.map fun o =>
    (o, if o = 0x0101 then 0x10 else if o = 0x0103 then 0x08 else if o = 0x0201 then 0x01 else if o = 0x0202 then 0x03
        else if o = 0x0301 then 0x08 else if o = 0xC001 || o = 0xC011 then 0x0E else if o = 0xC020 || o = 0xC023 then 0x02
        else if o = 0xC021 || o = 0xC022 then 0x42 else if o = 0xC030 then 0x44
        else if o = 0xC040 || o = 0xC041 || o = 0xC042 then 0x22 else 0)

/-- GET_LOG (11:R289). -/
def execGetLog (port : Port) (uuid : BitVec 128) (s : State) : Out :=
  let s := s.fresh
  if !s.mboxUp port then .next s
  else if uuid = celUuid then .next (s.mboxEnd port .success .ok (.effects commandEffects))
  else .next (s.mboxCode port .invalidLog)

/-- Capacity in units of 256 MiB (11:R279). -/
def Part.identifyUnits (p : Part) : Nat := p.fastGiB * 4 + p.tiles / 65536

/-- IDENTIFY_MEMORY_DEVICE (11:R279). -/
def execIdentifyMemoryDevice (port : Port) (s : State) : Out :=
  let s := s.fresh
  let n := s.part.identifyUnits
  .next (if s.mboxUp port then s.mboxEnd port .success .ok (.identify n n 0 0 0 0) else s)

/-- GET_PARTITION_INFO (11:R279). -/
def execGetPartitionInfo (port : Port) (s : State) : Out :=
  let s := s.fresh
  .next (if s.mboxUp port then s.mboxEnd port .success .ok (.partition 0 s.part.identifyUnits) else s)

/-- MAILBOX_UNSUPPORTED (11:R289). -/
def execMailboxUnsupported (port : Port) (opcode : BitVec 16) (s : State) : Out :=
  if !WellFormed (.mailboxUnsupported port opcode) then .refused (.illFormed "MAILBOX_UNSUPPORTED")
  else
    let s := s.fresh
    .next (if s.mboxUp port then s.mboxCode port .unsupported else s)

/-! ### Firmware (18:R455-R457) -/

/-- Decimal digits of a number below 100,000, as ASCII. -/
def digits : Nat → Nat → List Byte
  | 0, _ => []
  | f + 1, n => (if n < 10 then [] else digits f (n / 10)) ++ [BitVec.ofNat 8 (48 + n % 10)]

/-- A slot's revision: "major.minor.build", padded to 16 B; zero for an empty slot. -/
def revision (v : Word) : List Byte :=
  if v = 0 then zeros 16
  else
    let l := digits 5 (bits v 24 8) ++ [0x2E] ++ digits 5 (bits v 16 8) ++ [0x2E] ++ digits 5 (bits v 0 16)
    l ++ zeros (16 - l.length)

/-- GET_FW_INFO (18:R456). -/
def execGetFwInfo (port : Port) (s : State) : Out :=
  let s := s.fresh
  .next (if s.mboxUp port then
    s.mboxEnd port .success .ok (.fwInfo 2 (bnat s.stew.slotB + 1) (bnat s.stew.preferred + 1) true (revision (s.fwVer false)) (revision (s.fwVer true)))
  else s)

/-- A firmware command is refused with Busy, with an extended status where one names the cause (18:R455, R462, 16 Table 16-4, 01:R29). -/
def State.fwRefused (s : State) : Option WStatus :=
  match s.phase with
  | some .stopped => if !s.mboxOwner then some .notOwner else if s.loadStop then none else some .wrongMode
  | some _ => some .notReady
  | none => if !s.mboxOwner then some .notOwner else if !s.inService then some .wrongMode else if s.stew.restarting then some .busy else none

/-- Data bytes that a Transfer FW part carries: a payload of 4 KiB less the 128 B before the data (11:R288; PRESUMED, log entry 94). -/
def partFits (data : List Byte) : Bool := decide (data.length ≤ 3968)

/-- A firmware command. One that waits for the field (18:R456), or for a raised ceiling that its pages need (14:R361), does nothing yet: its
doorbell stays set (11:R288). -/
def State.fwCommand (s : State) (p : Port) (waits : Bool) (data : List Byte) (f : State → MboxRc × State) : State :=
  if !s.mboxUp p then s
  else if !partFits data then s.mboxCode p .invalidPayloadLength
  else match s.fwRefused with
    | some e => s.mboxEnd p .busy e .none
    | none =>
      if waits && s.loadWaits then s
      else if waits && s.inService && !s.fwReady then s.raiseCeiling
      else
        let (rc, s) := f s
        s.mboxCode p rc

/-- TRANSFER_FW_FULL (18:R456). -/
def execTransferFwFull (port : Port) (slot : Byte) (data : List Byte) (s : State) : Out :=
  .next (s.fresh.fwCommand port true data fun s => s.fwFull .mailbox slot.toNat data)
/-- TRANSFER_FW_INITIATE (18:R456). -/
def execTransferFwInitiate (port : Port) (slot : Byte) (data : List Byte) (s : State) : Out :=
  .next (s.fresh.fwCommand port true data fun s => s.fwInitiate .mailbox slot.toNat data)
/-- TRANSFER_FW_CONTINUE (18:R456). -/
def execTransferFwContinue (port : Port) (slot : Byte) (offset : Nat) (data : List Byte) (s : State) : Out :=
  .next (s.fresh.fwCommand port true data fun s => s.fwContinue .mailbox slot.toNat offset data)
/-- TRANSFER_FW_END (18:R456). -/
def execTransferFwEnd (port : Port) (slot : Byte) (offset : Nat) (data : List Byte) (s : State) : Out :=
  .next (s.fresh.fwCommand port true data fun s => s.fwEnd .mailbox slot.toNat (some offset) data)
/-- TRANSFER_FW_ABORT (18:R456). -/
def execTransferFwAbort (port : Port) (s : State) : Out := .next (s.fresh.fwCommand port false [] fun s => s.fwAbort .mailbox)
/-- ACTIVATE_FW_ONLINE (18:R457). -/
def execActivateFwOnline (port : Port) (slot : Byte) (s : State) : Out :=
  .next (s.fresh.fwCommand port true [] fun s => s.activateOnline slot.toNat)
/-- ACTIVATE_FW_ON_NEXT_RESET (18:R457). -/
def execActivateFwOnNextReset (port : Port) (slot : Byte) (s : State) : Out :=
  .next (s.fresh.fwCommand port true [] fun s => s.activateRecall slot.toNat)

end Sys2Proof.Machine
end

