-- ==== Sys2Proof/Machine/Sensors.lean ====
section
/-! DEFINITION. Temperature, the Compass and the tide gauge (spec/09 R220-R228, R235, 08 R209, 17 R421-R424). -/

namespace Sys2Proof.Machine

open Sys2Proof

/-! ### Temperature (09:R235, 08:R209) -/

/-- The part has this die, numbered as TEMP.DIE. -/
def Part.diePresent (p : Part) (d : Nat) : Bool :=
  d == 0 || (decide (1 ≤ d) && decide (d ≤ p.fastDies)) || (decide (5 ≤ d) && decide (d < 5 + p.denseDies))

/-- The band of a temperature in 0.5 C (08 Table 08-4). -/
def bandOf (t : Int) : Nat := if t < 50 then 0 else if t < 110 then 1 else if t < 170 then 2 else 3

/-- A band is left downward only 3 C below its lower edge. -/
def nextBand (old : Nat) (t : Int) : Nat :=
  let low : Int := match old with | 0 => -1000 | 1 => 50 | 2 => 110 | _ => 170
  if old ≤ bandOf t then bandOf t else if t ≤ low - 6 then max (bandOf t) (bandOf (t + 5)) else old

/-- The highest of the present dies, the lowest numbered of equal ones. -/
def hottest (p : Part) : Nat → List Int → Option (Nat × Int)
  | _, [] => none
  | d, t :: ts =>
    let rest := hottest p (d + 1) ts
    if !p.diePresent d then rest
    else match rest with
      | some (e, u) => if t < u then some (e, u) else some (d, t)
      | none => some (d, t)

/-- TEMP_SAMPLE (09:R235): one reading a die in 0.5 C, numbered as TEMP.DIE. -/
def execTempSample (dies : List Int) (s : State) : Out :=
  let s := s.fresh
  if !s.clk.run then .next s
  else match hottest s.part 0 dies with
    | none => .next s
    | some (d, t) =>
      let bands := (List.range 17).map fun i => match dies[i]? with
        | some u => if s.part.diePresent i then nextBand (lgetD s.comp.bands i 0) u else 0
        | none => lgetD s.comp.bands i 0
      let m : Int := max (-512) (min 511 t)
      .next ({ s with comp := { s.comp with tempMax := BitVec.ofInt 10 m, tempDie := BitVec.ofNat 5 d, bands := bands } } : State).evalTemp

/-! ### The Compass (09:R220-R228) -/

/-- The square root of a number below 2^30, truncated. -/
def isqrt (n : Nat) : Nat := (List.range 15).foldr (fun i r => if (r + 2 ^ i) * (r + 2 ^ i) ≤ n then r + 2 ^ i else r) 0

/-- An axis at either end of its range counts as 80 mT. -/
def clampAxis (a : Int) : Int := max (-8000) (min 8000 a)

def axesClamped (a : Axes) : Axes := ⟨clampAxis a.x, clampAxis a.y, clampAxis a.z⟩
def axesMagnitude (a : Axes) : Nat := isqrt (a.x * a.x + a.y * a.y + a.z * a.z).toNat

/-- Rising and falling thresholds of a level, 0.01 mT (09 Table 09-3). -/
def Compass.rising (c : Compass) : Nat → Nat
  | 1 => 10 * c.caution.toNat
  | 2 => 10 * c.inhibit.toNat
  | _ => 10 * c.ro.toNat
def Compass.falling (c : Compass) : Nat → Nat
  | 1 => 10 * c.caution.toNat - 50
  | 2 => 10 * c.inhibit.toNat - 100
  | _ => 10 * c.ro.toNat - 300

/-- The highest level whose rising threshold is at most the reading. -/
def Compass.up (c : Compass) (r : Nat) : Nat :=
  if c.rising 3 ≤ r then 3 else if c.rising 2 ≤ r then 2 else if c.rising 1 ≤ r then 1 else 0

/-- FIELD_RO stands exactly while the level is READONLY, in SERVICE and from the SENSE stage of RECALL (09:R227, 15:R389). -/
def State.evalFieldRo (s : State) : State :=
  if s.md.mode = .service || s.md.mode = .recall then s.setRestrict { s.md.restrict with fieldRo := s.comp.level == 3 } else s

/-- The sensor whose coil check runs: a check takes 60 us (09:R222, log entry 95). -/
def State.checking (s : State) : Option Nat := match s.comp.check with
  | some (n, t) => if s.since t 96000 then none else some n
  | none => none

/-- A level change: flags of the levels risen into, one record, and what follows from the level (09:R225-R228, 01:R37, 15:R383; a REPLAY
that waits at READONLY begins, 16:R406). -/
def State.setLevel (s : State) (new reading src : Nat) : State :=
  let old := s.comp.level.toNat
  if new = old then s
  else
    let p := pay [(16, 1, old), (17, 1, new), (18, 2, reading)]
    let s : State := { s with comp := { s.comp with level := BitVec.ofNat 2 new }
                              drain := { s.drain with maxLevel := if s.drain.maxLevel.toNat < new then BitVec.ofNat 2 new else s.drain.maxLevel } }
    let s :=
      if old < new then
        let s := if old < 1 ∧ 1 < new then s.flagHit 6 else s
        let s := if old < 2 ∧ 2 < new then s.flagHit 7 else s
        s.raise (match new with | 1 => 6 | 2 => 7 | _ => 8) 0x30 (srcSensor src) p
      else s.addEvent (some (match old with | 1 => 6 | 2 => 7 | _ => 8)) 0x30 (srcSensor src) p
    let s := s.evalFieldRo.abandonOnField
    let s := if old < 2 ∧ 2 ≤ new then s.startSettleDrain else s
    let s := if old = 3 ∧ s.md.mode = .recall ∧ s.rcl.stage = 6 ∧ s.cad.loaded then s.startReplay else s
    let s := if new < 2 ∧ 2 ≤ old then s.retryWaits else s
    s.retryPinned.evalCredits

/-- The valid sensor of the largest magnitude, the lowest numbered of equal ones. -/
def readingOf (valid : BitVec 3) (mags : List Nat) : Option (Nat × Nat) :=
  [2, 1, 0].foldl (fun best i =>
    if !valid.getLsbD i then best
    else match best with
      | some (j, m) => if m ≤ lgetD mags i 0 then some (i, lgetD mags i 0) else some (j, m)
      | none => some (i, lgetD mags i 0)) none

/-- One sample (09:R221-R223); a sensor under its coil check gives its last valid magnitude (09:R222). -/
def State.sample (s : State) (l : List Axes) : State :=
  let c := s.comp
  let l := l.map axesClamped
  let mags := (List.range 3).map fun i => if c.valid.getLsbD i && !(s.checking == some i) then axesMagnitude (lgetD l i ⟨0, 0, 0⟩) else lgetD c.mags i 0
  match readingOf c.valid mags with
  | none =>
    let s : State := { s with comp := { c with seq := c.seq + 1, belowSince := none } }
    if c.level = 0 then s.setLevel 1 0 c.src.toNat else s
  | some (src, r) =>
    let a := lgetD l src ⟨0, 0, 0⟩
    let up := c.up r
    let old := c.level.toNat
    let below : Bool := decide (0 < old) && decide (r < c.falling old)
    let since : Stamp := c.belowSince.getD s.clk.ts
    let fall : Bool := below && decide (since.toNat + 100 * msec ≤ s.now)
    let new := if !c.sampled || old < up then up else if fall then old - 1 else old
    let keep : Option Stamp := if !c.sampled || old < up || fall then none else if below then some since else none
    let s : State := { s with comp := { c with
      x := BitVec.ofInt 16 a.x, y := BitVec.ofInt 16 a.y, z := BitVec.ofInt 16 a.z
      src := BitVec.ofNat 2 src, seq := c.seq + 1, mags := mags, sampled := true, belowSince := keep } }
    s.setLevel new r src

/-- The Compass samples: SERVICE, CAUSEWAY, the settle phase, and RECALL once its start-up stage has ended (09 Table 09-9). -/
def State.compassOn (s : State) : Bool :=
  s.clk.run && (!(s.md.mode = .recall) ||
    (let g := if s.rcl.stage = 9 || s.rcl.stage = 15 then s.rcl.heldStage else s.rcl.stage
     decide (5 ≤ g.toNat)))

/-- COMPASS_SAMPLE (09:R223). -/
def execCompassSample (s0 s1 s2 : Axes) (s : State) : Out :=
  let s := s.fresh
  .next (if s.compassOn then s.sample [s0, s1, s2] else s)

/-- A sensor fails its coil check: invalid until the next recall (09:R222). -/
def State.sensorFails (s : State) (n axis : Nat) : State :=
  ({ s with comp := { s.comp with valid := s.comp.valid &&& ~~~((1 : BitVec 3) <<< n) } } : State).note 0x31 (srcSensor n) (pay [(16, 1, axis)])

/-- The first axis, 0 to 2, whose reading did not change by 1.60 mT to 2.40 mT (09:R222). -/
def coilFails (c : Axes) : Option Nat :=
  ((List.range 3).zip [c.x, c.y, c.z] |>.find? fun p => !(decide (160 ≤ p.2) && decide (p.2 ≤ 240))).map (·.1)

/-- A sensor's coil check: `change` is what the reading of each axis changed by, 0.01 mT (09:R222). -/
def State.coilCheck (s : State) (n : Nat) (change : Axes) : State :=
  let s : State := { s with comp := { s.comp with check := some (n, s.clk.ts) } }
  match coilFails change with
  | some a => s.sensorFails n a
  | none => s

/-- COIL_CHECK (09:R222): one sensor at a time. -/
def execCoilCheck (sensor : Fin 3) (change : Axes) (s : State) : Out :=
  let s := s.fresh
  .next (if s.clk.run && s.inService && s.comp.valid.getLsbD sensor.val && s.checking.isNone then s.coilCheck sensor.val change else s)

/-! ### The tide gauge (17:R421-R424) -/

/-- E in uJ, for a slope difference in uV/s (17 Table 17-2): 0.36 C (V² − 25 V²) with C = 20,000 / slope farad. -/
def gaugeEnergy (slope : Option Nat) (mv : Nat) : Nat := match slope with
  | some d => if mv ≤ 5000 then 0 else 7200 * (mv * mv - 25000000) / d
  | none => 0

/-- TIDE_LOW's threshold and re-arm level, KiB. -/
def Part.tideLow : Part → Nat × Nat
  | .rbk9208 => (8192, 10240)
  | _ => (16384, 20480)

/-- E changes: the gauge budget, TIDE_LOW and the budget in force (17:R422-R424). -/
def State.setEnergy (s : State) (mv : Nat) : State :=
  let e := gaugeEnergy s.tide.slope mv
  let g := gaugeBudget s.part.drainLimit e
  let (low, rearm) := s.part.tideLow
  let old := s.tide.gauge
  let es := min (2 ^ 24 - 1) e
  let s : State := { s with tide := { s.tide with millivolts := mv, energy := BitVec.ofNat 24 es, gauge := g,
                                                  lowArmed := s.tide.lowArmed || decide (rearm ≤ g) } }
  let s : State :=
    if s.tide.lowArmed && decide (low ≤ old) && decide (g < low) then
      let c := match s.tide.slope with | some d => min 65535 (2000000000 / d) | none => 0
      ({ s with tide := { s.tide with lowArmed := false } } : State).raise 9 0x36 srcDevice (pay [(16, 3, es), (19, 2, c), (21, 2, mv)])
    else s
  s.applyBudget

/-- The gauge runs: SERVICE, and RECALL from its epoch. -/
def State.gaugeOn (s : State) : Bool := s.clk.run && (s.inService || s.md.mode = .recall)

/-- TIDE_MEASUREMENT (17:R421, R422): VHOLD in mV and s_off − s_on in uV/s. -/
def execTideMeasurement (millivolts : Nat) (slopeDiff : Int) (s : State) : Out :=
  let s := s.fresh
  if !s.gaugeOn then .next s
  else
    let t := s.tide
    let valid : Bool := decide (0 < slopeDiff) && decide (slopeDiff ≤ 20000000)
    let n := if valid then 0 else min 3 (t.invalid + 1)
    let slope := if valid then some (max 200000 slopeDiff.toNat) else if n = 3 then none else t.slope
    let s : State := { s with tide := { t with slope := slope, invalid := n, seq := t.seq + 1 } }
    let s := if n = 3 && !(t.invalid == 3) then s.note 0x37 srcDevice (pay [(16, 1, 3)]) else s
    .next (s.setEnergy (min 14000 millivolts))

/-- TIDE_RESAMPLE (17:R422). -/
def execTideResample (millivolts : Nat) (s : State) : Out :=
  let s := s.fresh
  .next (if s.gaugeOn then s.setEnergy (min 14000 millivolts) else s)

end Sys2Proof.Machine
end

