-- ==== Sys2Proof/Machine/Entropy.lean ====
section
/-! DEFINITION. The entropy source and the stored seed (spec/19 R463-R471). -/

namespace Sys2Proof.Machine

open Sys2Proof

/-- READY is reached from STORED or RESTARTING: a start-up test has passed and two blocks are complete (19 Table 19-3, R468). -/
def State.evalEntropy (s : State) : State :=
  let e := s.ent
  if (e.st = .stored || e.st = .restarting) && e.source && !e.startup && decide (2 ≤ e.blocks.length) then
    ({ s with ent := { e with st := .ready, ready := true, seededOnly := false, lastReseed := s.clk.ts, requests := 0, blocks := [],
                              seedDue := true } } : State).raise 12 0x51 srcDevice 0
  else s

/-- The code of a test (20 Table 20-6 code 0x52). -/
def healthCode : HealthTest → Nat
  | .repetition => 0
  | .proportion => 1
  | .bias => 2

/-- HEALTH_TEST_FAIL (19:R465): the block in progress is discarded and a start-up test is due. -/
def execHealthTestFail (test : HealthTest) (s : State) : Out :=
  let s := s.fresh
  if !s.ent.source || !s.clk.run then .next s
  else
    let s := s.note 0x52 srcDevice (pay [(16, 1, healthCode test), (17, 1, bnat s.ent.startup)])
    .next { s with ent := { s.ent with startup := true } }

/-- STARTUP_TEST_DONE (19:R464, R465): the third failure in a row stops the source. -/
def execStartupTestDone (passes : Bool) (s : State) : Out :=
  let s := s.fresh
  let e := s.ent
  if !e.source || !e.startup || !s.clk.run then .next s
  else if passes then .next ({ s with ent := { e with startup := false, fails := 0 } } : State).evalEntropy
  else if decide (2 ≤ e.fails) then
    let s : State := { s with ent := { e with st := .failed, fails := 3, healthFail := true, ready := false, seededOnly := true, source := false } }
    .next (if s.md.mode = .recall then s.setDetail 6 else s)
  else .next { s with ent := { e with fails := e.fails + 1 } }

/-- CONDITIONING_BLOCK_DONE (19:R466): the SHA-256 of 1,024 raw bits that passed their tests. -/
def execConditioningBlockDone (raw : BitVec 1024) (s : State) : Out :=
  let s := s.fresh
  let e := s.ent
  if !e.source || e.startup || !s.clk.run then .next s
  else
    let b : BitVec 256 := ofBytes 256 (sha256 (toBytes raw 128))
    .next ({ s with ent := { e with blocks := (e.blocks ++ [b]).drop (e.blocks.length - 1) } } : State).evalEntropy

/-- DRBG_RESEED (19:R466). -/
def execDrbgReseed (s : State) : Out :=
  let s := s.fresh
  if s.ent.st = .ready && s.ent.source && !s.ent.startup && s.clk.run then
    .next { s with ent := { s.ent with lastReseed := s.clk.ts, requests := 0 } }
  else .next s

/-- 384 bits of DRBG output. -/
def State.draw384 (s : State) : BitVec 384 × State :=
  (List.range 6).foldl (fun (acc : BitVec 384 × State) i =>
    let (d, s) := acc.2.draw
    (acc.1 ||| (d.setWidth 384 <<< (64 * i)), s)) (0, s)

/-- SEED_REPLACE (19:R470): a parameter page update (14:R353). -/
def execSeedReplace (s : State) : Out :=
  let s := s.fresh
  if !s.ent.seedDue || !s.clk.run then .next s
  else
    let (d, s) := s.draw384
    let s : State := { s with ent := { s.ent with seedDue := false }, store := { s.store with seed := d } }
    .next (s.persist 2)

end Sys2Proof.Machine
end

