-- ==== Sys2Proof/Machine/Logs.lean ====
section
/-! DEFINITION. The store's internal operations, the CXL event logs, the fault tokens and the timestamp era
(spec/14 R345, R353-R364, 11 R285, 10 R269, 20 R486). -/

namespace Sys2Proof.Machine

open Sys2Proof

/-- The device's own operation ends with the engine (14:R345): what it writes, and what waits for it. A failing word is named by its place in the
page. -/
def State.finishInt (s : State) (o : IntOp) (image : List Word) (fail : Option Nat) : State :=
  match o with
  | .counter i v _ =>
    let (st, ok) := s.store.counterWrite i v fail
    let s : State := { s with store := st }
    (if ok then s else s.storeWordFailed (256 + i / 16) (fail.getD 0)).engineFree
  | .param k =>
    let page := s.store.intPage o
    let s : State := { s with store := s.store.paramWrite k image fail }
    (match fail with
     | some f => s.storeWordFailed page f
     | none => s).engineFree
  | .tracePreset => s.presetTraceSet.engineFree
  | .record k key install source w =>
    let (c, s) := s.applyRecord k key install source fail
    s.engineFree.answerKey w c

/-- The waiting operation that the engine would take now, an event append apart (14:R345, R346, R363). -/
def State.nextDue (s : State) : Option (IntOp × List IntOp) :=
  match s.nextInternal 0 with
  | some r => some r
  | none => match s.nextInternal 1 with
    | some r => some r
    | none => if s.appendDue then none else s.nextInternal 3

/-- An operation of a kind ends: the one that runs, or with the engine free the one that is due. -/
def State.deviceOp (s : State) (kind : IntOp → Bool) (fail : Option Nat) : State :=
  match s.store.dev with
  | some (.int o image) => if kind o then s.finishInt o image fail else s
  | some (.append _) => s
  | none => match s.nextDue with
    | some (o, rest) =>
      if kind o then
        let image := match o with
          | .param k => s.paramContent k
          | _ => []
        (s.startInt o rest).finishInt o image fail
      else s
    | none => s

/-- EVENT_LOG_APPEND (14:R362, R363): every queued record that fits in the head page. -/
def execEventLogAppend (failingWord : Option (Fin 128)) (s : State) : Out :=
  let s := s.fresh
  if !s.clk.run then .next s
  else
    let fail := failingWord.map (·.val)
    match s.store.dev with
    | some (.append n) => .next (s.appendEvents n fail).engineFree
    | some (.int _ _) => .next s
    | none => .next (if s.appendDue then (s.appendEvents s.appendCount fail).engineFree else s)

/-- A counter update or a key-slot record, the counter class but for the trace set (14:R363). -/
def IntOp.isCounter : IntOp → Bool
  | .counter _ _ _ => true
  | .record _ _ _ _ _ => true
  | _ => false
def IntOp.isParam : IntOp → Bool
  | .param _ => true
  | _ => false
def IntOp.isTracePreset : IntOp → Bool
  | .tracePreset => true
  | _ => false

/-- COUNTER_UPDATE (14:R356, R363, 19:R479, R481). -/
def execCounterUpdate (failingWord : Option (Fin 128)) (s : State) : Out :=
  let s := s.fresh
  .next (if s.clk.run then s.deviceOp IntOp.isCounter (failingWord.map (·.val)) else s)

/-- PARAM_PAGE_UPDATE (14:R353, R354). -/
def execParamPageUpdate (failingWord : Option (Fin 128)) (s : State) : Out :=
  let s := s.fresh
  .next (if s.clk.run then s.deviceOp IntOp.isParam (failingWord.map (·.val)) else s)

/-- TRACE_SAVE (14:R364, 20:R497): drain step 9 appends the ENTRY record and saves the trace, which holds it; the save is the last of
the CAUSEWAY operations. -/
def execTraceSave (failingWord : Option (Fin 256)) (s : State) : Out :=
  let s := s.fresh
  if s.md.mode = .causeway && s.drain.step == 9 && !s.drain.traceSaved && s.mayStart 0 && s.store.queue.all fun o => !(o.rank == 0) then
    let s := (s.addTrace 0x03 srcDevice (tpay [(12, 1, 1), (13, 1, s.md.cause.toNat)])).tick
    let s := s.saveTrace s.drain.count (failingWord.map (·.val))
    .next { s with drain := { s.drain with traceSaved := true } }
  else .next s

/-- TRACE_SET_PRESET (14:R364): the idle set, in the counter class. -/
def execTraceSetPreset (s : State) : Out :=
  let s := s.fresh
  .next (if s.clk.run then s.deviceOp IntOp.isTracePreset none else s)

/-- The next handle of a CXL record, never 0. -/
def nextHandle (h : BitVec 16) : BitVec 16 := if h + 1 = 0 then 1 else h + 1

/-- A record enters CXL log n, or is counted as overflowed; one that ends the log's emptiness signals the interrupt that the policy's byte for the
log enables (11:R286, R287, R289, log entry 94). -/
def State.placeRecord (s : State) (n : Nat) (r : EvRec) : State :=
  let m := s.mbox
  let l := lgetD m.logs n .empty
  if 64 ≤ l.records.length then
    let l : CxlLog := { l with overflow := true, overflowCount := satAdd l.overflowCount 1 }
    { s with mbox := { m with logs := m.logs.set n l } }
  else
    let first := l.records.isEmpty
    let l : CxlLog := { l with records := l.records ++ [(m.nextHandle, r, s.cxlTime)] }
    let s : State := { s with mbox := { m with logs := m.logs.set n l, nextHandle := nextHandle m.nextHandle } }
    let setting : Byte := m.policy.extractLsb' (8 * n) 8
    if first && !(setting &&& 3 == 0) then s.respond (.eventInterrupt n setting) else s

/-- CXL_EVENT_LOG_PLACE (11:R285-R287): the oldest mirrored record enters its log. -/
def execCxlEventLogPlace (s : State) : Out :=
  let s := s.fresh
  match s.mbox.toPlace with
  | r :: rest =>
    if !s.clk.run then .next s
    else
      let s : State := { s with mbox := { s.mbox with toPlace := rest } }
      match r.bit.bind fun b => mirrorLog b.val with
      | some n => .next (s.placeRecord n r)
      | none => .next s
  | [] => .next s

/-- FAULT_TOKEN_REFILL (10:R269): every 10 ms one token, 8 at most. -/
def execFaultTokenRefill (s : State) : Out :=
  let s := s.fresh
  .next (if s.clk.run && s.since s.cad.tokenAt (10 * msec) then
    { s with cad := { s.cad with tokens := min 8 (s.cad.tokens + 1), tokenAt := s.clk.ts } } else s)

/-- TIMESTAMP_ERA (20:R486): the cycle in which bits 47:0 of the counter pass to 0. -/
def execTimestampEra (s : State) : Out :=
  let s := s.fresh
  .next (if s.clk.run && s.ts48 == BitVec.allOnes 48 then s.tick else s)

end Sys2Proof.Machine
end

