-- ==== Sys2Proof/Machine/Recall.lean ====
section
/-! DEFINITION. Recall: the power-up groups, the epoch of every entry into RECALL, the stages and their work, the epoch to SERVICE,
holds and resumes (spec/15 R369-R380, R389, 16, 14 R351-R353, 17 R433-R435, 18 R448-R451, 19 R467-R477, 09 R238-R242). -/

namespace Sys2Proof.Machine

open Sys2Proof

/-! ### Power-up groups (15:R370, R372, R373) -/

/-- Domains of absent units: PD2 on one-port parts, PD6 without a dense tier. -/
def Part.absentDomains (p : Part) : Byte := BitVec.ofNat 8 ((if p.ports = 1 then 4 else 0) + (if p.dense then 0 else 0x40))

/-- The domains of a group that are off and may be powered: not absent, not held off. -/
def State.groupDomains (s : State) (g : Nat) : Byte :=
  let all : Byte := match g with
    | 1 => 0x08
    | 2 => 0x60
    | 3 => 0x10
    | 4 => 0x06
    | _ => 0
  all &&& ~~~(s.part.absentDomains ||| (s.pwr.portOffNow.setWidth 8 <<< 1) ||| s.pwr.on)

/-- The next group from g on that has a domain to power begins its ramp; n groups are looked at. -/
def State.powerUp (s : State) : (n g : Nat) → State
  | 0, _ => { s with pwr := { s.pwr with group := 0 } }
  | n + 1, g =>
    let d := s.groupDomains g
    if d = 0 then s.powerUp n (g + 1) else { s with pwr := { s.pwr with group := g, ramping := s.pwr.ramping ||| d } }

/-- PD3 begins its ramp: group 1. -/
def State.rampPd3 (s : State) : State := { s with pwr := { s.pwr with group := 1, ramping := s.pwr.ramping ||| 0x08 } }

/-! ### Entries into RECALL (15:R379, R380, R389, 16:R412) -/

/-- The contents of T0 and every queue bound for T1 or T2 are discarded. -/
def State.dropT0 (s : State) : State :=
  { s with
    t0 := ⟨s.t0.scratchMiB, [], [], []⟩
    t1 := { s.t1 with wq := [], rwq := [], inlineFull := false, corrections := [] }
    t2 := { s.t2 with bufs := [], moving := [], relocQ := [] }
    link := { s.link with waits := [] } }

/-- Both ports as after a reset of their link shore, with no credit. -/
def State.dropLinks (s : State) : State := { s with link := ⟨.down, .down, [], [], false, none⟩ }

/-- The entropy source at a RECALL epoch (19:R465, R467, R471). -/
def Entropy.atRecall (e : Entropy) (byReset : Bool) : Entropy :=
  if byReset then { e with st := .provisional, seededOnly := true, source := true, startup := true, blocks := [], fails := 0 }
  else if e.healthFail then
    { e with st := .restarting, ready := false, seededOnly := true, healthFail := false, source := true, startup := true, blocks := [], fails := 0 }
  else { e with source := true, startup := true }

/-- One tier's pass as its counters hold it (08:R200, 14 Table 14-6); one that was to run escalated until it completes still is (08:R198,
R199, 09:R239). -/
def State.restoreTrav (s : State) (x : Trav) (k : Nat) : Trav :=
  let p := (s.store.view k).value.toNat
  let served := (s.store.view (k + 1)).value.toNat * msec
  let start := (s.store.view (k + 2)).value.toNat * msec
  { x with pass := BitVec.ofNat 32 (p / 2 ^ 32), done := p % 2 ^ 32, served := served, passStart := start }

/-- The page from which a T2 pass goes on that has done n pages. -/
def State.pageAfter (s : State) : Nat → Nat
  | 0 => 0
  | n + 1 => match s.nextPage (s.pageAfter n) with
    | some p => p + 1
    | none => s.pageAfter n

/-- Both passes continue from their saved positions. -/
def State.restoreTraverse (s : State) : State :=
  let t2 := s.restoreTrav s.trav.t2 1539
  { s with trav := { s.trav with t1 := s.restoreTrav s.trav.t1 1536, t2 := { t2 with pos := s.pageAfter t2.done } } }

/-- Nothing waits any more for the key records still to be made: their commands' paths are gone (19:R482). -/
def IntOp.quiet : IntOp → IntOp
  | .record k key install source _ => .record k key install source .nothing
  | o => o
def Store.quiet (st : Store) : Store :=
  { st with
    queue := st.queue.map IntOp.quiet
    dev := match st.dev with
      | some (.int o image) => some (.int o.quiet image)
      | d => d }

/-- The parts of the state that every RECALL epoch starts anew: recall status, T0, links, sensors, steward, engines. -/
def State.recallClear (s : State) (byReset dormant : Bool) : State :=
  let s := s.dropT0.dropLinks
  { s with
    rcl := { s.rcl with outcome := 0, detail := 0, start := if byReset then 0 else s.clk.ts, byReset := byReset, heldStage := 0, traps := 0,
                        deferred := [], pd3Lost := false }
    comp := { s.comp with level := 1, sampled := false, belowSince := none, check := none, valid := if byReset then 0 else s.comp.valid }
    tide := { s.tide with slope := none, energy := 0, invalid := 0, gauge := 0 }
    ent := s.ent.atRecall byReset
    stew := { s.stew with run := false, restarting := false, restartTo := none, restarts := 0, xfer := none, xferAborted := s.stew.xferAborted || s.stew.xfer.isSome,
                          writing := none, staged := none, stagedAuth := false }
    t2 := { s.t2 with lz4 := List.replicate 4 (0, true), xtsOn := true, bch := List.replicate 8 true, lastReleasedTiles := 0, lastReleasedSectors := 0 }
    cad := { s.cad with loaded := false, reload := List.replicate 5 false, damage := [] }
    drain := { s.drain with step := 0, settle := 0, settleDrain := false, target := none }
    pwr := { s.pwr with portOffNow := s.pwr.portOff, down := false }
    pin := { s.pin with pfailInCauseway := false, wake := false, armed := false, musterDriven := false,
                        pfailHighSince := if s.pin.pfail then none else some s.clk.ts }
    mbox := { s.mbox with background := none, run := none }
    store := s.store.quiet
    strait := { s.strait with lastBadRecord := none, ready := if byReset || dormant then false else s.strait.ready,
                              response := if dormant then [] else s.strait.response }
    i3c := { s.i3c with addr := if dormant then none else s.i3c.addr, ibi := false, ibiSeen := 0, withdrawn := 0 } }

/-- The epoch into RECALL with its cause: 0 reset, 6 causeway return, 7 DORMANT exit. RESTRICT clears, OWNER is freed, the first stage
begins and the power-up groups after PD3 run alongside. -/
def State.recallEpoch (s : State) (cause : BitVec 4) : State :=
  let byReset : Bool := cause == 0
  let s := match s.commit with
    | some k => s.reportCommit k
    | none => s
  let s := s.cutTable.cutRelease
  let s := (s.setRestrict .clear).modeEpoch .recall cause
  let s := s.setOwner none 3 srcDevice
  let s := (s.recallClear byReset (cause == 7)).applyBudget
  let s := if byReset then s else s.restoreTraverse
  (s.beginStage (if byReset then 1 else 2)).powerUp 3 2

/-! ### Stages (16:R395, R396) -/

/-- The domains that a stage needs are powered. -/
def State.stagePowered (s : State) (n : Nat) : Bool :=
  let dies : Bool := s.pd 5 && (s.pd 6 || !s.part.dense)
  match n with
  | 2 => if s.part.dense then s.pd 6 else s.pd 5
  | 3 => s.pd 4
  | 5 => dies
  | 6 => dies
  | 7 => s.pd 7
  | _ => true

/-- The recall is in stage n and the stage can complete. -/
def State.atStage (s : State) (n : Nat) : Bool :=
  s.md.mode = .recall && s.clk.run && s.rcl.stage.toNat == n && s.stagePowered n && !s.stew.restarting && (decide (n ≤ 2) || s.stewardUp)

/-- The next stage begins in the cycle after (16:R396). -/
def State.nextStage (s : State) (n : Nat) : State := s.tick.beginStage n

/-! ### STORE (14:R351-R353, R357, 16:R399, 20:R494, R496) -/

/-- The words that the read finds damaged: true for a double error. -/
def damageWords (w : SWords) (l : List (Nat × Bool)) : SWords :=
  l.foldl (fun w (a, two) => match tget w a with
    | some x => tset w a { x with err := if two then 2 else max x.err 1 }
    | none => w) w

/-- The counters that hold a written word. -/
def writtenCounters (w : SWords) : List Nat :=
  ((w.filter fun p => decide (32768 ≤ p.1) && decide (p.1 < 65536)).map fun p => (p.1 - 32768) / 128 * 16 + p.1 % 128 / 8).dedup

/-- The recalled register fields of parameter page 0, or their factory values. -/
def State.recallFields (s : State) : State :=
  let w (i : Nat) : Word := match lgetD s.store.params 0 none with
    | some (_, b) => swVal s.store.words (paramPage 0 b * 128 + i)
    | none => match i with
      | 1 => 480
      | 2 => 168
      | 3 => BitVec.ofNat 32 (250 * 2 ^ 20 + 80 * 2 ^ 10 + 30)
      | 4 => 95
      | 5 => 49152
      | 6 => 1
      | _ => 0
  { s with
    trav := { s.trav with t1 := { s.trav.t1 with period := (w 1).setWidth 10 }, t2 := { s.trav.t2 with period := (w 2).setWidth 10 } }
    comp := { s.comp with ro := (w 3).extractLsb' 20 10, inhibit := (w 3).extractLsb' 10 10, caution := (w 3).extractLsb' 0 10,
                          warnThr := (w 4).setWidth 8 }
    tide := { s.tide with ceiling := (w 5).setWidth 20 }
    md := { s.md with musterEn := (w 6).getLsbD 0 }
    pwr := { s.pwr with portOff := (w 7).setWidth 2 &&& s.part.portOffMask } }

/-- The witness bits of page 1 and the stored seed of page 2. -/
def State.recallPages (s : State) : State :=
  let bit (i : Nat) : Bool := match lgetD s.store.params 1 none with
    | some (_, b) => (swVal s.store.words (paramPage 1 b * 128 + 1)).getLsbD i
    | none => false
  let seed : BitVec 384 := match lgetD s.store.params 2 none with
    | some (_, b) => (List.range 12).foldl (fun acc i =>
        acc ||| ((swVal s.store.words (paramPage 2 b * 128 + 1 + i)).setWidth 384 <<< (32 * i))) 0
    | none => 0
  { s with store := { s.store with witSuspect := bit 0, witExpired := bit 1, witPass := bit 2, seed := seed } }

/-- The recalled PORT_OFF holds its ports off from this recall (15:R372): a domain already powered goes off. -/
def State.applyPortOff (s : State) : State :=
  let m : Byte := s.pwr.portOff.setWidth 8 <<< 1
  let s : State := ({ s with pwr := { s.pwr with portOffNow := s.pwr.portOff } } : State).domainsOff m
  let s := if s.pwr.portOff.getLsbD 0 then s.resetPort 0 else s
  if s.pwr.portOff.getLsbD 1 then s.resetPort 1 else s

/-- Number queued records in order: the records, the next seq, and their EVENT trace records, each with its event's own stamp. -/
def numberQueue : List EvRec → Word → List EvRec × Word × List TrDraft
  | [], n => ([], n, [])
  | r :: rs, n =>
    let r' : EvRec := { r with seq := n }
    let (l, m, ts) := numberQueue rs (nextSeqOf n)
    (r' :: l, m, eventTrace n r' :: ts)

/-- The queued records take their seqs after the highest found. -/
def State.numberEvents (s : State) : State :=
  let w := s.store.words
  let first : Word := match evNewest w with
    | some (q, _) => nextSeqOf q
    | none => 1
  let (l, n, ts) := numberQueue s.elog.queue first
  { s with
    elog := { s.elog with queue := l, nextSeq := n, numbered := true, head := evHead w }
    evt := { s.evt with cyc := { s.evt.cyc with traces := s.evt.cyc.traces ++ ts } }
    mbox := { s.mbox with toPlace := s.mbox.toPlace ++ l.filter EvRec.mirrored } }

/-- ECC_UE for a DAMAGED counter or a parameter page with no valid copy (14:R352). -/
def State.storeLost (s : State) (page : Nat) : State := s.raise 3 0x22 srcDevice (pay [(16, 1, 5), (17, 2, page), (19, 1, 0xFF)])

/-- The parameter pages that have no valid copy while one of their copies holds a written word. -/
def lostParams (w : SWords) : List Nat :=
  (List.range 8).filter fun k => (paramStands w k).isNone &&
    (swAnyWritten w (paramPage k false * 128) 128 || swAnyWritten w (paramPage k true * 128) 128)

/-- Read, resolve and restore: everything the store's recall makes known. -/
def State.recallStore (s : State) (damaged : List (Nat × Bool)) : State :=
  let w := damageWords s.store.words damaged
  let views := (sortKey id (writtenCounters w)).map fun i => (i, resolveCounter w i)
  let s : State := { s with store := { s.store with words := w, views := views, params := (List.range 8).map (paramStands w), ready := true } }
  s.recallFields.recallPages.applyPortOff.restoreTraverse.applyBudget

/-- The records of the store recall: ECC_UE, BMK_DONE and POWER_ON. -/
def State.storeRecords (s : State) : State :=
  let w := s.store.words
  let bad := s.store.views.filter fun p => p.2.state == 3
  let s := bad.foldl (fun s p => s.storeLost (256 + p.1 / 16)) s
  let s := (lostParams w).foldl (fun s k => s.storeLost (8 + k)) s
  let s := s.raise 11 0x50 srcDevice (pay [(16, 2, 0xFFFF), (18, 1, 0)])
  s.note 0x02 srcDevice (pay [(16, 2, min 65535 (w.filter fun p => p.2.err == 1).length), (18, 2, min 65535 (w.filter fun p => decide (2 ≤ p.2.err)).length),
    (20, 2, bad.length), (22, 4, (s.store.view 1542).value.toNat % 2 ^ 32)])

/-- STORE_RECALL_DONE: the words found damaged, and whether a factory page is uncorrectable. -/
def execStoreRecallDone (damagedWords : List (Nat × Bool)) (factoryBad : Bool) (s : State) : Out :=
  let s := s.fresh
  if !s.atStage 1 then .next s
  else
    let s := (s.recallStore damagedWords).numberEvents.storeRecords
    let s : State := { s with ent := if s.ent.st = .provisional then { s.ent with st := .stored, seedDue := true } else { s.ent with seedDue := true } }
    let s := s.evalEntropy
    if factoryBad || s.store.words.any fun p => decide (p.1 < 1024) && decide (2 ≤ p.2.err) then .next (s.stopRecall 0x80)
    else .next (s.nextStage 2)

/-! ### BOOT (18:R448-R451, 16:R400) -/

/-- The slot and image that boot: the staged copy where one is, else the preferred slot, else the other. -/
def State.bootChoice (s : State) : Option (Bool × Image × Bool) :=
  match s.stew.staged with
  | some (b, i) => if s.stew.stagedAuth then some (b, i, false) else none
  | none =>
    let p := s.stew.preferred
    match s.bootable p with
    | some i => some (p, i, false)
    | none => (s.bootable (!p)).map fun i => (!p, i, true)

/-- The stored microcode: the lower-numbered authentic copy that accepts the stepping. -/
def State.storedUcode (s : State) : Option Bundle :=
  let ok (b : Option Bundle) : Option Bundle := b.filter fun u => u.authentic && s.accepts u.steppings
  let w := s.stew
  (ok (if w.unread.getLsbD 2 then none else w.ucode0)).or (ok (if w.unread.getLsbD 3 then none else w.ucode1))

/-- The pairing of a chosen image: PAIRING, and the microcode that runs, none for the resident one. -/
def State.pairing (s : State) (i : Image) : Nat × Option Bundle :=
  match s.storedUcode.filter fun u => s.pairs i u.ferry u.lz4 with
  | some u => (0, some u)
  | none => match s.ownBundle i with
    | some u => (1, some u)
    | none => (2, none)

/-- The steward starts from an image. -/
def State.startSteward (s : State) (slotB : Bool) (i : Image) (fallback : Bool) : State :=
  let (p, u) := s.pairing i
  let s : State := { s with stew := { s.stew with
    run := true, restarting := false, slotB := slotB, pairing := BitVec.ofNat 2 p, resident := u.isNone
    ferryVer := match u with | some b => b.ferry | none => 0
    lz4Ver := match u with | some b => if s.part.dense then b.lz4 else 0 | none => 0 } }
  let s := if fallback then s.setDetail 0 else s
  if p = 1 then s.setDetail 1
  else if p = 2 then
    let s := s.setDetail 2
    let s := s.setRestrict { s.md.restrict with versionLimited := true }
    s.raise 14 0x53 srcDevice (pay [(16, 1, p), (17, 1, bnat slotB)])
  else s

/-- One failed instance (07:R190, Table 07-11): its record, and the instance out of service. -/
def State.engineFails (s : State) (cls inst test : Nat) : State :=
  let s := s.note 0x0A (srcEngine cls inst) (pay [(16, 1, cls), (17, 1, inst), (18, 1, test)])
  match cls with
  | 3 => ({ s with t2 := { s.t2 with bch := s.t2.bch.set inst false } } : State).setDetail 3
  | 5 => ({ s with t2 := { s.t2 with lz4 := s.t2.lz4.set inst ((lgetD s.t2.lz4 inst (0, true)).1, false) } } : State).setDetail 4
  | _ => s

/-- A BCH instance passes BCH-VEC at t = 72: each vector's output is as it should be; the operand gives inverted bits of the outputs. -/
def vecPasses (l : List (Fin 3 × Nat)) : Bool := l.all fun p => p.2 % 2 ^ bchOutBits 72 == 0

/-- The test before the charter region is read (07:R191): instance 0, and where it fails instance 1. -/
def State.preBoot (s : State) (bch0 bch1 : List (Fin 3 × Nat)) : Bool × State :=
  if vecPasses bch0 then (true, s)
  else
    let s := s.engineFails 3 0 3
    if vecPasses bch1 then (true, s) else (false, s.engineFails 3 1 3)

/-- BOOT_DONE (16:R400, 18:R448): what the pre-boot test's vectors give, and the slots and microcode copies a page of which is uncorrectable. -/
def execBootDone (bch0 bch1 : List (Fin 3 × Nat)) (unread : BitVec 4) (s : State) : Out :=
  let s := s.fresh
  if !s.atStage 2 then .next s
  else
    let (ok, s) := s.preBoot bch0 bch1
    if !ok then .next (s.stopRecall 0x81)
    else
      let s : State := { s with stew := { s.stew with unread := unread } }
      match s.bootChoice with
      | none => .next (s.stopRecall 0x82)
      | some (b, i, fallback) => .next ((s.startSteward b i fallback).nextStage 3)

/-! ### SELFTEST (07:R190, 16:R401) -/

/-- Instances of a class (07 Table 07-9). -/
def Part.engines (p : Part) (cls : Nat) : Nat :=
  match cls, p with
  | 0, _ => 64
  | 1, .rbk9208 => 2
  | 1, _ => 4
  | 2, _ => 16
  | 3, _ => p.bchEngines
  | 4, .rbk9208 => 6
  | 4, _ => 7
  | _, .rbk9204 => 0
  | _, _ => 4

/-- The fault shows: the class runs the test, the part has the instance, the test has the vector, and a bit of its output is inverted. -/
def State.faultShows (s : State) (f : EngineFault) : Bool :=
  decide (f.inst.val < s.part.engines f.cls.val) && runsTest f.cls.val f.test.val && decide (f.vector < vectorCount f.test.val) &&
  !(f.wrong % 2 ^ outBits f.test.val f.vector == 0)

/-- The instances that fail, each with its first failing test in the order of Table 07-10. -/
def State.failedEngines (s : State) (l : List EngineFault) : List (Nat × Nat × Nat) :=
  let seen := l.filter s.faultShows
  (List.range 6).flatMap fun cls => (List.range (s.part.engines cls)).filterMap fun inst =>
    ((List.range 5).find? fun t => seen.any fun f => f.cls.val == cls && f.inst.val == inst && f.test.val == t).map fun t => (cls, inst, t)

/-- An instance that the pre-boot test has taken out of service is not reported again. -/
def State.engineOut (s : State) (cls inst : Nat) : Bool := cls == 3 && !lgetD s.t2.bch inst true

/-- SELFTEST_DONE (07:R188, R190, 16:R401): what the engines put out otherwise than they should. -/
def execSelftestDone (faults : List EngineFault) (s : State) : Out :=
  let s := s.fresh
  if !s.atStage 3 then .next s
  else
    let failed := s.failedEngines faults
    let s := failed.foldl (fun s x => if s.engineOut x.1 x.2.1 then s else s.engineFails x.1 x.2.1 x.2.2) s
    let bchGone := (s.t2.bch.take s.part.bchEngines).all fun b => !b
    if bchGone || failed.any (fun x => x.1 == 0 || x.1 == 1 || x.1 == 2 || x.1 == 4) then .next (s.stopRecall 0x83)
    else .next (s.nextStage 4)

/-! ### SENSE (09:R222, R223, 16:R402) -/

/-- SENSE_DONE: what each sensor's coil check changed its axes by, and the first sample. -/
def execSenseDone (c0 c1 c2 s0 s1 s2 : Axes) (s : State) : Out :=
  let s := s.fresh
  if !s.atStage 4 || !(s.ent.ready || s.ent.healthFail) then .next s
  else
    let s : State := { s with comp := { s.comp with valid := 7 } }
    let s := ((List.range 3).zip [c0, c1, c2]).foldl (fun s (n, c) => match coilFails c with
      | some a => (s.sensorFails n a).setDetail 5
      | none => s) s
    let s := s.sample [s0, s1, s2]
    let s := if s.ent.healthFail then s.setDetail 6 else s
    .next (s.nextStage 5)

/-! ### WITNESS (09:R238-R242, 16:R403) -/

/-- The present dies in the order of their counts: fast dies from 1, dense dies from 5. -/
def Part.dieList (p : Part) : List Nat := (List.range p.fastDies).map (1 + ·) ++ (List.range p.denseDies).map (5 + ·)

/-- The highest of a list of counts. -/
def highest (l : List Nat) : Nat := l.foldl max 0

/-- The cells of each present die that have changed since they were last read or written, fast dies first, change the cells held. -/
def State.flipWitness (s : State) (flipped : List (List (Fin 4096))) : State :=
  (s.part.dieList.zip flipped).foldl (fun s (d, l) =>
    { s with comp := { s.comp with wrongCells := tput 0 s.comp.wrongCells d (tgetD s.comp.wrongCells d 0 ^^^ cellMask l) } }) s

/-- The witness check (09:R238): each cell is read and compared with its pattern. -/
def State.witnessCheck (s : State) : State :=
  let counts := s.part.dieList.map fun d => (d, popcount (tgetD s.comp.wrongCells d 0))
  let f := highest ((counts.filter fun p => decide (p.1 < 5)).map (·.2))
  let d := highest ((counts.filter fun p => decide (5 ≤ p.1)).map (·.2))
  let top := max f d
  let dirty : Bool := decide (8 ≤ top)
  let lead := counts.find? fun p => p.2 == top
  let s := if dirty then s.flagHit 13 else s
  let s := counts.foldl (fun s p =>
    s.addEvent (some 13) 0x32 (srcDie p.1) (pay [(16, 2, p.2)]) (dirty && (match lead with | some q => q.1 == p.1 | none => false))) s
  let st := s.store
  let suspect : Bool := st.witSuspect || decide (8 ≤ f)
  let expired : Bool := st.witExpired || decide (64 ≤ f)
  let pass : Bool := if 64 ≤ f then false else st.witPass
  let changed : Bool := !(suspect == st.witSuspect && expired == st.witExpired && pass == st.witPass)
  let s := s.setRestrict { s.md.restrict with witnessSuspect := suspect, witnessExpired := expired }
  let t1 := if 8 ≤ f then s.trav.t1.restart true else if suspect then { s.trav.t1 with esc := true, forced := true } else s.trav.t1
  let t2 := if 8 ≤ d then s.trav.t2.restart true else s.trav.t2
  let s : State := { s with
    comp := { s.comp with witF := BitVec.ofNat 8 (min 255 f), witD := BitVec.ofNat 8 (min 255 d) }
    store := { s.store with witSuspect := suspect, witExpired := expired, witPass := pass }
    trav := { s.trav with t1 := t1, t2 := t2, passSinceExpired := expired && pass } }
  let s := if 8 ≤ f then s.setDetail 7 else s
  let s := if 8 ≤ d then s.setDetail 8 else s
  if changed then s.persist 1 else s

/-- WITNESS_CHECK_DONE. -/
def execWitnessCheckDone (flipped : List (List (Fin 4096))) (s : State) : Out :=
  let s := s.fresh
  if !s.atStage 5 then .next s else .next ((s.flipWitness flipped).witnessCheck.nextStage 6)

/-! ### RELOAD (16:R404, R405, 10:R266, 19:R477, 05:R143, 04:R125) -/

/-- Which of two copies loads: the complete and readable one with the higher generation; true for the second (01:R33, 18:R443). -/
def newestCopy (ok0 ok1 : Bool) (g0 g1 : Word) : Option Bool :=
  if ok0 && (!ok1 || decide (g1.toNat ≤ g0.toNat)) then some false else if ok1 then some true else none

def maxGen (a b : Word) : Word := if a.toNat ≤ b.toNat then b else a

/-- The highest generation of the commit pages that decode (16:R405); bit k of `bad` stands for copy k's. -/
def commitGen (bad : BitVec 2) (g0 g1 : Word) : Word :=
  maxGen (if bad.getLsbD 0 then 0 else g0) (if bad.getLsbD 1 then 0 else g1)

/-- An entry with bit n clear. -/
def clearBit (e : Entry) (n : Nat) : Entry := e &&& ~~~((1 : Entry) <<< n)

/-- ECC_UE for a table that comes up empty (16:R405; the record's kind: log entry 34). -/
def State.tableLost (s : State) (which : Nat) : State := s.raise 3 0x22 srcDevice (pay [(16, 1, 2), (17, 4, which)])

/-- Load the cadastre; after a reset its LOCK bits clear, and the persisting of the cleared copy is deferred (10:R266). `bad`, `badCommit`: the copies a page of
which, or whose commit page, is uncorrectable. -/
def State.loadCadastre (s : State) (bad badCommit : BitVec 2) : State :=
  let c := s.cad
  let lost := bad ||| badCommit
  match (newestCopy (c.copy0.complete && !lost.getLsbD 0) (c.copy1.complete && !lost.getLsbD 1) c.copy0.gen c.copy1.gen).map fun b =>
    if b then c.copy1 else c.copy0 with
  | none =>
    (({ s with cad := { c with shH := [], inH := [], shP := [], inP := [], gen := commitGen badCommit c.copy0.gen c.copy1.gen, running := false, loaded := true } } :
      State).tableLost 0).setDetail 9
  | some k =>
    let hs := if s.rcl.byReset then k.holders.map fun p => (p.1, clearBit p.2 1) else k.holders
    let ps := if s.rcl.byReset then k.parcels.map fun p => (p.1, clearBit p.2 89) else k.parcels
    let changed : Bool := !(hs == k.holders && ps == k.parcels)
    { s with
      cad := { c with shH := hs, inH := hs, shP := ps, inP := ps, gen := k.gen, running := false, loaded := true }
      rcl := { s.rcl with deferred := s.rcl.deferred ++ (if changed then [.persistCadastre] else []) } }

/-- Load the plan: its shadow copy equals it, and its header gives the scratch size (03:R83, 02:R58). -/
def State.loadPlan (s : State) (bad badCommit : BitVec 2) : State :=
  let p := s.plan
  let lost := bad ||| badCommit
  let g := commitGen badCommit p.copy0.gen p.copy1.gen
  let (s, l, g) : State × List (Nat × Entry) × Word := match
    (newestCopy (p.copy0.complete && !lost.getLsbD 0) (p.copy1.complete && !lost.getLsbD 1) p.copy0.gen p.copy1.gen).map fun b =>
      if b then p.copy1 else p.copy0 with
    | none => ((s.tableLost 1).setDetail 10, emptyPlan g, g)
    | some k => (s, k.entries, k.gen)
  { s with
    plan := { s.plan with sh := l, inf := l, gen := g }
    t0 := { s.t0 with scratchMiB := hScratch (planEntry l 0) } }

/-- What a slot's record gives: EMPTY where its segments are blank, VALID with its key, or LOST (19:R476, R477). -/
def State.unwrap (s : State) (k : Nat) : KeySlot :=
  let a := keyAddr k
  let w := s.store.words
  if !swAnyWritten w a 32 then ⟨0, 0, 0, 0, 0⟩
  else match tget s.keys.records k with
    | some (key, origin) =>
      if swAllWritten w a 32 && !swAnyBad w a 32 && swRun w a 32 == keyWords s.fuse.uniqueId k key origin && keyUsable key then ⟨1, origin, key, 0, 0⟩
      else ⟨2, 0, 0, 0, 0⟩
    | none => ⟨2, 0, 0, 0, 0⟩

/-- Unwrap every slot; each LOST one has its KEY record and sets KEY_LOST. -/
def State.loadKeys (s : State) : State :=
  if !s.part.encrypt then s
  else
    (List.range 256).foldl (fun s k =>
      let x := s.unwrap k
      if x.state = 2 then
        let s : State := { s with keys := { s.keys with slots := tput ⟨0, 0, 0, 0, 0⟩ s.keys.slots k { s.keySlot k with hits := 0 } } }
        (s.setKey k 2 0 0 3 srcDevice).setDetail 11
      else { s with keys := { s.keys with slots := tput ⟨0, 0, 0, 0, 0⟩ s.keys.slots k x } }) s

/-- The map names a piece of a page. -/
def State.namedPiece (s : State) (page : Nat) (p : Page) (x : Piece) : Bool :=
  match tget s.t2.tileMap x.tile with
  | some e =>
    if x.tail then e.page2 == some page && e.gen2 == p.img.gen
    else e.page == page && e.first == x.first && e.gen == p.img.gen
  | none => false

/-- Tile-map recovery: unreferenced pieces count as free, and pages left without a live piece wait for their preset (05:R143); the tiles of a
release record whose release cycle had not come are released (11:R295). -/
def State.recoverMap (s : State) : State :=
  if !s.part.dense then s
  else
    let s := s.t2.pages.foldl (fun s (n, p) => s.freePieces n fun x => !s.namedPiece n p x) s
    let s : State := if s.t2.toPreset.isEmpty then s else { s with rcl := { s.rcl with deferred := s.rcl.deferred ++ [.mapRecovery] } }
    match s.t2.release with
    | some r =>
      let s := if r.phase = .persisted then ((s.t2.tileMap.map (·.1)).filter (inRuns r.runs)).foldl State.zeroTile s else s
      { s with rcl := { s.rcl with deferred := s.rcl.deferred ++ [.releaseCleanup] } }
    | none => s

/-- A record for each channel that was PARKED (04:R125). -/
def State.parkedRecords (s : State) : State :=
  (List.range s.part.channels).foldl (fun s c =>
    match (s.chan c).parkedRoute with
    | some (op, leg, tile, tag) => s.note 0x13 (srcChan c) (pay [(16, 1, op.toNat), (17, 2, leg.toNat), (19, 4, tile.toNat), (23, 4, tag.toNat)])
    | none => s) s

/-- The tallies of WEAR as last persisted (08:R216). -/
def State.recallWear (s : State) : List (Nat × WearCnt) :=
  (List.range 512).foldl (fun l b =>
    let v (k : Nat) : BitVec 64 := (s.store.view (3 * b + k)).value
    tput .zero l b ⟨v 0, (v 1).extractLsb' 0 32, (v 1).extractLsb' 32 32, (v 2).extractLsb' 0 32, (v 2).extractLsb' 32 32⟩) []

/-- FCHAN, SWIN, BANKERR, FERRY_GLB and the ECC totals read zero; every channel is IDLE. -/
def State.zeroCounters (s : State) : State :=
  { s with
    ferry := ⟨List.replicate 64 .zero, 0, []⟩
    err := ⟨0, 0, 0, [], s.recallWear, []⟩
    t2 := { s.t2 with seqNo := (s.store.view 1544).value.toNat } }

/-- RELOAD's work. -/
def State.reloadAll (s : State) (unread commitUnread : BitVec 4) : State :=
  let s := ({ s with rcl := { s.rcl with deferred := [] } } : State).parkedRecords.zeroCounters
  let lo (x : BitVec 4) : BitVec 2 := x.setWidth 2
  let hi (x : BitVec 4) : BitVec 2 := x.extractLsb' 2 2
  (((s.loadCadastre (lo unread) (lo commitUnread)).loadPlan (hi unread) (hi commitUnread)).loadKeys).recoverMap

/-- RELOAD_DONE (16:R404, R405): the copies a page of which is uncorrectable, and those whose commit page is; bits 0, 1 for the cadastre's
copies and 2, 3 for the plan's. REPLAY begins unless the Compass is at READONLY (16:R406). -/
def execReloadDone (unread commitUnread : BitVec 4) (s : State) : Out :=
  let s := s.fresh
  if !s.atStage 6 || s.cad.loaded then .next s
  else
    let s := s.reloadAll unread commitUnread
    .next (if s.comp.level = 3 then s else s.tick.startReplay)

/-! ### REPLAY (16:R406, R407, 17:R433-R435, R437) -/

/-- The array writes that RELOAD deferred (16:R404): a cleared cadastre out of place, the presets of pages that no map entry names, and a
release record's cleanup. -/
def State.makeDeferred (s : State) : State :=
  let d := s.rcl.deferred
  let s : State :=
    if d.contains .persistCadastre then
      let g := s.cad.gen + 1
      ({ s with cad := { s.cad with gen := g } } : State).writeCad g s.cad.inH s.cad.inP
    else s
  let s : State := if d.contains .mapRecovery then s.t2.toPreset.foldl (fun s page => s.presetPage page ⟨0, []⟩) s else s
  let s : State := if d.contains .releaseCleanup then { s with t2 := { s.t2 with release := none } } else s
  { s with rcl := { s.rcl with deferred := [] } }

/-- FAST_LINE (17:R434): its bytes but the skip words are programmed at its home with inline verify, and the group's owed moves are made. -/
def State.replayFast (s : State) (e : DrainEntry) (line : Nat) (flips : ReadFlips) (tries : WriteTries) : State :=
  let a := (e.target - fastBase) / 64
  let (r, s) := s.readRegion line flips
  let bad := badLine r.cls
  let s := if bad then (s.custody 0x10 srcDevice e.target 0).setDetail 12 else s
  let ws := ((List.range 64).zip r.bytes).filterMap fun (i, b) => match b with
    | .skip => none
    | .poison => some (i, poisonWord (lineFold a))
    | .data d => some (i, if bad then poisonWord (lineFold a) else encByte (lineFold a) d)
  if ws.isEmpty then s
  else
    let g := a / gapN
    let s : State := { s with t1 := { s.t1 with corrections := cancelCorrections true a (drainMask r.bytes) s.t1.corrections } }
    (((s.countPrograms (some g) (s.lineBank a) 1 0).writeVerified (s.physLine a) a ws (lineFlips tries line) (lineTries tries line))).payMoves g 8

/-- DENSE_LINE (17:R434): installed into a slot charged to holder 0. -/
def State.replayDense (s : State) (e : DrainEntry) (line : Nat) (flips : ReadFlips) : State :=
  let n := (e.target - denseBase) / 64
  let (r, s) := s.readRegion line flips
  let bad := badLine r.cls
  let s := if bad then (s.custody 0x10 srcDevice e.target 0).setDetail 12 else s
  s.storeDense (n / 64) (n % 64) (drainLine r.bytes) (drainMask r.bytes) (bad || drainPoisoned r.bytes) 0 none

/-- A record's tile as its head and data lines give it: decrypted where SEALED, decoded and checked (17:R434, 05:R130, R132). -/
def State.replayOpen (s : State) (tile sectors : Nat) (head : Line) (data : List Line) : TileGot × State :=
  let r : TileRec := ⟨tile, sectors, nonzero data, BitVec.ofNat 64 (fld head 0 8),
    if fld head 8 1 / 128 = 1 then some (fld head 8 1 % 64) else none⟩
  if fld head 9 1 % 2 = 0 then (r.check 0, s)
  else
    let k : Byte := BitVec.ofNat 8 (fld head 10 1)
    match s.keyOf k with
    | none => (.lost [], s.absentHit k)
    | some key => if s.t2.xtsOn then ((r.decrypt key).check 0, s) else (.lost [0x07], s)

/-- RECORD (17:R434): all 64 lines are installed valid and dirty; a line that fails hop 0x10, or a check that fails, poisons them all. -/
def State.replayRecord (s : State) (e : DrainEntry) (lines : List Nat) (flips : ReadFlips) : State :=
  let tile := e.target % 2 ^ 32
  let (rs, s) := s.readLines flips lines
  let s := (rs.filter fun r => badLine r.cls).foldl (fun s _ => s.custodyTile 0x10 srcDevice tile 0) s
  let (got, s) : TileGot × State := match rs.mapM RegionRead.plain with
    | some (h :: ds) => s.replayOpen tile (e.target / 2 ^ 32) h ds
    | _ => (.lost [], s)
  let s := got.hops.foldl (fun s h => s.custodyTile h srcDevice tile 0) s
  let fails : Bool := !(got.failed = 0)
  let s := if fails then s.setDetail 12 else s
  (List.range 64).foldl (fun s i =>
    let p : Bool := fails || got.stored.getLsbD i
    s.storeDense tile i (if p then 0 else tgetD got.lines i 0) allOnes p 0 none) s

/-- Apply the entries in order; the number is the fuel. -/
def State.replayEntries (s : State) (flips : ReadFlips) (tries : WriteTries) : Nat → List (DrainEntry × Nat) → State
  | 0, _ => s
  | _, [] => s
  | n + 1, (e, line) :: rest =>
    if e.kind = kFast then (s.replayFast e line flips tries).replayEntries flips tries n rest
    else if e.kind = kDense then (s.replayDense e line flips).replayEntries flips tries n rest
    else if e.kind = kHead then
      let k := 8 * (e.target / 2 ^ 32)
      (s.replayRecord e (line :: (rest.take k).map (·.2)) flips).replayEntries flips tries n (rest.drop k)
    else s.replayEntries flips tries n rest

/-- Causeway replay (17:R433, 16:R406): the half and sequence of the record to retire, where one was replayed. -/
def State.causewayReplay (s : State) (flips : ReadFlips) (tries : WriteTries) : Option (Bool × Nat) × State :=
  let (found, s) := s.findRecord flips
  match found with
  | .nothing => (none, s)
  | .lost q => (none, ((s.flagHit 3).note 0x27 srcDevice (pay [(16, 1, 0), (17, 4, q % 2 ^ 32)])).setDetail 13)
  | .record b q maxLevel l =>
    let s := s.replayEntries flips tries l.length l
    (some (b, q), if maxLevel = 3 then s.note 0x27 srcDevice (pay [(16, 1, 1), (17, 4, q % 2 ^ 32)]) else s)

/-- Credits and Memory_Active at epoch step 3 (16:R408, R411): every trained CXL.mem port is given its credits. -/
def State.openLinks (s : State) : State :=
  let s : State := { s with link := { s.link with memActive := true } }
  ([0, 1] : List Port).foldl (fun s p => if (s.port p).trained && (s.port p).memOn then s.advertise p else s) s

/-- RECALL_TIME in microseconds (16:R397, R398); on an entry by reset the time before PLL lock is a free value. -/
def State.recallUs (s : State) : Nat :=
  let t := (s.now - s.rcl.start.toNat) / usec
  if s.rcl.byReset then t + Config.powerUs s.free else t

/-- The epoch RECALL to SERVICE and what follows in its cycle. -/
def State.serviceEpoch (s : State) (replayed : Option (Bool × Nat)) (flips : List (Fin 64 × Fin 13)) (tries : Tries) : State :=
  let s := s.modeEpoch .service 1
  let us := min (2 ^ 32 - 1) s.recallUs
  let s : State := { s.bumpFree with
    rcl := { s.rcl with stage := 8, outcome := 1, timeUs := BitVec.ofNat 32 us }
    cad := { s.cad with tokens := 8, tokenAt := s.clk.ts }
    mbox := { s.mbox with logs := List.replicate 4 .empty, toPlace := [] } }
  let s := s.note 0x06 srcDevice (pay [(16, 4, (s.reg 0x260).toNat), (20, 4, us)])
  let s := s.setOwner none 3 srcDevice
  let s := match replayed with
    | some (b, q) => s.retire b q flips tries
    | none => s
  let s := s.queueCounter 1542 ((s.store.view 1542).value.toNat + 1)
  let s : State := { s with store := { s.store with queue := s.store.queue ++ [.tracePreset] } }
  (s.openLinks.showPorts.evalFieldRo.evalCapacity).evalCredits

/-- REPLAY_DONE: the bits of region lines that read inverted, the bytes that the programs of fast lines leave wrong, by the region line of their
entry, and those that the retire mark's program leaves wrong. -/
def execReplayDone (flips : ReadFlips) (tries : WriteTries) (retireFlips : List (Fin 64 × Fin 13)) (retireTries : Tries) (s : State) : Out :=
  let s := s.fresh
  if !s.atStage 7 then .next s
  else
    let (r, s) := s.makeDeferred.causewayReplay flips tries
    .next (s.tick.serviceEpoch r retireFlips retireTries)

/-! ### Holds (16:R414, R415) -/

/-- RECALL_RESUME: with PD3 kept, 50 us after PFAIL_N is deasserted, the interrupted stage begins again, REPLAY not while the Compass is at
READONLY (09 Table 09-9); after a loss of PD3, STORE or BOOT
begins once PD3 is back. -/
def execRecallResume (s : State) : Out :=
  let s := s.fresh
  if !(s.md.mode = .recall && s.rcl.stage = 9 && s.clk.run && !s.pin.pfail) then .next s
  else if s.rcl.pd3Lost then
    let s : State := { s with rcl := { s.rcl with pd3Lost := false } }
    .next ((s.beginStage (if s.store.ready then 2 else 1)).powerUp 3 2)
  else match s.pin.pfailHighSince with
    | some t =>
      if !s.since t (50 * usec) then .next s
      else if s.rcl.heldStage = 7 then .next (if s.comp.level = 3 then s else s.startReplay)
      else .next (({ s with cad := { s.cad with loaded := false } } : State).beginStage s.rcl.heldStage.toNat)
    | none => .next s

/-! ### Supplies (15:R392) -/

/-- Every main supply is good, and VAON. -/
def State.suppliesGood (s : State) : Bool := s.pwr.vaon && s.pwr.vdd && s.pwr.vddm && s.pwr.vpp && s.pwr.vdda && s.pwr.vddio

/-- CCLK stops with PD3, outside DORMANT: the cycle's records are kept, the links and T0 are lost. -/
def State.losePd3 (s : State) : State :=
  let s := ((if s.clk.run then s.endCycle else s).dropT0.dropLinks).domainsOff 0xFE
  { s with
    pwr := { s.pwr with group := 0 }
    clk := { s.clk with run := false }
    strait := { s.strait with ready := false }
    stew := { s.stew with run := false, restarting := false, restartTo := none, xfer := none, xferAborted := s.stew.xferAborted || s.stew.xfer.isSome,
                          writing := none, staged := none, stagedAuth := false }
    cad := { s.cad with loaded := false } }

/-- A loss of PD3 in RECALL holds the recall until PD3 is back (16:R414, R415). -/
def State.loseRecall (s : State) : State :=
  if s.md.mode = .recall && !(s.rcl.stage = 0) && !(s.rcl.stage = 15) then
    let s : State := if s.rcl.stage = 9 then s else s.holdRecall
    { s with rcl := { s.rcl with pd3Lost := true } }
  else s

end Sys2Proof.Machine
end

