-- ==== Sys2Proof/Machine/Drain.lean ====
section
/-! DEFINITION. The drain of a causeway, the DRAIN record, the DORMANT settle phase and the power-down (spec/17 R426-R432, 15 R374,
R377, R381-R385). -/

namespace Sys2Proof.Machine

open Sys2Proof

/-! ### What the steps share -/

/-- MUSTER is released. -/
def State.releaseMuster (s : State) : State := { s with pin := { s.pin with musterDriven := false, musterReleased := some s.clk.ts } }

/-- The witness cells of every present die are written; `left` holds the cells left wrong, fast dies first (09:R237). -/
def State.writeWitness (s : State) (left : List (List (Fin 4096))) : State :=
  let f := left.take s.part.fastDies
  let d := (left.drop s.part.fastDies).take s.part.denseDies
  let s := (s.witnessWritten 1 s.part.fastDies f).witnessWritten 5 s.part.denseDies d
  { s with drain := { s.drain with witnessShort := s.drain.witnessShort || (f ++ d).any fun l => !l.isEmpty } }

/-! ### The drain of a causeway (17:R427, Table 17-3) -/

/-- The causeway's drain is in step n; while the steward restarts, the step in progress waits (18 Table 18-4). -/
def State.atDrain (s : State) (n : Nat) : Bool := s.md.mode = .causeway && s.clk.run && s.drain.step == n && !s.stew.restarting

/-- A channel parks at port close, where it has not parked yet; a transfer still in flight is abandoned (04 Table 04-15, R124). -/
def State.parkChan (s : State) (c : Nat) : State :=
  let x := s.chan c
  if x.state.active || x.state = .aborting then
    s.setChan c { x.landed with state := .parked, stall := 0, halt := 0, stallSince := none, stallTold := false,
                                parkedRoute := some (x.op, x.leg, x.tile, x.tag) }
  else s

/-- CAUSEWAY_PORT_CLOSE: steps 2 and 3. -/
def execCausewayPortClose (s : State) : Out :=
  let s := s.fresh
  if !s.atDrain 2 then .next s
  else
    let s := (List.range s.part.channels).foldl State.parkChan s
    let s := (s.dropLinks).domainsOff 0x06
    let kib := BitVec.ofNat 32 ((s.dirtyBytes + 1023) / 1024)
    let s : State := { s with drain := { s.drain with step := 4, dirtyKiB := kib } }
    .next s.startRecord

/-- DRAIN_COPY_DONE: the bits that copied lines read inverted, the lines counted from 0 in the order of 17:R429, and the bytes that the programs
of region lines leave wrong, the lines counted from the half's first. -/
def execDrainCopyDone (flips : ReadFlips) (tries : WriteTries) (s : State) : Out :=
  let s := s.fresh
  if !s.atDrain 4 then .next s
  else
    let s := s.copyRecord flips tries
    .next { s with drain := { s.drain with step := 5 } }

/-- DRAIN_VERIFY_DONE: every recent-write entry is verified. -/
def execDrainVerifyDone (s : State) : Out :=
  let s := s.fresh
  .next (if s.atDrain 5 && s.t1.rwq.isEmpty then { s with drain := { s.drain with step := 6 } } else s)

/-- DRAIN_WITNESS_DONE. -/
def execDrainWitnessDone (left : List (List (Fin 4096))) (s : State) : Out :=
  let s := s.fresh
  if !s.atDrain 6 then .next s
  else
    let s := s.writeWitness left
    .next { s with drain := { s.drain with step := 7 } }

/-- DRAIN_COMPLETE_MARK: the bytes that the mark's program leaves wrong. -/
def execDrainCompleteMark (flips : List (Fin 64 × Fin 13)) (tries : Tries) (s : State) : Out :=
  let s := s.fresh
  if !s.atDrain 7 then .next s
  else
    let s := s.completeRecord flips tries
    .next { s with drain := { s.drain with step := 8 } }

/-- DRAIN_PD7_OFF. -/
def execDrainPd7Off (s : State) : Out :=
  let s := s.fresh
  if !s.atDrain 8 then .next s
  else
    let s := (s.domainsOff 0x80).releaseMuster
    .next { s with drain := { s.drain with step := 9 } }

/-- No CAUSEWAY operation of the store is left. -/
def State.causewayOpsDone (s : State) : Bool := !s.store.busy && s.store.queue.all fun o => !(o.rank == 0)

/-- The causeway ends: RECALL where PFAIL_N was asserted during it and was deasserted when the drain completed, which step 10 records; else
DORMANT and its power-down (15:R377, 17:R427). PFAIL_N asserted again after that completion holds the recall from its start (16:R414, log
entry 29). -/
def State.endCauseway (s : State) : State :=
  let s := match s.commit with
    | some k => s.reportCommit k
    | none => s
  let s := s.tick
  if s.drain.step = 10 && s.pin.pfailInCauseway then
    let s := s.recallEpoch 6
    let s := if s.suppliesGood then s else s.losePd3.loseRecall
    if s.pin.pfail && !(s.rcl.stage = 9) then s.holdRecall else s
  else
    let s := s.modeEpoch .dormant 5
    { s with
      drain := { s.drain with step := 0, settle := 7, settleDrain := false }
      pwr := { s.pwr with down := true }
      pin := { s.pin with pfailSinceDormant := s.pin.pfail, pfailLatched := false, musterLatched := false, wake := false, armed := false } }

/-- DRAIN_COMPLETE (17:R427, R428): with PFAIL_N deasserted, WEAR is persisted before the next epoch. -/
def execDrainComplete (s : State) : Out :=
  let s := s.fresh
  if s.atDrain 9 then
    if !(s.drain.traceSaved && s.causewayOpsDone) then .next s
    else if s.pin.pfail then .next s.endCauseway
    else
      let s := s.saveWear true
      .next { s with drain := { s.drain with step := 10 } }
  else if s.atDrain 10 && s.causewayOpsDone then .next s.endCauseway
  else .next s

/-! ### The settle phase (15:R381-R384) -/

/-- The settle phase is in step n; while the steward restarts, the step in progress waits (18 Table 18-4). -/
def State.atSettle (s : State) (n : Nat) : Bool := s.md.mode = .dormant && s.clk.run && s.drain.settle == n && !s.stew.restarting

def State.setSettle (s : State) (n : Nat) : State := { s with drain := { s.drain with settle := n } }

/-- SETTLE_WRITES_DONE: every accepted write is complete; the relocation queue is discarded. -/
def execSettleWritesDone (s : State) : Out :=
  let s := s.fresh
  if s.atSettle 1 && s.t1.wq.isEmpty && s.t0.stores.isEmpty then
    .next (({ s with t2 := { s.t2 with relocQ := [] } } : State).setSettle 2)
  else .next s

/-- SETTLE_WRITEBACK_DONE: nothing is dirty, no buffer holds an image and no write-back is in flight. -/
def execSettleWritebackDone (s : State) : Out :=
  let s := s.fresh
  if s.atSettle 2 && !s.drain.settleDrain && s.t2.moving.isEmpty && s.t2.bufs.isEmpty && s.t0.pool.all (fun x => x.dirty = 0 && x.wb.isNone) then
    .next (s.setSettle 3)
  else .next s

/-- The record of a drain that replaces settle step 2, whole (15:R383); the complete mark is the half's line 1. -/
def State.settleRecord (s : State) (flips : ReadFlips) (tries : WriteTries) : State :=
  (s.startRecord.copyRecord flips tries).completeRecord (lineFlips tries 1) (lineTries tries 1)

/-- SETTLE_DRAIN_DONE (15:R383): the drain that replaces step 2, with its complete mark; MUSTER is released. -/
def execSettleDrainDone (flips : ReadFlips) (tries : WriteTries) (s : State) : Out :=
  let s := s.fresh
  if s.atSettle 2 && s.drain.settleDrain then .next (((s.settleRecord flips tries).releaseMuster).setSettle 3) else .next s

/-- SETTLE_VERIFY_DONE: the verify lane is empty; the traverse positions and WEAR are saved next (08:R200, R216). -/
def execSettleVerifyDone (s : State) : Out :=
  let s := s.fresh
  if s.atSettle 3 && s.t1.rwq.isEmpty then .next (((s.saveTraverse false).saveWear false).setSettle 4) else .next s

/-- SETTLE_SAVE_DONE: no counter update is left. -/
def execSettleSaveDone (s : State) : Out :=
  let s := s.fresh
  if s.atSettle 4 && !s.store.busy && s.store.queue.all (fun o => decide (2 ≤ o.rank)) then .next (s.setSettle 5) else .next s

/-- SETTLE_WITNESS_DONE: the witness cells are written; the entry marker follows. -/
def execSettleWitnessDone (left : List (List (Fin 4096))) (s : State) : Out :=
  let s := s.fresh
  if s.atSettle 5 then
    .next (((s.writeWitness left).addTrace 0x03 srcDevice (tpay [(12, 1, 0), (13, 1, s.md.cause.toNat)])).setSettle 6)
  else .next s

/-- SETTLE_MARKER_DONE: the store's queues are empty; the power-down begins with PD7 (15:R374). -/
def execSettleMarkerDone (s : State) : Out :=
  let s := s.fresh
  if s.atSettle 6 && !s.store.busy && s.store.queue.isEmpty && s.elog.queue.isEmpty && s.evt.cyc.events.isEmpty then
    let s := (s.domainsOff 0x80).setSettle 7
    .next { s with pwr := { s.pwr with down := true } }
  else .next s

/-- POWER_DOWN_DONE (15:R374, R385): PD1 to PD7 are off, CCLK stops, the AON tick counter clears and the wake detector is armed. -/
def execPowerDownDone (s : State) : Out :=
  let s := s.fresh
  if !(s.atSettle 7 && s.pwr.down) then .next s
  else
    let s := (s.endCycle.dropLinks).domainsOff 0xFE
    .next { s with
      clk := { s.clk with run := false, aon := 0 }
      pwr := { s.pwr with down := false, group := 0 }
      pin := { s.pin with armed := true }
      strait := { s.strait with ready := false }
      stew := { s.stew with run := false, restarting := false, restartTo := none }
      drain := { s.drain with settle := 0 } }

end Sys2Proof.Machine
end

