-- ==== Sys2Proof/Machine/Power.lean ====
section
/-! DEFINITION. Power-on, straps, supplies, domain ramps, PLL lock, loss of VAON, the control pins and the wake from DORMANT
(spec/15 R369-R374, R385-R392, 17 R418-R420, 21 R505-R514, 20 R487). -/

namespace Sys2Proof.Machine

open Sys2Proof

/-! ### Supplies and domains -/

/-- DORMANT with CCLK stopped. -/
def State.asleep (s : State) : Bool := s.md.mode = .dormant && !s.clk.run

/-- PD3 may be powered: a reset's recall has not begun, a recall waits for it, or a wake is accepted (15:R373, R386, 16:R415, 21:R514). -/
def State.wantsPd3 (s : State) : Bool :=
  !s.strap.scanmode && ((s.md.mode = .recall && !(s.rcl.stage = 15)) || (s.asleep && s.pin.wake))

/-- PD3 begins its ramp where it is wanted and every supply is good. -/
def State.tryPd3 (s : State) : State :=
  if s.suppliesGood && s.wantsPd3 && !s.pd 3 && !s.pwr.ramping.getLsbD 3 then s.rampPd3 else s

/-- PD0_POWER_ON (15:R369, R391): VAON passes its power-good threshold. -/
def execPd0PowerOn (s : State) : Out :=
  let s := s.fresh
  if s.pwr.vaon then .next s
  else .next ({ s with pwr := { s.pwr with vaon := true, on := 1 } } : State).tryPd3

/-- STRAP_LATCH (21:R508, R514): once after power-on; boundary-scan mode powers nothing. -/
def execStrapLatch (msel scanmode : Bool) (saddr : BitVec 3) (s : State) : Out :=
  let s := s.fresh
  if !s.pwr.vaon || s.strap.latched then .next s
  else
    let s : State := { s with strap := ⟨true, msel, scanmode, saddr⟩ }
    .next (if scanmode then { s with pwr := { s.pwr with on := 1, ramping := 0, group := 0 } } else s)

/-- SUPPLIES_GOOD (15:R386, R392): the detectors of the five main supplies report good. -/
def execSuppliesGood (s : State) : Out :=
  let s := s.fresh
  .next ({ s with pwr := { s.pwr with vdd := true, vddm := true, vpp := true, vdda := true, vddio := true } } : State).tryPd3

/-- SUPPLY_NOT_GOOD (15:R392): the domains are held off, but in a causeway and after a settle nothing is switched. -/
def execSupplyNotGood (supply : Supply) (s : State) : Out :=
  let s := s.fresh
  let p := s.pwr
  let p : Power := match supply with
    | .vdd => { p with vdd := false }
    | .vddm => { p with vddm := false }
    | .vpp => { p with vpp := false }
    | .vdda => { p with vdda := false }
    | .vddio => { p with vddio := false }
  let s : State := { s with pwr := p }
  if s.md.mode = .causeway || (s.md.mode = .dormant && s.clk.run && s.drain.settle == 7) then .next s
  else if !s.pd 3 && s.pwr.ramping = 0 then .next s
  else .next s.losePd3.loseRecall

/-- DOMAIN_RAMP_DONE (15:R371, R373): the domain is on; the next group begins when its group is. -/
def execDomainRampDone (domain : Fin 8) (s : State) : Out :=
  let s := s.fresh
  if !s.pwr.ramping.getLsbD domain.val then .next s
  else
    let m : Byte := 1 <<< domain.val
    let s : State := { s with pwr := { s.pwr with on := s.pwr.on ||| m, ramping := s.pwr.ramping &&& ~~~m } }
    let g := s.pwr.group
    if 2 ≤ g && s.groupDomains g = 0 then .next (s.powerUp (4 - g) (g + 1)) else .next s

/-! ### The control pins (17:R418-R420, 15:R385, 16:R414, R416) -/

/-- PFAIL_SEEN with its record. -/
def State.pfailSeen (s : State) : State := s.raise 18 0x38 srcDevice (pay [(16, 1, s.md.mode.code)])
/-- MUSTER_SEEN with its record. -/
def State.musterSeen (s : State) : State := s.raise 19 0x39 srcDevice (pay [(16, 1, s.md.mode.code)])

/-- An assertion or a fall latched while CCLK stood is seen when it runs (15:R385). -/
def State.latchedPins (s : State) : State :=
  let s := if s.pin.pfailLatched then s.pfailSeen else s
  let s := if s.pin.musterLatched then s.musterSeen else s
  { s with pin := { s.pin with pfailLatched := false, musterLatched := false } }

/-! ### PLL lock (01:R23, 15:R376, R387) -/

/-- The estimated advance in cycles (20:R487): 48,828.125 a tick. -/
def advanceOf (ticks : Nat) : Nat := ticks * 390625 / 8

/-- The cycle of a DORMANT exit: the counter advances, GAP is written, and ERA for each passage of bits 47:0 through 0. -/
def State.wakeClock (s : State) : State :=
  let ticks := s.clk.aon.toNat
  let adv := advanceOf ticks
  let old := s.now
  let s : State := { s with clk := { s.clk with run := true, estimated := true, ts := BitVec.ofNat 64 (old + adv) } }
  let s := s.addTrace 0x04 srcDevice (tpay [(12, 5, ticks), (17, 8, adv)])
  (List.range ((old + adv) / 2 ^ 48 - old / 2 ^ 48)).foldl (fun s i =>
    let hi := (old / 2 ^ 48 + 1 + i) % 2 ^ 16
    (s.note 0x07 srcDevice (pay [(16, 2, hi)])).addTrace 0x05 srcDevice (tpay [(12, 2, hi)])) s

/-- In I3C mode a DORMANT exit is a reason to request Hot-Join (12:R312, R324). -/
def State.reHotJoin (s : State) : State := if s.strap.msel then { s with i3c := { s.i3c with hotJoin := some s.clk.ts } } else s

/-- PLL_LOCK: CCLK runs. After a reset and on a DORMANT exit this is the RECALL epoch. -/
def execPllLock (s : State) : Out :=
  let s := s.fresh
  if !s.pd 3 || s.clk.run || !s.strap.latched || s.strap.scanmode then .next s
  else match s.md.mode with
    | .dormant => .next (s.wakeClock.latchedPins.recallEpoch 7).reHotJoin.holdIfPfail
    | .recall =>
      let s : State := { s with clk := { s.clk with run := true } }
      if s.rcl.stage = 0 then .next (s.latchedPins.recallEpoch 0).holdIfPfail else .next s.latchedPins
    | _ => .next s

/-! ### PFAIL_N -/

/-- PFAIL_N is seen asserted with CCLK running (17:R418); its causeway prevails over a request of the same cycle (01:R44). -/
def State.pfailRuns (s : State) : State :=
  let s := s.pfailSeen
  match s.requestNow with
  | some r => s.prevail r 2
  | none => match s.md.mode with
    | .service => s.enterCauseway 2
    | .causeway =>
      let q := if s.drain.step = 10 then s.store.queue.filter (fun o => !(o.rank == 0)) else s.store.queue
      { s with pin := { s.pin with pfailInCauseway := true }, store := { s.store with queue := q } }
    | .dormant => ({ s with pin := { s.pin with pfailSinceDormant := true } } : State).startSettleDrain
    | .recall => s.holdRecall

/-- PFAIL_N_ASSERT. -/
def execPfailNAssert (s : State) : Out :=
  let s := s.fresh
  if !s.pwr.vaon || s.strap.scanmode || s.pin.pfail then .next s
  else
    let s : State := { s with pin := { s.pin with pfail := true, pfailHighSince := none } }
    if s.clk.run then .next s.pfailRuns
    else .next { s with pin := { s.pin with pfailLatched := true, pfailSinceDormant := s.pin.pfailSinceDormant || s.asleep } }

/-- PFAIL_N_DEASSERT. -/
def execPfailNDeassert (s : State) : Out :=
  let s := s.fresh
  if !s.pwr.vaon || s.strap.scanmode || !s.pin.pfail then .next s
  else .next { s with pin := { s.pin with pfail := false, pfailHighSince := some s.clk.ts } }

/-! ### MUSTER -/

/-- The device does not drive MUSTER and has not released it within 2 us. -/
def State.musterCounts (s : State) : Bool :=
  !s.pin.musterDriven && (match s.pin.musterReleased with
    | some t => !s.clk.run || s.since t (2 * usec)
    | none => true)

/-- MUSTER_FALL (17:R420). -/
def execMusterFall (s : State) : Out :=
  let s := s.fresh
  if !s.pwr.vaon || s.strap.scanmode || !s.musterCounts then .next s
  else if !s.clk.run then .next { s with pin := { s.pin with musterLatched := true } }
  else
    let s := s.musterSeen
    if !s.md.musterEn then .next s
    else match s.requestNow with
      | some r => .next (s.prevail r 3)
      | none => match s.md.mode with
        | .service => .next (s.enterCauseway 3)
        | .dormant => .next s.startSettleDrain
        | _ => .next s

/-! ### Wake (15:R385, R386) -/

/-- DORMANT_WAKE: the detector accepts a source; PD3 ramps when every supply is good. -/
def execDormantWake (source : WakeSource) (s : State) : Out :=
  let s := s.fresh
  let ok : Bool := match source with
    | .wakeN => true
    | .pfailDeasserted => s.pin.pfailSinceDormant && !s.pin.pfail
  if s.asleep && s.pin.armed && ok then .next ({ s with pin := { s.pin with wake := true } } : State).tryPd3 else .next s

/-! ### Loss of VAON (00:R19, 14:R350, 15:R386) -/

/-- A run of words: the first and how many. -/
abbrev SRun := Nat × Nat

/-- The words that a counter update presets and programs. -/
def Store.counterRun (st : Store) (i : Nat) : SRun := (slotAddr i (if (st.view i).state = 1 then 1 else 0), 4)

/-- The words that a warden's operation presets or programs. -/
def Store.opRun (st : Store) : StoreOp → SRun
  | .pageProgram p _ => (p * 128, 128)
  | .autoPreset p _ => (p * 128, 128)
  | .pagePreset p => (p * 128, 128)
  | .mcount i _ _ => st.counterRun i
  | _ => (0, 0)

/-- The words that one of the device's own operations presets or programs. -/
def State.devRun (s : State) : DevOp → SRun
  | .append n =>
    let h := s.elog.head
    (16384 + h * 8, if h % 16 = 0 then 128 else n * 8)
  | .int (.counter i _ _) _ => s.store.counterRun i
  | .int (.param k) _ => (s.store.intPage (.param k) * 128, 128)
  | .int .tracePreset _ => (s.store.intPage .tracePreset * 128, 256)
  | .int (.record k _ _ _ _) _ => (keyAddr k, 32)

/-- What an interrupted word reads as: old, blank, new or DATA_ERROR. -/
def interrupt (n : Nat) (old new w : SWords) (a : Nat) : SWords :=
  let put (x : Option SWord) : SWords := match x with
    | some v => tset w a v
    | none => tdel w a
  match Config.interruptedWord n a with
  | 0 => put (tget old a)
  | 1 => tdel w a
  | 2 => put (tget new a)
  | _ => tset w a ⟨swVal new a, 2⟩

/-- The words of a run that an operation would have changed, interrupted; `kept` says that a word holding its old value is not touched, as in a
program that presets nothing. -/
def cutRun (n : Nat) (old new : SWords) (r : SRun) (kept : Bool) : SWords :=
  let hit (a : Nat) : Bool := !(swBlank old a && swBlank new a) && !(kept && tget old a == tget new a)
  (((List.range r.2).map (r.1 + ·)).filter hit).foldl (interrupt n old new) old

/-- The store and the key records as an interruption leaves them (14:R350). A record that is whole is its key's. -/
def State.storeCut (s : State) : SWords × List (Nat × BitVec 512 × Byte) :=
  let old := s.store.words
  match s.store.op, s.store.dev with
  | some (op, _), _ =>
    let kept : Bool := match op with
      | .pageProgram _ _ => true
      | _ => false
    (cutRun s.free old (s.applyOp op none).1.store.words (s.store.opRun op) kept, s.keys.records)
  | none, some d =>
    let done : State := match d with
      | .append n => s.appendEvents n none
      | .int o image => s.finishInt o image none
    let w := cutRun s.free old done.store.words (s.devRun d) false
    match d with
    | .int (.record k (some (key, origin)) _ _ _) _ =>
      (w, if swRun w (keyAddr k) 32 = keyWords s.fuse.uniqueId k key origin then tset s.keys.records k (key, origin) else s.keys.records)
    | _ => (w, s.keys.records)
  | none, none => (old, s.keys.records)

/-- The charter copies after a commit was cut in its persistence: the copy being written is not complete (01:R33, 18:R443). -/
def State.cutCopies (s : State) : (CadCopy × CadCopy) × (PlanCopy × PlanCopy) :=
  let c := s.cad
  let p := s.plan
  let persisting (isPlan : Bool) : Bool := match s.commit with
    | some k => k.phase = .persisting && k.isPlan == isPlan
    | none => false
  let cads := if !persisting false then (c.copy0, c.copy1)
    else if writeSecond c.copy0.complete c.copy1.complete c.copy0.gen c.copy1.gen then (c.copy0, { c.copy1 with complete := false })
    else ({ c.copy0 with complete := false }, c.copy1)
  let plans := if !persisting true then (p.copy0, p.copy1)
    else if writeSecond p.copy0.complete p.copy1.complete p.copy0.gen p.copy1.gen then (p.copy0, { p.copy1 with complete := false })
    else ({ p.copy0 with complete := false }, p.copy1)
  (cads, plans)

/-- The causeway region; a settle drain cut short leaves an incomplete record. -/
def State.cutRegion (s : State) : List (Nat × BitVec 832) :=
  (if s.md.mode = .dormant && s.clk.run && s.drain.settleDrain && s.drain.settle == 2 then s.startRecord else s).drain.region

/-- Everything without VAON: the arrays, the charter, the benchmark store and the fuses keep what they hold. -/
def State.powerLost (s : State) : State :=
  let z := State.reset
  let ((c0, c1), (p0, p1)) := s.cutCopies
  let (words, records) := s.storeCut
  { z with
    fuse := s.fuse
    pwr := { s.pwr with vaon := false, on := 0, group := 0, ramping := 0, down := false, portOff := 0, lock := false, portOffNow := 0 }
    pin := { z.pin with pfail := s.pin.pfail, pfailLatched := s.pin.pfail }
    cad := { z.cad with copy0 := c0, copy1 := c1 }
    plan := { z.plan with copy0 := p0, copy1 := p1 }
    t1 := { z.t1 with cells := s.t1.cells, groups := s.t1.groups }
    t2 := { z.t2 with
      tileMap := s.t2.tileMap, pages := s.t2.pages, charter := s.t2.charter, left := s.t2.left, regions := s.t2.regions, toPreset := s.t2.toPreset
      release := match s.t2.release with
        | some r => if r.phase = .prepare then none else some r
        | none => none }
    store := { z.store with words := words }
    keys := { z.keys with records := records }
    comp := { z.comp with wrongCells := s.comp.wrongCells }
    stew := { z.stew with imgA := if s.stew.writing = some false then none else s.stew.imgA
                          imgB := if s.stew.writing = some true then none else s.stew.imgB
                          ucode0 := s.stew.ucode0, ucode1 := s.stew.ucode1, boot0 := s.stew.boot0, boot1 := s.stew.boot1 }
    drain := { z.drain with region := s.cutRegion }
    free := s.free + 1
    pending := s.pending }

/-- VAON_LOSS. -/
def execVaonLoss (s : State) : Out :=
  let s := s.fresh
  .next (if s.pwr.vaon then s.powerLost else s)

end Sys2Proof.Machine
end

