-- ==== Sys2Proof/Machine/Jtag.lean ====
section
/-! DEFINITION. The TAP and boundary scan (spec/21 R510, R514-R516). It is powered from VAON and runs on TCK. -/

namespace Sys2Proof.Machine

open Sys2Proof

/-- The register that an instruction selects: 0 bypass, 1 IDCODE, 2 boundary scan. -/
def State.tapSelect (s : State) (ir : Nat) : Nat :=
  match ir with
  | 0 => if s.strap.scanmode then 2 else 0
  | 1 => 2
  | 2 => 1
  | _ => 0

/-- Load an instruction: it drives the outputs from the boundary cells, or floats them, only in boundary-scan mode (21 Table 21-6). -/
def State.loadIr (s : State) (ir : Nat) : State :=
  { s with jtag := { s.jtag with ir := BitVec.ofNat 4 ir, drive := s.strap.scanmode && (ir == 0 || ir == 3), float := s.strap.scanmode && ir == 4 } }

/-- A ball under its cells: an open-drain ball is driven low where its control cell is 1 and its data cell 0, another takes its data cell's level
where its control cell is 1 (21:R516). -/
def cellBall (bsr : BitVec 18) (data : Nat) (openDrain : Bool) : Ball :=
  if !bsr.getLsbD (data + 1) then .floats
  else if !bsr.getLsbD data then .low
  else if openDrain then .floats else .high

/-- The output balls between Strait frames: by function in service; in boundary-scan mode released but where EXTEST or CLAMP drives them from the
cells; floating while VAON is below power-good (21:R507, R510, R514, R516). -/
def State.outputBalls (s : State) : Balls :=
  if !s.pwr.vaon then ⟨.floats, .floats, .floats, .floats⟩
  else if s.strap.scanmode then
    if s.jtag.drive then
      ⟨cellBall s.jtag.bsr 3 true, cellBall s.jtag.bsr 6 true, cellBall s.jtag.bsr 12 false, cellBall s.jtag.bsr 14 false⟩
    else ⟨.floats, .floats, .floats, .floats⟩
  else ⟨if s.pin.musterDriven then .low else .floats, if s.alertLow then .low else .floats, .floats, .floats⟩

/-- What the selected register shifts out; the output balls are shown after. -/
def State.shiftOut (s : State) (ir : Nat) (v : Word) : State :=
  let s := s.respond (.tdo (s.tapSelect ir) v)
  s.respond (.balls s.outputBalls)

/-- IDCODE (21:R515). -/
def State.idcode (s : State) : Word := BitVec.ofNat 32 (s.fuse.stepMajor.toNat % 16 * 2 ^ 28 + s.part.number * 2 ^ 12 + 0x2D5 * 2 + 1)

/-- TAP_RESET (21:R514): Test-Logic-Reset loads IDCODE. -/
def execTapReset (s : State) : Out :=
  let s := s.fresh
  .next (if s.pwr.vaon then s.loadIr 2 else s)

/-- EXTEST (21:R514, R516): the value shifted in drives the balls in boundary-scan mode; else the bypass register is selected. -/
def execExtest (drive : BitVec 18) (s : State) : Out :=
  let s := s.fresh
  if !s.pwr.vaon then .next s
  else
    let old := s.jtag.bsr
    let s := s.loadIr 0
    if s.strap.scanmode then .next (({ s with jtag := { s.jtag with bsr := drive } } : State).shiftOut 0 (old.setWidth 32))
    else .next (s.shiftOut 0 0)

/-- The boundary cells as a capture finds them: the balls are given; the control cells are the device's own (21:R516). -/
def State.capture (s : State) (balls : BitVec 18) : BitVec 18 :=
  let put (v : BitVec 18) (n : Nat) (b : Bool) : BitVec 18 := if b then v ||| (1 <<< n) else v &&& ~~~((1 : BitVec 18) <<< n)
  let low : Bool := !s.strap.scanmode && s.pwr.vaon
  put (put balls 4 (low && s.pin.musterDriven)) 7 (low && s.alertLow)

/-- SAMPLE_PRELOAD (21:R514): captures the balls without affecting them. -/
def execSamplePreload (balls : BitVec 18) (s : State) : Out :=
  let s := s.fresh
  if !s.pwr.vaon then .next s
  else
    let v := s.capture balls
    let s := s.loadIr 1
    .next (({ s with jtag := { s.jtag with bsr := v } } : State).shiftOut 1 (v.setWidth 32))

/-- IDCODE (21:R515). -/
def execIdcode (s : State) : Out :=
  let s := s.fresh
  .next (if s.pwr.vaon then (s.loadIr 2).shiftOut 2 s.idcode else s)

/-- CLAMP (21:R514). -/
def execClamp (s : State) : Out :=
  let s := s.fresh
  .next (if s.pwr.vaon then (s.loadIr 3).shiftOut 3 0 else s)

/-- HIGHZ (21:R514). -/
def execHighz (s : State) : Out :=
  let s := s.fresh
  .next (if s.pwr.vaon then (s.loadIr 4).shiftOut 4 0 else s)

/-- BYPASS (21:R514): 0xF, and every code that Table 21-6 does not list. -/
def execBypass (code : BitVec 4) (s : State) : Out :=
  if !WellFormed (.bypass code) then .refused (.illFormed "BYPASS")
  else
    let s := s.fresh
    .next (if s.pwr.vaon then (s.loadIr code.toNat).shiftOut code.toNat 0 else s)

end Sys2Proof.Machine
end

