-- ==== Sys2Proof/Machine/Dispatch.lean ====
section
/-! DEFINITION. exec: one arm per command, each a direct call of its meaning. -/

namespace Sys2Proof.Machine

open Sys2Proof

/-- The command's effect on everything but the queue. -/
def exec (i : Instr) (s : State) : Host.Outcome State Fault Refusal :=
  match i with
  | .memrd port spid dpa out again => Sys2Proof.Machine.execMemrd port spid dpa out again s
  | .memspecrd port dpa => Sys2Proof.Machine.execMemspecrd port dpa s
  | .meminv port dpa => Sys2Proof.Machine.execMeminv port dpa s
  | .memwr port spid dpa data poison carry => Sys2Proof.Machine.execMemwr port spid dpa data poison carry s
  | .memwrptl port spid dpa data enables poison carry => Sys2Proof.Machine.execMemwrptl port spid dpa data enables poison carry s
  | .m2sUnsupported port opcode => Sys2Proof.Machine.execM2sUnsupported port opcode s
  | .rwdCreditReturn port => Sys2Proof.Machine.execRwdCreditReturn port s
  | .portReset port kind => Sys2Proof.Machine.execPortReset port kind s
  | .perstAssert port => Sys2Proof.Machine.execPerstAssert port s
  | .linkTrained port width rate => Sys2Proof.Machine.execLinkTrained port width rate s
  | .hdmDecoderCommit port n skip size ways granularity => Sys2Proof.Machine.execHdmDecoderCommit port n skip size ways granularity s
  | .gpfPhase1 port => Sys2Proof.Machine.execGpfPhase1 port s
  | .gpfPhase2 port => Sys2Proof.Machine.execGpfPhase2 port s
  | .getEventRecords port log => Sys2Proof.Machine.execGetEventRecords port log s
  | .clearEventRecords port log sel => Sys2Proof.Machine.execClearEventRecords port log sel s
  | .getEventInterruptPolicy port => Sys2Proof.Machine.execGetEventInterruptPolicy port s
  | .setEventInterruptPolicy port policy => Sys2Proof.Machine.execSetEventInterruptPolicy port policy s
  | .getFwInfo port => Sys2Proof.Machine.execGetFwInfo port s
  | .transferFwFull port slot data => Sys2Proof.Machine.execTransferFwFull port slot data s
  | .transferFwInitiate port slot data => Sys2Proof.Machine.execTransferFwInitiate port slot data s
  | .transferFwContinue port slot offset data => Sys2Proof.Machine.execTransferFwContinue port slot offset data s
  | .transferFwEnd port slot offset data => Sys2Proof.Machine.execTransferFwEnd port slot offset data s
  | .transferFwAbort port => Sys2Proof.Machine.execTransferFwAbort port s
  | .activateFwOnline port slot => Sys2Proof.Machine.execActivateFwOnline port slot s
  | .activateFwOnNextReset port slot => Sys2Proof.Machine.execActivateFwOnNextReset port slot s
  | .getTimestamp port => Sys2Proof.Machine.execGetTimestamp port s
  | .setTimestamp port ns => Sys2Proof.Machine.execSetTimestamp port ns s
  | .getSupportedLogs port => Sys2Proof.Machine.execGetSupportedLogs port s
  | .getLog port uuid => Sys2Proof.Machine.execGetLog port uuid s
  | .identifyMemoryDevice port => Sys2Proof.Machine.execIdentifyMemoryDevice port s
  | .getPartitionInfo port => Sys2Proof.Machine.execGetPartitionInfo port s
  | .mailboxUnsupported port opcode => Sys2Proof.Machine.execMailboxUnsupported port opcode s
  | .regRead port payload sram regs => Sys2Proof.Machine.execRegRead port payload sram regs s
  | .regWrite port payload sram => Sys2Proof.Machine.execRegWrite port payload sram s
  | .tblRead port payload sram regs => Sys2Proof.Machine.execTblRead port payload sram regs s
  | .tblWrite port payload sram failing => Sys2Proof.Machine.execTblWrite port payload sram failing s
  | .planWrite port payload sram => Sys2Proof.Machine.execPlanWrite port payload sram s
  | .planCommit port payload => Sys2Proof.Machine.execPlanCommit port payload s
  | .cadCommit port payload => Sys2Proof.Machine.execCadCommit port payload s
  | .cadRevert port payload => Sys2Proof.Machine.execCadRevert port payload s
  | .releaseTiles port payload => Sys2Proof.Machine.execReleaseTiles port payload s
  | .releasePrepareDone => Sys2Proof.Machine.execReleasePrepareDone s
  | .releaseCycle => Sys2Proof.Machine.execReleaseCycle s
  | .releaseCleanupDone => Sys2Proof.Machine.execReleaseCleanupDone s
  | .capacityQuery port payload => Sys2Proof.Machine.execCapacityQuery port payload s
  | .keyGenerate port payload failing => Sys2Proof.Machine.execKeyGenerate port payload failing s
  | .keyImport port payload failing => Sys2Proof.Machine.execKeyImport port payload failing s
  | .keyErase port payload => Sys2Proof.Machine.execKeyErase port payload s
  | .straitReadFrame bytes regs => Sys2Proof.Machine.execStraitReadFrame bytes regs s
  | .straitBadFrame reason => Sys2Proof.Machine.execStraitBadFrame reason s
  | .straitPortReady => Sys2Proof.Machine.execStraitPortReady s
  | .entdaa addr wins => Sys2Proof.Machine.execEntdaa addr wins s
  | .setdasa static addr => Sys2Proof.Machine.execSetdasa static addr s
  | .setnewda target addr => Sys2Proof.Machine.execSetnewda target addr s
  | .rstdaa => Sys2Proof.Machine.execRstdaa s
  | .enec target bits => Sys2Proof.Machine.execEnec target bits s
  | .disec target bits => Sys2Proof.Machine.execDisec target bits s
  | .getpid target mismatch => Sys2Proof.Machine.execGetpid target mismatch s
  | .getbcr target mismatch => Sys2Proof.Machine.execGetbcr target mismatch s
  | .getdcr target mismatch => Sys2Proof.Machine.execGetdcr target mismatch s
  | .getstatus target mismatch => Sys2Proof.Machine.execGetstatus target mismatch s
  | .rstact target defining => Sys2Proof.Machine.execRstact target defining s
  | .i3cTargetReset => Sys2Proof.Machine.execI3cTargetReset s
  | .i3cCccUnsupported target code => Sys2Proof.Machine.execI3cCccUnsupported target code s
  | .i3cPrivateRead target whole mismatch => Sys2Proof.Machine.execI3cPrivateRead target whole mismatch s
  | .hotJoinRequest answer => Sys2Proof.Machine.execHotJoinRequest answer s
  | .ibiRequest answer mismatch => Sys2Proof.Machine.execIbiRequest answer mismatch s
  | .ibiRetry answer mismatch => Sys2Proof.Machine.execIbiRetry answer mismatch s
  | .ownerIdleRelease => Sys2Proof.Machine.execOwnerIdleRelease s
  | .ownerClaim path => Sys2Proof.Machine.execOwnerClaim path s
  | .ownerRelease path => Sys2Proof.Machine.execOwnerRelease path s
  | .evtStatClear path bits => Sys2Proof.Machine.execEvtStatClear path bits s
  | .evtForce path bits => Sys2Proof.Machine.execEvtForce path bits s
  | .modeCtlReqDormant path musterEn => Sys2Proof.Machine.execModeCtlReqDormant path musterEn s
  | .modeCtlReqCauseway path musterEn => Sys2Proof.Machine.execModeCtlReqCauseway path musterEn s
  | .witnessClr path musterEn => Sys2Proof.Machine.execWitnessClr path musterEn s
  | .musterEnWrite path musterEn => Sys2Proof.Machine.execMusterEnWrite path musterEn s
  | .modeCtlLock path musterEn => Sys2Proof.Machine.execModeCtlLock path musterEn s
  | .tideCtlLock path ceiling => Sys2Proof.Machine.execTideCtlLock path ceiling s
  | .compassThrLock path ro inhibit caution => Sys2Proof.Machine.execCompassThrLock path ro inhibit caution s
  | .pdCtlLock path portOff => Sys2Proof.Machine.execPdCtlLock path portOff s
  | .compassThrWrite path ro inhibit caution => Sys2Proof.Machine.execCompassThrWrite path ro inhibit caution s
  | .travPeriodWrite path tier value => Sys2Proof.Machine.execTravPeriodWrite path tier value s
  | .ceilingWrite path ceiling => Sys2Proof.Machine.execCeilingWrite path ceiling s
  | .warnThrWrite path value => Sys2Proof.Machine.execWarnThrWrite path value s
  | .portOffWrite path portOff => Sys2Proof.Machine.execPortOffWrite path portOff s
  | .cadCtlCommit path => Sys2Proof.Machine.execCadCtlCommit path s
  | .cadCtlRevert path => Sys2Proof.Machine.execCadCtlRevert path s
  | .tblCmdRead path => Sys2Proof.Machine.execTblCmdRead path s
  | .tblCmdReadInc path => Sys2Proof.Machine.execTblCmdReadInc path s
  | .tblCmdPlanCommit path => Sys2Proof.Machine.execTblCmdPlanCommit path s
  | .tblCmdComplete failing => Sys2Proof.Machine.execTblCmdComplete failing s
  | .holderWrite path index entry => Sys2Proof.Machine.execHolderWrite path index entry s
  | .parcelWrite path index entry => Sys2Proof.Machine.execParcelWrite path index entry s
  | .planEntryWrite path index entry => Sys2Proof.Machine.execPlanEntryWrite path index entry s
  | .fchanClear path channel => Sys2Proof.Machine.execFchanClear path channel s
  | .fchanAbort path channel => Sys2Proof.Machine.execFchanAbort path channel s
  | .bankerrClear path bank => Sys2Proof.Machine.execBankerrClear path bank s
  | .flagcntClear path flag => Sys2Proof.Machine.execFlagcntClear path flag s
  | .bmkpageProgram path index chunk => Sys2Proof.Machine.execBmkpageProgram path index chunk s
  | .bmkCtlPreset path => Sys2Proof.Machine.execBmkCtlPreset path s
  | .storeOpComplete failingWord => Sys2Proof.Machine.execStoreOpComplete failingWord s
  | .mcountIncrement path index operand => Sys2Proof.Machine.execMcountIncrement path index operand s
  | .mcountAdvance path index operand => Sys2Proof.Machine.execMcountAdvance path index operand s
  | .mcountRebase path index operand => Sys2Proof.Machine.execMcountRebase path index operand s
  | .keyslotGenerate path slot failing => Sys2Proof.Machine.execKeyslotGenerate path slot failing s
  | .keyslotErase path slot => Sys2Proof.Machine.execKeyslotErase path slot s
  | .travRestartT1 path t2en => Sys2Proof.Machine.execTravRestartT1 path t2en s
  | .travRestartT2 path t2en => Sys2Proof.Machine.execTravRestartT2 path t2en s
  | .travT2EnWrite path t2en => Sys2Proof.Machine.execTravT2EnWrite path t2en s
  | .lhFreeze path freeze => Sys2Proof.Machine.execLhFreeze path freeze s
  | .entDataRead path => Sys2Proof.Machine.execEntDataRead path s
  | .registerWrite path offset value => Sys2Proof.Machine.execRegisterWrite path offset value s
  | .doorbellStart port spid channel route => Sys2Proof.Machine.execDoorbellStart port spid channel route s
  | .doorbellMark port spid channel mark => Sys2Proof.Machine.execDoorbellMark port spid channel mark s
  | .doorbellResume port spid channel => Sys2Proof.Machine.execDoorbellResume port spid channel s
  | .doorbellSkip port spid channel => Sys2Proof.Machine.execDoorbellSkip port spid channel s
  | .doorbellAbort port spid channel => Sys2Proof.Machine.execDoorbellAbort port spid channel s
  | .doorbellNop port spid channel => Sys2Proof.Machine.execDoorbellNop port spid channel s
  | .doorbellBadCmd port spid channel cmd => Sys2Proof.Machine.execDoorbellBadCmd port spid channel cmd s
  | .routeHeaderLoaded channel again => Sys2Proof.Machine.execRouteHeaderLoaded channel again s
  | .legFetch channel again => Sys2Proof.Machine.execLegFetch channel again s
  | .fetchTile channel read moves => Sys2Proof.Machine.execFetchTile channel read moves s
  | .writebackTile channel outcome => Sys2Proof.Machine.execWritebackTile channel outcome s
  | .copyTile channel read again outcome moves => Sys2Proof.Machine.execCopyTile channel read again outcome moves s
  | .fillTile channel moves => Sys2Proof.Machine.execFillTile channel moves s
  | .verifyTile channel read again => Sys2Proof.Machine.execVerifyTile channel read again s
  | .streamFill channel read moves => Sys2Proof.Machine.execStreamFill channel read moves s
  | .stallCleared channel => Sys2Proof.Machine.execStallCleared channel s
  | .ferryStallTimeout channel => Sys2Proof.Machine.execFerryStallTimeout channel s
  | .abortComplete channel => Sys2Proof.Machine.execAbortComplete channel s
  | .channelParked channel => Sys2Proof.Machine.execChannelParked channel s
  | .demandFetchDone tile read => Sys2Proof.Machine.execDemandFetchDone tile read s
  | .gateReloadDone gate => Sys2Proof.Machine.execGateReloadDone gate s
  | .bypassRead index read => Sys2Proof.Machine.execBypassRead index read s
  | .queuedStoreInstall tile => Sys2Proof.Machine.execQueuedStoreInstall tile s
  | .recordPacked slot outcome => Sys2Proof.Machine.execRecordPacked slot outcome s
  | .pageProgram cls page outcome => Sys2Proof.Machine.execPageProgram cls page outcome s
  | .pageProgramRetry cls page outcome => Sys2Proof.Machine.execPageProgramRetry cls page outcome s
  | .pagePreset page outcome => Sys2Proof.Machine.execPagePreset page outcome s
  | .writeBackCommit tile => Sys2Proof.Machine.execWriteBackCommit tile s
  | .reclaim page reads => Sys2Proof.Machine.execReclaim page reads s
  | .relocation reads target outcome => Sys2Proof.Machine.execRelocation reads target outcome s
  | .gapMoveT2 bank region read outcome => Sys2Proof.Machine.execGapMoveT2 bank region read outcome s
  | .t1WriteProgram index flips tries xtsOk => Sys2Proof.Machine.execT1WriteProgram index flips tries xtsOk s
  | .gapMoveT1 group flips tries => Sys2Proof.Machine.execGapMoveT1 group flips tries s
  | .verifyLaneCheck tries => Sys2Proof.Machine.execVerifyLaneCheck tries s
  | .correctionWriteBack stillWrong => Sys2Proof.Machine.execCorrectionWriteBack stillWrong s
  | .traverseT1Read again witnessLeft => Sys2Proof.Machine.execTraverseT1Read again witnessLeft s
  | .traverseT2Read page witnessLeft => Sys2Proof.Machine.execTraverseT2Read page witnessLeft s
  | .traverseLate tier => Sys2Proof.Machine.execTraverseLate tier s
  | .traverseSave => Sys2Proof.Machine.execTraverseSave s
  | .wearPersist => Sys2Proof.Machine.execWearPersist s
  | .trimAdjust bank => Sys2Proof.Machine.execTrimAdjust bank s
  | .tempSample dies => Sys2Proof.Machine.execTempSample dies s
  | .compassSample s0 s1 s2 => Sys2Proof.Machine.execCompassSample s0 s1 s2 s
  | .coilCheck sensor change => Sys2Proof.Machine.execCoilCheck sensor change s
  | .tideMeasurement millivolts slopeDiff => Sys2Proof.Machine.execTideMeasurement millivolts slopeDiff s
  | .tideResample millivolts => Sys2Proof.Machine.execTideResample millivolts s
  | .commitValidated => Sys2Proof.Machine.execCommitValidated s
  | .commitEpoch => Sys2Proof.Machine.execCommitEpoch s
  | .commitReport => Sys2Proof.Machine.execCommitReport s
  | .pd0PowerOn => Sys2Proof.Machine.execPd0PowerOn s
  | .strapLatch msel scanmode saddr => Sys2Proof.Machine.execStrapLatch msel scanmode saddr s
  | .suppliesGood => Sys2Proof.Machine.execSuppliesGood s
  | .pllLock => Sys2Proof.Machine.execPllLock s
  | .domainRampDone domain => Sys2Proof.Machine.execDomainRampDone domain s
  | .vaonLoss => Sys2Proof.Machine.execVaonLoss s
  | .pfailNAssert => Sys2Proof.Machine.execPfailNAssert s
  | .pfailNDeassert => Sys2Proof.Machine.execPfailNDeassert s
  | .musterFall => Sys2Proof.Machine.execMusterFall s
  | .dormantWake source => Sys2Proof.Machine.execDormantWake source s
  | .powerDownDone => Sys2Proof.Machine.execPowerDownDone s
  | .storeRecallDone damagedWords factoryBad => Sys2Proof.Machine.execStoreRecallDone damagedWords factoryBad s
  | .bootDone bch0 bch1 unread => Sys2Proof.Machine.execBootDone bch0 bch1 unread s
  | .selftestDone faults => Sys2Proof.Machine.execSelftestDone faults s
  | .senseDone c0 c1 c2 s0 s1 s2 => Sys2Proof.Machine.execSenseDone c0 c1 c2 s0 s1 s2 s
  | .witnessCheckDone flipped => Sys2Proof.Machine.execWitnessCheckDone flipped s
  | .reloadDone unread commitUnread => Sys2Proof.Machine.execReloadDone unread commitUnread s
  | .replayDone flips tries retireFlips retireTries => Sys2Proof.Machine.execReplayDone flips tries retireFlips retireTries s
  | .recallResume => Sys2Proof.Machine.execRecallResume s
  | .causewayPortClose => Sys2Proof.Machine.execCausewayPortClose s
  | .drainCopyDone flips tries => Sys2Proof.Machine.execDrainCopyDone flips tries s
  | .drainVerifyDone => Sys2Proof.Machine.execDrainVerifyDone s
  | .drainWitnessDone left => Sys2Proof.Machine.execDrainWitnessDone left s
  | .drainCompleteMark flips tries => Sys2Proof.Machine.execDrainCompleteMark flips tries s
  | .drainPd7Off => Sys2Proof.Machine.execDrainPd7Off s
  | .drainComplete => Sys2Proof.Machine.execDrainComplete s
  | .settleWritesDone => Sys2Proof.Machine.execSettleWritesDone s
  | .settleWritebackDone => Sys2Proof.Machine.execSettleWritebackDone s
  | .settleDrainDone flips tries => Sys2Proof.Machine.execSettleDrainDone flips tries s
  | .settleVerifyDone => Sys2Proof.Machine.execSettleVerifyDone s
  | .settleSaveDone => Sys2Proof.Machine.execSettleSaveDone s
  | .settleWitnessDone left => Sys2Proof.Machine.execSettleWitnessDone left s
  | .settleMarkerDone => Sys2Proof.Machine.execSettleMarkerDone s
  | .stewardFetchTrap address => Sys2Proof.Machine.execStewardFetchTrap address s
  | .stewardRestartDone => Sys2Proof.Machine.execStewardRestartDone s
  | .stagingData => Sys2Proof.Machine.execStagingData s
  | .stagingEnd => Sys2Proof.Machine.execStagingEnd s
  | .stagingAbort => Sys2Proof.Machine.execStagingAbort s
  | .stagingActivateOnline => Sys2Proof.Machine.execStagingActivateOnline s
  | .stagingActivateRecall => Sys2Proof.Machine.execStagingActivateRecall s
  | .stagedImageWrite => Sys2Proof.Machine.execStagedImageWrite s
  | .eventLogAppend failingWord => Sys2Proof.Machine.execEventLogAppend failingWord s
  | .counterUpdate failingWord => Sys2Proof.Machine.execCounterUpdate failingWord s
  | .paramPageUpdate failingWord => Sys2Proof.Machine.execParamPageUpdate failingWord s
  | .traceSave failingWord => Sys2Proof.Machine.execTraceSave failingWord s
  | .traceSetPreset => Sys2Proof.Machine.execTraceSetPreset s
  | .healthTestFail test => Sys2Proof.Machine.execHealthTestFail test s
  | .startupTestDone passes => Sys2Proof.Machine.execStartupTestDone passes s
  | .conditioningBlockDone raw => Sys2Proof.Machine.execConditioningBlockDone raw s
  | .drbgReseed => Sys2Proof.Machine.execDrbgReseed s
  | .seedReplace => Sys2Proof.Machine.execSeedReplace s
  | .timestampEra => Sys2Proof.Machine.execTimestampEra s
  | .cxlEventLogPlace => Sys2Proof.Machine.execCxlEventLogPlace s
  | .faultTokenRefill => Sys2Proof.Machine.execFaultTokenRefill s
  | .tapReset => Sys2Proof.Machine.execTapReset s
  | .extest drive => Sys2Proof.Machine.execExtest drive s
  | .samplePreload balls => Sys2Proof.Machine.execSamplePreload balls s
  | .idcode => Sys2Proof.Machine.execIdcode s
  | .clamp => Sys2Proof.Machine.execClamp s
  | .highz => Sys2Proof.Machine.execHighz s
  | .bypass code => Sys2Proof.Machine.execBypass code s
  | .straitWriteFrame bytes => Sys2Proof.Machine.execStraitWriteFrame bytes s
  | .tblCmdWrite path => Sys2Proof.Machine.execTblCmdWrite path s
  | .supplyNotGood supply => Sys2Proof.Machine.execSupplyNotGood supply s
  | .bankWaitStall channel => Sys2Proof.Machine.execBankWaitStall channel s
  | .traverseEscalated tier => Sys2Proof.Machine.execTraverseEscalated tier s
  | .i3cProtocolError => Sys2Proof.Machine.execI3cProtocolError s

end Sys2Proof.Machine
end

