-- ==== Sys2Proof/Safety.lean ====
section
/-! DEFINITION. The terms claims use: what a command answers, what a request or a warden access needs to be granted, the bounds that
hold in every state a run can reach, and the mode epochs the spec has. -/

namespace Sys2Proof.Machine

open Sys2Proof

/-- exec of c at s answers a next state, and P holds of it. -/
def Gives (c : Instr) (s : State) (P : State → Prop) : Prop := ∃ t, exec c s = .next t ∧ P t

/-- Port p accepts requests, dpa lies in a committed decoder, and the lookup of its line passes for this right
(11:R274, R278, 10:R257). -/
abbrev State.Granted (s : State) (p : Port) (spid : Option (BitVec 12)) (dpa right : Nat) : Prop :=
  s.memUp p = true ∧ s.decoded p dpa = true ∧
  s.verdict (targetOf s.part s.t0.scratchMiB dpa).gate (lineAddr dpa) (s.holderOf p spid) right = none

/-- The carriage CRC with which a write leaves the link shore meets the line that arrives at its hop (06:R153, hops 0x02 to 0x04); a line that
the fabric does not change does. -/
abbrev State.Arrives (s : State) (p : Port) (spid : Option (BitVec 12)) (dpa : Nat) (d : Line) (en : Mask) (carry : Option Carry) : Prop :=
  carryOk carry (carriageCrc d (inKey en (lineAddr dpa) (s.holderOf p spid))) d (inKey en (lineAddr dpa) (s.holderOf p spid)) = true

/-- The carriage CRC of read data meets the line at the link shore (06 hop 0x0D). -/
abbrev State.Leaves (s : State) (p : Port) (spid : Option (BitVec 12)) (dpa : Nat) (d : Line) (out : Option Carry) : Prop :=
  carryOk out (carriageCrc d (outKey (lineAddr dpa) (s.holderOf p spid))) d (outKey (lineAddr dpa) (s.holderOf p spid)) = true

/-- EVT_EN is as it was, no flag of EVT_STAT has been cleared, and none but those of m may have been set (01:R46, R47). -/
abbrev State.Flags (s t : State) (m : BitVec 24) : Prop :=
  t.evt.en = s.evt.en ∧ s.evt.stat ||| t.evt.stat = t.evt.stat ∧ t.evt.stat ||| m = s.evt.stat ||| m

/-- Beside `link`, `t2.capacityLow`, `tide.forced`, RESTRICT, the records of the cycle and the outputs nothing has changed, and of the flags only
CAPACITY_LOW, CAPACITY_STALL and those of m may have been set: what the rules that watch dirty data, credits, the budget and the free
sectors may do (01:R38-R41, 02:R76). -/
abbrev State.Reviewed (s t : State) (m : BitVec 24) : Prop :=
  s.Flags t (0x18000 ||| m) ∧
  t = { s with link := t.link, t2 := { s.t2 with capacityLow := t.t2.capacityLow }, tide := { s.tide with forced := t.tide.forced },
               md := { s.md with restrict := t.md.restrict }, evt := t.evt, resp := t.resp }

/-- In SERVICE, with the path up and holding OWNER, no version restriction and the steward running, gate 3 permits the register part
(12:R304, R317, 10:R252). -/
abbrev State.RegOpen (s : State) (path : Path) (offset : Nat) : Prop :=
  s.pathUp path = true ∧ s.own.holder = some path ∧ s.md.mode = .service ∧ s.md.restrict.versionLimited = false ∧
  s.stew.restarting = false ∧ s.verdict 3 (offset / 64 * 64) (pathHolder path) 1 = none

/-- As RegOpen for the table command register, with no table command running and no selection of the other path in this cycle (13:R328, R332), and
entry i of a table that exists on the part passes its gate and none of the refusals of 13 Table 13-9. -/
abbrev State.EntryOpen (s : State) (path : Path) (sel i : Nat) : Prop :=
  s.RegOpen path 0x88 ∧ s.tbl.busy = false ∧ (path = .mailbox → s.evt.cyc.straitSel = false ∧ s.evt.cyc.straitIndex = false) ∧
  i < (tableSize sel).getD 0 ∧ (storeTable sel = true → s.store.ready = true) ∧
  s.verdict (entryGate sel i).1 (entryGate sel i).2 (pathHolder path) 1 = none ∧ s.writeRefusal sel i = none

/-- The mailbox of a port is up and no recall, mode, restriction or restart refuses a Dexaris command of the OWNER (16 Table 16-4,
11:R291, R298). -/
abbrev State.DexOpen (s : State) (p : Port) : Prop :=
  s.mboxUp p = true ∧ s.own.holder = some .mailbox ∧ s.md.mode = .service ∧ s.md.restrict.versionLimited = false ∧
  s.stew.restarting = false ∧ s.mbox.background = none

/-- The lookup of each of a tile's 64 parts passes at its gate (01:R30, 10:R257). -/
abbrev State.TilePermits (s : State) (a : Nat) (h : Holder) (right : Nat) : Prop :=
  ∀ i, i < 64 → s.verdict (if isFast a then 1 else 2) (a + 64 * i) h right = none

/-- A ferry channel that runs the transfer `op` of leg l: SERVICE, RUNNING, its route not complete (04 Table 04-9, R107). -/
abbrev State.Moves (s : State) (c op : Nat) (l : Leg) (owner : Holder) : Prop :=
  s.md.mode = .service ∧ (s.chan c).state = .running ∧ (s.chan c).op.toNat = op ∧ (s.chan c).cur = some l ∧
  s.owner c = some owner ∧ (s.chan c).complete = false

/-- What a mailbox command that ends at once leaves: its activity where the mailbox holds OWNER (12:R319), and its answer. -/
def State.answered (s : State) (p : Port) (out : MboxOut) : State :=
  { s.touch .mailbox with resp := [.mbox p .success .ok out] }

/-- The output of a Dexaris command: its header and the rest (11 Table 11-8). -/
def dexBytes (status detail done : Nat) (rest : List Byte) : MboxOut :=
  .bytes (leBytes status 2 ++ leBytes detail 2 ++ leBytes done 4 ++ rest)

/-- What every executed register write leaves: the activity of OWNER's holder (12:R319), the WRITE trace record (20 Table 20-3) and the
answer OK (12 Table 12-4). -/
def State.wrote (s : State) (path : Path) (o v : Nat) : State :=
  ({ s with own := ⟨some path, s.clk.ts⟩, resp := [.write path .ok] } : State).addTrace 0x07 (srcPath path)
    (tpay [(12, 2, o), (14, 4, (word v).toNat)])

/-- What a table write through a path's registers leaves once it has ended (13:R332): the activity of OWNER's holder, the registers of the table
interface as the command left them, and the code. The trace records of its register writes stand in `evt`. -/
def State.entryDone (s : State) (path : Path) (sel i : Nat) (e : Entry) (code : Byte) (t : State) : State :=
  { s with own := ⟨some path, s.clk.ts⟩
           tbl := ⟨BitVec.ofNat 8 sel, BitVec.ofNat 16 i, e, 2, code, false, false, none⟩
           evt := t.evt
           resp := [.table path code] }

/-- The same while the store's engine runs its operation, or its key record waits: BUSY, and no answer yet (14:R349). -/
def State.entryRuns (s : State) (path : Path) (sel i : Nat) (e : Entry) (t : State) : State :=
  { s with own := ⟨some path, s.clk.ts⟩
           tbl := ⟨BitVec.ofNat 8 sel, BitVec.ofNat 16 i, e, 2, s.tbl.code, false, true,
             some ⟨path, 2, BitVec.ofNat 8 sel, BitVec.ofNat 16 i, e, true, true⟩⟩
           evt := t.evt
           resp := [] }

/-- No flag has been set or cleared or counted, and no event record raised: only trace records are new. -/
abbrev State.Traced (s t : State) : Prop :=
  t.evt.stat = s.evt.stat ∧ t.evt.en = s.evt.en ∧ t.evt.cnt = s.evt.cnt ∧ t.evt.cyc.events = s.evt.cyc.events

/-- No host read waits, no store waits and no slot is pinned: nothing else can move with the command. -/
abbrev State.Quiet (s : State) : Prop := s.link.waits = [] ∧ s.t0.stores = [] ∧ ∀ x ∈ s.t0.pool, ¬ (x.st = .pinned)

/-- No channel but c has changed, nor the count of halts, nor a held doorbell. -/
abbrev State.OneChan (s t : State) (c : Nat) : Prop :=
  (∀ k, ¬ (k = c) → t.chan k = s.chan k) ∧ t.ferry.halts = s.ferry.halts ∧ t.ferry.held = s.ferry.held

/-- Channel c has halted with a cause: its state and code, both counts, and FERRY_HALT (04:R112). No other channel has changed. -/
abbrev State.Halted (s t : State) (c cause : Nat) : Prop :=
  (∀ k, ¬ (k = c) → t.chan k = s.chan k) ∧ (t.chan c).state = .halted ∧ (t.chan c).halt.toNat = cause ∧
  (t.chan c).cnt.halts = satAdd (s.chan c).cnt.halts 1 ∧ t.ferry.halts = satAdd s.ferry.halts 1 ∧ t.evt.stat.getLsbD 4 = true

/-- What the Strait port holds after a request of n bytes, `req` of them the request's, that is answered with R: on I3C the pending response, on SPI
the bytes that MISO carried, 0xFF but for the response behind two turnaround bytes (12:R307, R308, R314). -/
def State.straitHolds (s : State) (n req : Nat) (R : List Byte) : Strait :=
  if s.strap.msel then { s.strait with response := R }
  else { s.strait with miso := some ((List.replicate (req + 2) 0xFF ++ R ++ List.replicate n 0xFF).take n) }

/-- The request's bank, where it has one, grants it now (01:R51, R52). -/
abbrev State.BankGrants (s : State) (b : Option Nat) (r : Req) : Prop := ∀ x, b = some x → s.mayGrant x r = true

/-- The I3C target is up and holds this address (12:R309-R311). -/
abbrev State.Addressed (s : State) (a : BitVec 7) : Prop := s.i3cUp = true ∧ s.i3c.addr = some a

/-- The firmware commands of the mailbox act at once: the field is below INHIBIT, and generations for their pages lie below the stored ceiling
(18:R455, R456, 14:R361). -/
abbrev State.FwOpen (s : State) (p : Port) : Prop := s.DexOpen p ∧ s.comp.level.toNat < 2 ∧ s.fwReady = true

/-- The store's engine has ended its operation (14:R345, R346): what has been programmed stands in `words`, `views` and `params`, and an operation
that ended with BUSY meanwhile holds the device's own ones back. -/
def State.engineFreed (s t : State) : Store :=
  { s.store with
    words := t.store.words, views := t.store.views, params := t.store.params
    op := none, dev := none, hold := false
    holdUntil := if s.store.hold then some (s.clk.ts + 320000) else s.store.holdUntil }

/-- A key-slot record is made at once: the store's engine may start an operation of the counter class, and none waits (14:R345, R363). -/
abbrev State.RecordNow (s : State) : Prop := s.mayStart 1 = true ∧ s.store.queue.all (fun o => !(o.rank == 1)) = true

/-- Charter pages have been programmed: their generations, homes and tallies (14:R361, 18:R442, 08:R216). -/
def State.programmed (s t : State) : State :=
  { s with
    t2 := { s.t2 with seqNo := t.t2.seqNo, relocQ := t.t2.relocQ, regions := t.t2.regions, charter := t.t2.charter }
    err := { s.err with wear := t.err.wear, banks := t.err.banks, pulses := t.err.pulses } }

/-- Bounds the spec puts on the machine's own counters: at most eight fault tokens (10:R269), at most 64 event records waiting
in PD0 (14:R363), and 64 ferry channels (04:R99). -/
abbrev State.Inv (s : State) : Prop := s.cad.tokens ≤ 8 ∧ s.elog.queue.length ≤ 64 ∧ s.ferry.chans.length = 64

/-- The memories are in their one form, listed with strictly rising addresses. An unlisted scratch line has its valid bit clear and reads zero
(07:R178), an unlisted T1 byte has never been written (07:R177), an unlisted tile is not stored, an unlisted page is preset, an unlisted
store word is blank (14:R340), and an unlisted line of the causeway region is the zero line, which is never listed (17:R431). A tile-pool slot
that is not listed is FREE, and the slots rise by index. -/
abbrev State.MemForm (s : State) : Prop :=
  rising s.t0.scratch = true ∧ rising s.t1.cells = true ∧ rising s.t2.tileMap = true ∧ rising s.t2.pages = true ∧ rising s.store.words = true ∧
  rising (s.t0.pool.map fun x => (x.idx, x)) = true ∧ rising s.drain.region = true ∧ ∀ x ∈ s.drain.region, ¬ (x.2 = packWords (encLine (regionFold x.1) 0))

/-- The transitions of 15 Table 15-5 that change a mode in place, each with its MODE.CAUSE. -/
def Mode.edge : Mode → Mode → BitVec 4 → Bool
  | .recall, .service, c => c == 1
  | .service, .causeway, c => c == 2 || c == 3 || c == 4
  | .service, .dormant, c => c == 4
  | .causeway, .dormant, c => c == 5
  | .causeway, .recall, c => c == 6
  | .dormant, .recall, c => c == 7
  | _, _, _ => false

end Sys2Proof.Machine
end

