-- ==== Sys2Proof/Certificates/Slice0/Obligations.lean ====
section
/-! DEFINITION. The statements for the provers. Each says what the spec's rules say a command or the machine does. A clause that rests on
a choice of the model names its log entry. `Gives c s P` says that exec of c at s answers a next state, of which P holds. -/

open Sys2Proof Sys2Proof.Machine

/-! ### The machine -/

/-- A step takes the command at the front of the queue and is exec of it with the queue's rest. -/
def Obligations.StepRunsFrontCommand : Prop :=
  ∀ (c : Instr) (rest : List Instr) (s : State), step { s with pending := c :: rest } = exec c { s with pending := rest }

/-- On an empty queue one clock cycle passes (the model's choice, log entry 28): while CCLK runs the counter takes its next value; in
DORMANT with CCLK stopped the AON counter does, and nothing else changes. -/
def Obligations.IdleStepIsOneCycle : Prop :=
  ∀ s : State, s.pending = [] →
    (s.clk.run = true → ∃ t, step s = .next t ∧ t.clk.ts = s.clk.ts + 1 ∧ t.clk.run = true ∧ t.evt.stat ||| s.evt.stat = t.evt.stat ∧
      t.md = s.md ∧ t.t0 = s.t0 ∧ t.t1 = s.t1 ∧ t.t2 = s.t2) ∧
    (s.clk.run = false → s.md.mode = .dormant →
      step s = .next { s with clk := { s.clk with aon := satAdd s.clk.aon 1 } })

/-- What reset leaves where the spec gives it (13 Tables 13-6 to 13-13, 10:R269, 09 Table 09-3, 08:R197, 21:R514): the mode, RESTRICT,
the enables, MUSTER_EN, the thresholds, the periods, the ceiling, the tokens, the queue of events and the TAP's instruction. -/
def Obligations.ResetValuesOfTheSpec : Prop :=
  State.reset.md.mode = .recall ∧ State.reset.md.restrict = .clear ∧ State.reset.md.musterEn = true ∧ State.reset.md.lock = false ∧
  State.reset.evt.stat = 0 ∧ State.reset.evt.en = 0 ∧ State.reset.own.holder = none ∧ State.reset.cad.running = false ∧
  State.reset.cad.tokens = 8 ∧ State.reset.comp.ro = 250 ∧ State.reset.comp.inhibit = 80 ∧ State.reset.comp.caution = 30 ∧
  State.reset.comp.warnThr = 95 ∧ State.reset.trav.t1.period = 480 ∧ State.reset.trav.t2.period = 168 ∧ State.reset.tide.ceiling = 49152 ∧
  State.reset.pwr.portOff = 0 ∧ State.reset.lh.freeze = false ∧ State.reset.elog.queue = [] ∧ State.reset.jtag.ir = 2 ∧
  State.reset.pending = []

/-- The bounds and the memories' canonical form hold at reset. -/
def Obligations.InvariantsHoldAtReset : Prop := State.reset.Inv ∧ State.reset.MemForm

/-- Every step keeps the bounds: at most eight fault tokens (10:R269), at most 64 waiting event records (14:R363) and 64 ferry
channels (04:R99). -/
def Obligations.EveryStepKeepsBounds : Prop := ∀ s t : State, s.Inv → step s = .next t → t.Inv

/-- Every step keeps each memory in its one canonical form: the scratch lines with their valid bits, the T1 array, the tile map, the dense pages,
the store's words, the tile pool's slots and the causeway region are listed with strictly rising addresses, and no listed line of the region
is the zero line (02:R59, 07:R177, R178, 05:R139, R143, 14:R340, 17:R431). -/
def Obligations.EveryStepKeepsMemoryForm : Prop := ∀ s t : State, s.MemForm → step s = .next t → t.MemForm

/-- No command but a loss of VAON changes the mode in any way but those of 15 Table 15-5, each with its cause. -/
def Obligations.ModesChangeOnlyAsTabled : Prop :=
  ∀ (c : Instr) (s t : State), ¬ (c = .vaonLoss) → exec c s = .next t → t.md.mode = s.md.mode ∨ Mode.edge s.md.mode t.md.mode t.md.cause = true

/-- Every term that spells a command answers a next state in every state; the five kinds of term that spell none are refused by name. -/
def Obligations.CommandsNeverStop : Prop :=
  ∀ (c : Instr) (s : State), (WellFormed c = true → ∃ t, exec c s = .next t) ∧
    (WellFormed c = false → ∃ n, exec c s = .refused (.illFormed n))

/-! ### The codes -/

/-- The byte code (07:R165-R169, 06:R154): a stored word decodes clean to its byte; with any one of its 13 bits inverted it is
corrected to that byte; with any two inverted it is a double error; and a poison word is a double error. -/
def Obligations.ByteCodeCorrectsOneDetectsTwo : Prop :=
  ∀ (f : BitVec 3) (d : Byte), decByte f (encByte f d) = (.clean, 0, d) ∧
    (∀ i : Fin 13, (decByte f (encByte f d ^^^ (1 <<< i.val))).1 = .corrected ∧ (decByte f (encByte f d ^^^ (1 <<< i.val))).2.2 = d) ∧
    (∀ i j : Fin 13, ¬ (i = j) → (decByte f (encByte f d ^^^ (1 <<< i.val) ^^^ (1 <<< j.val))).1 = .double) ∧
    (decByte f (poisonWord f)).1 = .double

/-- A line stored at one address and read at another whose fold differs in one bit is an address fault (07:R169, R170), and read at its
own address it is clean with its data. -/
def Obligations.LineCodeKnowsItsAddress : Prop :=
  ∀ (f g : BitVec 3) (d : Line), (decLine f (encLine f d)).cls = .clean ∧ (decLine f (encLine f d)).data = d ∧
    (g = f ^^^ 1 ∨ g = f ^^^ 2 ∨ g = f ^^^ 4 → (decLine g (encLine f d)).cls = .addrFault)

/-! ### The host link (11, 02) -/

/-- MEMRD. A granted read of scratch, a doorbell line, or a fast line whose words decode clean returns that line, whatever crosses the fabric within
its carriage CRC, and changes nothing else: an unwritten scratch line reads zero (07:R178), a poisoned one returns poison (02:R68), a
sealed fast line is decrypted under its key, and where the key is absent it returns poison and the slot's hits count it (19:R472, R474). -/
def Obligations.GrantedReadReturnsTheLine : Prop :=
  ∀ (s : State) (p : Port) (spid : Option (BitVec 12)) (dpa : Dpa) (out : Option Carry) (again : Reread), s.Granted p spid dpa.toNat 0 →
    let at' := targetOf s.part s.t0.scratchMiB dpa.toNat
    let returns (d : Line) : Prop := s.Leaves p spid dpa.toNat d out →
      exec (.memrd p spid dpa out again) s = .next { s with resp := [.memData p (carried out d) false] }
    (∀ l, at' = .scratch l → tget s.t0.scratch l = none → returns 0) ∧
    (∀ l x, at' = .scratch l → tget s.t0.scratch l = some x → x.poison = true →
      exec (.memrd p spid dpa out again) s = .next { s with resp := [.memData p 0 true] }) ∧
    (∀ l x, at' = .scratch l → tget s.t0.scratch l = some x → x.poison = false →
      (decLine (lineFold l) (unpackWords x.words)).cls = .clean → returns (decLine (lineFold l) (unpackWords x.words)).data) ∧
    (∀ c, at' = .harbor c → returns (s.bellRead c)) ∧
    (∀ a, at' = .fast a → (decLine (lineFold a) (overlay a (s.t1Words a) s.t1.wq)).cls = .clean →
      let d := (decLine (lineFold a) (overlay a (s.t1Words a) s.t1.wq)).data
      (s.sealKey 1 dpa.toNat = none → returns d) ∧
      (∀ k, s.sealKey 1 dpa.toNat = some k → lastSealed a s.t1.wq = none →
        (∀ key, s.keyOf k = some key → s.t2.xtsOn = true → returns ((Config.xts key (fastTweak a) 0).symm d)) ∧
        (s.keyOf k = none → Gives (.memrd p spid dpa out again) s fun t =>
          t = { s with keys := t.keys, resp := [.memData p 0 true] } ∧
          (t.keySlot k.toNat).hits = satAdd (s.keySlot k.toNat).hits 1 ∧ t.keys.records = s.keys.records)))

/-- MEMRD. A granted read of the dense range: a valid line of a resident tile that decodes clean and is not poisoned is returned at once, and only
the slot's age changes; a read of a tile that is not resident and for which no store waits is kept waiting, with no answer yet, and
either it has a FILLING slot, or a victim is being written back for it, or no slot could be chosen (02:R63, R64, R71). -/
def Obligations.DenseReadHitsOrWaits : Prop :=
  ∀ (s : State) (p : Port) (spid : Option (BitVec 12)) (dpa : Dpa) (out : Option Carry) (again : Reread) (tile line : Nat),
    s.Granted p spid dpa.toNat 0 → targetOf s.part s.t0.scratchMiB dpa.toNat = .dense tile line → s.storesFor tile = false →
    (∀ x w, s.slotOf tile = some x → x.valid.getLsbD line = true → x.poison.getLsbD line = false → x.word line = some w →
      (decLine (lineFold (x.idx * 64 + line)) (unpackWords w)).cls = .clean →
      let d := (decLine (lineFold (x.idx * 64 + line)) (unpackWords w)).data
      s.Leaves p spid dpa.toNat d out →
      Gives (.memrd p spid dpa out again) s fun t =>
        t = { s with t0 := { s.t0 with pool := t.t0.pool }, resp := [.memData p (carried out d) false] } ∧
        ∃ y, t.slotOf tile = some y ∧ { y with age := x.age } = x) ∧
    (s.slotOf tile = none →
      Gives (.memrd p spid dpa out again) s fun t =>
        t = { s with t0 := { s.t0 with pool := t.t0.pool }, link := { s.link with waits := t.link.waits }
                     t1 := { s.t1 with corrections := t.t1.corrections }, err := t.err, evt := t.evt, resp := [] } ∧
        t.link.waits = s.link.waits ++ [⟨p, tile, line, s.holderOf p spid, s.clk.ts, out⟩] ∧ s.Flags t 0xC ∧
        ((∃ x, t.slotOf tile = some x ∧ x.st = .filling) ∨ t.beingTaken tile = true ∨
          s.pickFor (s.holderOf p spid) none = .nothing))

/-- MEMRD, MEMWR and MEMWRPTL of a request that a gate denies, or that lies outside every committed decoder: the read returns poison, the write is
completed without effect on memory, and CAD_FAULT is set (10:R257, R267, R268, 11:R278, R280). -/
def Obligations.DeniedRequestFaults : Prop :=
  ∀ (s : State) (p : Port) (spid : Option (BitVec 12)) (dpa : Dpa) (d : Line) (en : Mask) (poison : Bool) (carry : Option Carry) (again : Reread),
    s.memUp p = true →
    let denied (right : Nat) : Prop := s.decoded p dpa.toNat = true →
      ¬ (s.verdict (targetOf s.part s.t0.scratchMiB dpa.toNat).gate (lineAddr dpa.toNat) (s.holderOf p spid) right = none)
    let faulted (t : State) : Prop := t.evt.stat.getLsbD 1 = true ∧
      t.cad = { s.cad with faultAddr := t.cad.faultAddr, faultInfo := t.cad.faultInfo, reload := t.cad.reload }
    let completed (t : State) : Prop := faulted t ∧ t.resp = [.memCmp p] ∧ s.Reviewed { t with cad := s.cad } 0xA ∧
      (t.port p).credits = (s.port p).credits - 1 ∧ t.link.freed = s.link.freed ++ [p] ∧ t.link.waits = s.link.waits
    (denied 0 → Gives (.memrd p spid dpa carry again) s fun t => faulted t ∧ s.Flags t 0xA ∧
      t = { s with evt := t.evt, cad := t.cad, resp := [.memData p 0 true] }) ∧
    (denied 1 → ¬ ((s.port p).credits = 0) →
      Gives (.memwr p spid dpa d poison carry) s completed ∧ Gives (.memwrptl p spid dpa d en poison carry) s completed)

/-- MEMWR and MEMWRPTL. A granted whole write, or a partial one that enables at least one byte, on a held credit is answered with Cmp, spends that
credit and is stored where it says: a scratch line holds the code of the enabled bytes over the old ones and takes its poison, a fast
line has a new last entry in the write queue, sealed where it is written whole. No other scratch line changes, nor the fast array, the
pool or the dense map (02:R59-R62, 11:R280, R283, 19:R473). A line that the carriage CRC does not meet poisons its scratch line whole, with ECC_UE
(06 hop 0x02, Table 06-4). -/
def Obligations.GrantedWriteIsStored : Prop :=
  ∀ (s : State) (p : Port) (spid : Option (BitVec 12)) (dpa : Dpa) (d : Line) (en : Mask) (poison : Bool) (carry : Option Carry),
    s.Granted p spid dpa.toNat 1 → ¬ ((s.port p).credits = 0) → ¬ (en = 0) →
    let at' := targetOf s.part s.t0.scratchMiB dpa.toNat
    let data : Line := if poison then 0 else carried carry d
    let cmp (t : State) : Prop := t.resp = [.memCmp p] ∧ (t.port p).credits = (s.port p).credits - 1 ∧ t.link.freed = s.link.freed ++ [p] ∧
      t.link.waits = s.link.waits
    let inScratch (l : Nat) (en : Mask) (d : Line) (bad : Bool) (flags : BitVec 24) (t : State) : Prop := cmp t ∧
      s.Reviewed { t with t0 := s.t0, t1 := s.t1 } flags ∧ t.t1 = { s.t1 with corrections := t.t1.corrections } ∧
      t.t0 = { s.t0 with scratch := t.t0.scratch } ∧ (∀ k, ¬ (k = l) → tget t.t0.scratch k = tget s.t0.scratch k) ∧
      ∃ x, tget t.t0.scratch l = some x ∧ x.words = writeT0 l ((tget s.t0.scratch l).map (·.words)) d en ∧
        x.poison = (bad || (!(en == allOnes) && ((tget s.t0.scratch l).map (·.poison)).getD false))
    let queued (a : Nat) (en : Mask) (key : Option Byte) (t : State) : Prop := cmp t ∧ s.Reviewed { t with t1 := s.t1 } 0 ∧
      t.t1 = { s.t1 with wq := s.t1.wq ++ [⟨a, wqWords a data poison, en, key, none⟩] }
    (∀ l, at' = .scratch l → s.Arrives p spid dpa.toNat d en carry →
      Gives (.memwrptl p spid dpa d en poison carry) s (inScratch l en data poison 0)) ∧
    (∀ l, at' = .scratch l → s.Arrives p spid dpa.toNat d allOnes carry →
      Gives (.memwr p spid dpa d poison carry) s (inScratch l allOnes data poison 0)) ∧
    (∀ l, at' = .scratch l → ¬ s.Arrives p spid dpa.toNat d en carry →
      Gives (.memwrptl p spid dpa d en poison carry) s (inScratch l allOnes 0 true 8)) ∧
    (∀ a, at' = .fast a → s.Arrives p spid dpa.toNat d en carry → s.sealKey 1 (lineAddr dpa.toNat) = none →
      Gives (.memwrptl p spid dpa d en poison carry) s (queued a en none)) ∧
    (∀ a, at' = .fast a → s.Arrives p spid dpa.toNat d allOnes carry →
      Gives (.memwr p spid dpa d poison carry) s (queued a allOnes (s.sealKey 1 (lineAddr dpa.toNat))))

/-- MEMWR and MEMWRPTL of the dense range, granted (02:R64, R72): a resident tile's line holds the code of the enabled bytes over the old ones and
is dirty; where no slot holds the tile and one can be chosen at once, that slot is taken FILLING with the line's stored bytes kept; where
the slot chosen is DIRTY its write-back begins and the store waits; and where none can be chosen, the store waits. -/
def Obligations.GrantedDenseWriteIsKept : Prop :=
  ∀ (s : State) (p : Port) (spid : Option (BitVec 12)) (dpa : Dpa) (d : Line) (en : Mask) (carry : Option Carry) (tile line : Nat) (c : Instr),
    s.Granted p spid dpa.toNat 1 → ¬ ((s.port p).credits = 0) → ¬ (en = 0) → s.Arrives p spid dpa.toNat d en carry →
    targetOf s.part s.t0.scratchMiB dpa.toNat = .dense tile line → s.storesFor tile = false →
    c = .memwrptl p spid dpa d en false carry ∨ (en = allOnes ∧ c = .memwr p spid dpa d false carry) →
    let data := carried carry d
    let kept (t : State) : Prop := t.resp = [.memCmp p] ∧ (t.port p).credits = (s.port p).credits - 1 ∧ t.link.freed = s.link.freed ++ [p] ∧
      t.link.waits = s.link.waits ∧ s.Reviewed { t with t0 := s.t0, t1 := s.t1, err := s.err } 0xC ∧ t.t0.scratch = s.t0.scratch ∧
      t.t1 = { s.t1 with corrections := t.t1.corrections }
    let waits (t : State) : Prop := t.t0.stores = s.t0.stores ++ [WStore.make tile line data en false (s.holderOf p spid) (some p)]
    (∀ x, s.slotOf tile = some x → Gives c s fun t => kept t ∧ t.t0.stores = s.t0.stores ∧
      ∃ y, t.slotOf tile = some y ∧ y.dirty.getLsbD line = true ∧ y.word line = some (writeT0 (x.idx * 64 + line) (x.word line) data en) ∧
        ∀ k, ¬ (k = line) → y.word k = x.word k) ∧
    (s.slotOf tile = none → s.beingTaken tile = false →
      (∀ i, (s.pickFor (s.holderOf p spid) none = .free i ∨ ∃ v, s.pickFor (s.holderOf p spid) none = .clean v ∧ v.idx = i) →
        Gives c s fun t => kept t ∧ t.t0.stores = s.t0.stores ∧
          ∃ y, t.slotOf tile = some y ∧ y.idx = i ∧ y.st = .filling ∧ y.dirty.getLsbD line = true ∧
            y.word line = some (writeT0 (i * 64 + line) none data en)) ∧
      (∀ v, s.pickFor (s.holderOf p spid) none = .dirty v →
        Gives c s fun t => kept t ∧ waits t ∧ t.beingTaken tile = true ∧ ∃ y, t.slotAt v.idx = some y ∧ y.st = .writing) ∧
      (s.pickFor (s.holderOf p spid) none = .nothing → Gives c s fun t => kept t ∧ waits t ∧ t.t0.pool = s.t0.pool))

/-- MEMINV, GPF_PHASE_1 and GPF_PHASE_2 are answered and change nothing; MEMSPECRD is discarded; an opcode of 11 Table 11-3 that the device does
not support (M2S_UNSUPPORTED) is answered so, with its record, and no flag (11:R275, R284). -/
def Obligations.RequestsWithoutMemoryEffect : Prop :=
  ∀ (s : State) (p : Port) (dpa : Dpa) (op : Byte),
    (s.memUp p = true → exec (.meminv p dpa) s = .next { s with resp := [.memCmp p] }) ∧
    exec (.memspecrd p dpa) s = .next { s with resp := [] } ∧
    ((s.port p).trained = true → exec (.gpfPhase1 p) s = .next { s with resp := [.gpfAck p 1] }) ∧
    ((s.port p).trained = true → exec (.gpfPhase2 p) s = .next { s with resp := [.gpfAck p 2] }) ∧
    (s.memUp p = true → Gives (.m2sUnsupported p op) s fun t =>
      t = { s with evt := t.evt, resp := [.memUnsupported p] } ∧ s.Flags t 0 ∧ t.evt.cnt = s.evt.cnt ∧
      ∃ e, t.evt.cyc.events = s.evt.cyc.events ++ [e] ∧ e.code = 0x42 ∧ e.payload.setWidth 8 = op)

/-- PORT_RESET, PERST_ASSERT, LINK_TRAINED and HDM_DECODER_COMMIT (11:R273, R274, R276, R277, R280, Table 11-4, 16:R411, 21:R505): a reset or PERST of
a powered port leaves it down with no credit and no waiting read and leaves the other port's credits; a link trains, with CXL.mem on where
it has at least four lanes and 16 GT/s, its Req credits handed out where memory is active, and its host reads the port's capabilities and
its readiness; and a decoder's commit is taken exactly where the previous decoder stands committed, its interleave is supported and its
skip and size are those of 11 Table 11-4: it then covers its range, and a refused one covers nothing. -/
def Obligations.PortsResetTrainAndDecode : Prop :=
  ∀ (s : State) (p : Port),
    let others (t : State) : Prop := ∀ q, ¬ (q = p) → t.port q = s.port q
    let isDown (t : State) : Prop := others t ∧ t.port p = .down ∧ (¬ p ∈ t.link.freed) ∧ (∀ w ∈ t.link.waits, ¬ (w.port = p)) ∧ t.resp = []
    (s.portPowered p = true → ∀ k : ResetKind, Gives (.portReset p k) s fun t => isDown t ∧ s.Reviewed t 0) ∧
    (s.portPowered p = true → Gives (.perstAssert p) s fun t => isDown t ∧ s.Reviewed { t with pin := s.pin } 0 ∧
      t.pin = (if p = 0 then { s.pin with perst0 := true } else { s.pin with perst1 := true })) ∧
    (s.portPowered p = true → (s.port p).trained = false → ∀ width rate : Nat,
      Gives (.linkTrained p width rate) s fun t => others t ∧ (t.port p).trained = true ∧ (t.port p).width = width ∧ (t.port p).rate = rate ∧
        (t.port p).memOn = (decide (4 ≤ width) && decide (16 ≤ rate)) ∧ (t.port p).credits = 0 ∧
        (t.port p).req = (if (t.port p).memOn = true ∧ s.link.memActive = true then 64 else 0) ∧
        (∀ x ∈ (t.port p).decoders, x.committed = false) ∧ t.link.waits = s.link.waits ∧ s.Reviewed { t with pin := s.pin } 0 ∧
        t.resp = [.cxlCaps p s.part.caps, .portStatus p ⟨s.link.memActive, 4, s.mediaStatus, true⟩] ∧
        t.pin = (if p = 0 then { s.pin with perst0 := false } else { s.pin with perst1 := false })) ∧
    ((s.port p).trained = true → (s.port p).decoders.length = 3 → ∀ (n : Fin 3) (skip size ways granularity : Nat),
      let prev := lgetD (s.port p).decoders (n.val - 1) .none
      let taken : Prop := (n.val = 0 ∨ prev.committed = true) ∧ interleaveOk n ways granularity = true ∧ s.part.decoder n = some (skip, size)
      let base := (if n.val = 0 then 0 else prev.base + prev.size) + skip
      (taken → Gives (.hdmDecoderCommit p n skip size ways granularity) s fun t => others t ∧
        t = { s with link := t.link, resp := [.decoder p n.val true] } ∧ ∀ a, base ≤ a → a < base + size → t.decoded p a = true) ∧
      (¬ taken → Gives (.hdmDecoderCommit p n skip size ways granularity) s fun t => others t ∧
        t = { s with link := t.link, resp := [.decoder p n.val false] } ∧ (lgetD (t.port p).decoders n.val .none).committed = false))

/-- RWD_CREDIT_RETURN. A returnable credit goes back to the port whose turn it is, when the write-credit rule and the restrictions allow one more
(01:R39, 11:R281). -/
def Obligations.CreditGoesBackInTurn : Prop :=
  ∀ (s : State) (p : Port), s.md.mode = .service → s.link.memActive = true → s.memUp p = true → s.creditTurn p = true →
    s.evalCredits.creditFree = true →
    Gives (.rwdCreditReturn p) s fun t => t.resp = [.creditReturned p] ∧ (t.port p).credits = (s.port p).credits + 1 ∧
      (∀ q, ¬ (q = p) → t.port q = s.port q) ∧ t.link.freed = s.link.freed.erase p ∧ t.link.lastReturn = some p ∧
      t.link.waits = s.link.waits ∧ t.dirtyBytes + 64 * t.creditsHeld ≤ t.budgetBytes ∧ s.Reviewed t 0 ∧ t.t2 = s.t2

/-! ### The ferry (04) -/

/-- DOORBELL_START, DOORBELL_MARK, DOORBELL_RESUME, DOORBELL_SKIP, DOORBELL_ABORT, DOORBELL_NOP and DOORBELL_BAD_CMD. A granted doorbell write on
a held credit is answered, and acts on its channel (04:R102-R106, R113, R118, Table 04-4): START in IDLE loads the route, all else but the outcome
and the counters begun anew; MARK of a STREAM route moves the mark up, not past the total, and the window keeps no position below mark − trail;
RESUME of a HALTED channel fetches its route again, or, after a tile's halt, its tile; SKIP passes over the halted tile, and over the positions
below mark − trail; ABORT stops the route; NOP does nothing; a command byte of 0x06 or above is refused. A command of another holder than the
owner, or in a state that does not admit it, is refused and changes only the result. -/
def Obligations.DoorbellsActOnTheirChannel : Prop :=
  ∀ (s : State) (p : Port) (spid : Option (BitVec 12)) (c : Fin 64) (route : Dpa) (mark : Word), s.Granted p spid (bellDpa c) 1 →
    ¬ ((s.port p).credits = 0) → s.md.mode = .service → c.val < s.part.channels → s.bellHeld c.val = false → s.ferry.chans.length = 64 →
    s.t0.scratchMiB ≤ 16 → rising (s.t0.pool.map fun x => (x.idx, x)) = true →
    let x := s.chan c.val
    let spent (t : State) : Prop := t.resp = [.memCmp p] ∧ (t.port p).credits = (s.port p).credits - 1 ∧ t.link.freed = s.link.freed ++ [p] ∧
      t.link.waits = s.link.waits
    let done (t : State) : Prop := spent t ∧ s.OneChan t c.val ∧ s.Reviewed { t with ferry := s.ferry } 0
    let moved (t : State) : Prop := spent t ∧ s.OneChan t c.val ∧ t.t0 = { s.t0 with pool := t.t0.pool } ∧
      t.t1 = { s.t1 with corrections := t.t1.corrections } ∧ s.Reviewed { t with ferry := s.ferry, t0 := s.t0, t1 := s.t1, err := s.err } 0xC
    let running : Chan := { x with state := .running, result := 1, halt := 0, stall := 0, stallSince := none, stallTold := false }
    (s.owner c.val = some (s.holderOf p spid) →
      (x.state = .idle → (∀ h, s.peekHeader c.val (s.holderOf p spid) route.toNat = some h → s.md.restrict.refusesStart h.op = false) →
        Gives (.doorbellStart p spid c route) s fun t => done t ∧ t.chan c.val =
          { Chan.zero with state := .loading, result := 1, outcome := x.outcome, route := route, cnt := x.cnt, op := (t.chan c.val).op,
                           tag := (t.chan c.val).tag, total := (t.chan c.val).total }) ∧
      (x.state.active = true → x.op = 6 →
        Gives (.doorbellMark p spid c mark) s fun t => moved t ∧ (t.chan c.val).result = 1 ∧ (t.chan c.val).route = x.route ∧
          (mark.toNat ≤ x.mark.toNat → t.chan c.val = { x with result := 1 }) ∧
          (x.mark.toNat < mark.toNat → (t.chan c.val).mark.toNat = min mark.toNat x.total.toNat ∧
            ∀ w n lead, s.windowOf c.val = some (w, n, lead) → ∀ y ∈ t.t0.pool, y.win = some w → (t.chan c.val).mark.toNat - (n - lead) ≤ y.pos)) ∧
      (x.state = .halted → x.halt.toNat < 7 ∨ 9 < x.halt.toNat →
        Gives (.doorbellResume p spid c) s fun t => done t ∧ t.chan c.val = { x with state := .loading, result := 1, halt := 0, resumed := true }) ∧
      (x.state = .halted → 7 ≤ x.halt.toNat → x.halt.toNat ≤ 9 → ¬ (x.op = 6) → x.complete = false →
        Gives (.doorbellResume p spid c) s fun t => done t ∧ t.chan c.val = running) ∧
      (x.state = .halted → 7 ≤ x.halt.toNat → x.halt.toNat ≤ 9 →
        Gives (.doorbellSkip p spid c) s fun t => moved t ∧ (t.chan c.val).cnt.skipped = satAdd x.cnt.skipped 1 ∧ (t.chan c.val).result = 1 ∧
          (t.chan c.val).mark = x.mark ∧
          (¬ (x.op = 6) → (t.chan c.val).done = x.done + 1) ∧
          (x.op = 6 → s.inFlightOf c.val = false → x.filled.toNat < x.total.toNat →
            (t.chan c.val).filled.toNat = max (x.filled.toNat + 1) (min (x.mark.toNat - s.trail c.val) x.total.toNat))) ∧
      (x.state.active = true →
        Gives (.doorbellAbort p spid c) s fun t => done t ∧
          t.chan c.val = { x with state := .aborting, result := 1, stall := 0, halt := 0, stallSince := none, stallTold := false }) ∧
      (∀ q ∈ [(3, Instr.doorbellResume p spid c), (5, .doorbellAbort p spid c), (1, .doorbellStart p spid c route), (2, .doorbellMark p spid c mark),
          (4, .doorbellSkip p spid c)], x.admits q.1 = false → Gives q.2 s fun t => done t ∧ t.chan c.val = { x with result := 6 })) ∧
    (∀ o, s.owner c.val = some o → ¬ (s.holderOf p spid = o) →
      ∀ i ∈ [Instr.doorbellStart p spid c route, .doorbellMark p spid c mark, .doorbellResume p spid c, .doorbellSkip p spid c, .doorbellAbort p spid c],
        Gives i s fun t => done t ∧ t.chan c.val = { x with result := 2 }) ∧
    Gives (.doorbellNop p spid c) s (fun t => done t ∧ t.ferry = s.ferry) ∧
    (∀ cmd : Byte, 6 ≤ cmd.toNat →
      Gives (.doorbellBadCmd p spid c cmd) s fun t => done t ∧ t.chan c.val = { x with result := 5 } ∧ ∃ e ∈ t.evt.cyc.events, e.code = 0x10)

/-- ROUTE_HEADER_LOADED and LEG_FETCH (04:R107, R108, R112, Table 04-11): a LOADING channel whose header line can be read, whose CRC holds, whose
route lies in one range and whose fields stand runs with the header's op, legs, tag, pattern and total; a RUNNING channel with no leg
fetched takes the leg that its route line holds, where the leg stands. A route that is not aligned, that the gate denies or that is
uncorrectable, a header or a leg whose CRC fails, and a header or a leg that does not stand halt the channel with their causes. -/
def Obligations.RoutesAreRead : Prop :=
  ∀ (s : State) (c : Fin 64) (o : Holder) (h : Header) (l : Leg) (again : Reread) (k : Nat) (d : Line) (s1 : State), s.md.mode = .service →
    s.ferry.chans.length = 64 → s.owner c.val = some o →
    let x := s.chan c.val
    let dpa := x.route.toNat + 64 + 32 * x.leg.toNat
    let read (a : Nat) : Prop := s.fresh.routeLine c.val o a (rereadOf again 0) = (k, d, s1)
    let kept (t : State) : Prop := t = { s with ferry := t.ferry, t1 := { s.t1 with corrections := t.t1.corrections }, keys := t.keys, cad := t.cad,
                                                err := t.err, evt := t.evt, resp := [] }
    let ran (t : State) : Prop := kept t ∧ s.OneChan t c.val
    let halted (t : State) (cause : Nat) : Prop := kept t ∧ s.Halted t c.val cause
    (x.state = .loading →
      (¬ (x.route.toNat % 64 = 0) → Gives (.routeHeaderLoaded c again) s fun t => halted t 1 ∧ t.t1 = s.t1) ∧
      (x.route.toNat % 64 = 0 → read x.route.toNat →
        (¬ (k = 0) → Gives (.routeHeaderLoaded c again) s fun t => halted t k ∧ (k = 1 ∨ k = 2 ∨ k = 10)) ∧
        (k = 0 → headerCrcOk d = false → Gives (.routeHeaderLoaded c again) s fun t => halted t 3) ∧
        (k = 0 → headerCrcOk d = true → s1.routeInside x.route.toNat (fld d 6 2) = false →
          Gives (.routeHeaderLoaded c again) s fun t => halted t 1) ∧
        (k = 0 → headerCrcOk d = true → s1.routeInside x.route.toNat (fld d 6 2) = true → headerOf d = none →
          Gives (.routeHeaderLoaded c again) s fun t => halted t 3) ∧
        (k = 0 → headerOf d = some h → s1.routeInside x.route.toNat (fld d 6 2) = true →
          (s1.headerCause c.val h = 0 → Gives (.routeHeaderLoaded c again) s fun t => ran t ∧
            t.chan c.val = { x with state := .running, stall := 0, halt := 0, stallSince := none, stallTold := false, resumed := false, cur := none,
                                    op := BitVec.ofNat 8 h.op, tag := h.tag, pattern := h.pattern, legs := BitVec.ofNat 16 h.legs,
                                    total := BitVec.ofNat 32 h.total }) ∧
          (¬ (s1.headerCause c.val h = 0) → Gives (.routeHeaderLoaded c again) s fun t => halted t (s1.headerCause c.val h))))) ∧
    (x.state = .running → x.cur = none → x.complete = false → read (dpa / 64 * 64) →
      (k = 0 → legOf d (dpa % 64 / 32) = some l → s1.legStands x l = true → x.tile.toNat < l.count.toNat →
        Gives (.legFetch c again) s fun t => ran t ∧ t.chan c.val = { x with cur := some l }) ∧
      (k = 0 → (legOf d (dpa % 64 / 32) = none ∨ (legOf d (dpa % 64 / 32) = some l ∧ s1.legStands x l = false)) →
        Gives (.legFetch c again) s fun t => halted t 6))

/-- FETCH_TILE, WRITEBACK_TILE, COPY_TILE, FILL_TILE, VERIFY_TILE and STREAM_FILL. Where the gates pass and no stall cause of 04 Table 04-10 holds,
a step of a RUNNING channel completes one tile and counts it done (04:R100, R101, R116-R118, Table 04-2): FETCH of a resident tile does
nothing else, and of a tile in no slot fills a FREE slot with the tile's lines; WRITEBACK of a tile that is not resident or not dirty does
nothing else, and of a dirty one puts its record on its way and leaves the slot CLEAN; COPY of a readable dense tile into the fast tier, and
FILL, queue its 64 lines; VERIFY of a sound fast tile, or of a dense tile that is not stored, does nothing else; and STREAM fills the next
position, in its window where the tile is in no slot. Lines that fail hop 0x0E halt with SOURCE_UE and write nothing, and a poisoned source
of a COPY halts with its cause (06:R160, R161). -/
def Obligations.TransfersCompleteTiles : Prop :=
  ∀ (s : State) (c : Fin 64) (l : Leg) (o : Holder) (rd : TileRead) (again : Reread) (out : PackOutcome) (moves : List (Fin 64 × Carry)) (op : Nat),
    s.Moves c.val op l o → s.ferry.chans.length = 64 → (s.chan c.val).tile.toNat + 1 < l.count.toNat →
    (s.chan c.val).done.toNat + 1 < (s.chan c.val).total.toNat → s.inFlightOf c.val = false → s.engineFull c.val = false →
    let x := s.chan c.val
    let src := l.source.toNat + x.tile.toNat * 4096
    let dst := l.dest.toNat + x.tile.toNat * 4096
    s.stepCause c.val op ⟨src, dst, o⟩ = 0 →
    let tile := tileNo src
    let g := (s.fresh.readTile tile rd).1
    let one (t : State) : Prop := s.OneChan t c.val ∧ t.chan c.val =
      { x.landed with tile := x.tile + 1, done := x.done + 1, filled := if x.op = 6 then x.filled + 1 else x.filled }
    let only (t : State) : Prop := one t ∧ t = { s with ferry := t.ferry, resp := [] }
    let filledIn (i : Nat) (st : SlotState) (win : Option Nat) (pos : Nat) (t : State) : Prop := one t ∧
      t = { s with ferry := t.ferry, t0 := { s.t0 with pool := t.t0.pool }, t1 := { s.t1 with corrections := t.t1.corrections }, keys := t.keys,
                   free := s.free + 1, resp := [] } ∧
      ∃ y, t.slotOf tile = some y ∧ y.idx = i ∧ y.st = st ∧ y.win = win ∧ y.pos = pos ∧ y.holder = o ∧ y.valid = allOnes ∧ y.dirty = 0 ∧
        y.poison = (g.stored ||| g.failed) ∧
        ∀ k < 64, y.word k = if tgetD g.lines k 0 = 0 then none else some (encT0 (i * 64 + k) (tgetD g.lines k 0))
    let readable : Prop := s.slotOf tile = none ∧ s.beingTaken tile = false ∧ s.tileBank tile = none ∧ g.hops = [] ∧ moves = [] ∧
      s.storesFor tile = false ∧ ∀ w ∈ s.link.waits, ¬ (w.tile = tile)
    let queued (ls : List Line) (t : State) : Prop := one t ∧ s.Reviewed { t with ferry := s.ferry, t1 := s.t1, keys := s.keys } 0 ∧
      t.link = s.link ∧ t.t1 = { s.t1 with wq := s.t1.wq ++ ((List.range 64).zip ls).map fun q =>
        ⟨(dst + q.1 * 64 - fastBase) / 64, wqWords ((dst + q.1 * 64 - fastBase) / 64) q.2 false, allOnes, s.sealKey 1 (dst + q.1 * 64), some c.val⟩ }
    let halted (cause : Nat) (t : State) : Prop := s.Halted t c.val cause ∧ t.t0 = s.t0 ∧ t.t1 = s.t1 ∧ t.t2 = s.t2
    (op = 1 → s.TilePermits src o 0 →
      ((s.slotOf tile).isSome = true → Gives (.fetchTile c rd moves) s only) ∧
      (readable → ∀ i, s.pickFor o none = .free i → Gives (.fetchTile c rd moves) s (filledIn i .clean none 0))) ∧
    (op = 2 → s.TilePermits src o 1 →
      (s.slotOf tile = none → Gives (.writebackTile c out) s only) ∧
      (∀ y, s.slotOf tile = some y → y.dirty = 0 → Gives (.writebackTile c out) s only) ∧
      (∀ y b r, s.slotOf tile = some y → ¬ (y.dirty = 0) → y.win = none → s.fresh.snapshot y .keep = (b, s.fresh) →
        s.fresh.build tile y.holder b.lines b.poison b.crc out = (.record r, s.fresh) → s.growthOk tile r.sectors = true →
        Gives (.writebackTile c out) s fun t => one t ∧ s.Reviewed { t with ferry := s.ferry, t0 := s.t0, t2 := s.t2, err := s.err } 0 ∧
          t.t2.tileMap = s.t2.tileMap ∧ t.t2.pages = s.t2.pages ∧
          (∃ z, t.slotOf tile = some z ∧ z = { y with st := .clean, dirty := 0, wb := none }) ∧
          ∃ m, t.t2.moving = s.t2.moving ++ [m] ∧ m.tile = tile ∧ m.sectors = r.sectors ∧ m.crc = r.crc ∧ m.cls = s.plan.classOf tile ∧
            m.origin = none)) ∧
    (op = 3 → s.TilePermits src o 0 → s.TilePermits dst o 1 → isFast src = false → isFast dst = true → readable →
      (g.stored = 0 → g.failed = 0 → Gives (.copyTile c rd again out moves) s (queued ((List.range 64).map fun i => tgetD g.lines i 0))) ∧
      (¬ (g.stored ||| g.failed = 0) → Gives (.copyTile c rd again out moves) s (halted 9))) ∧
    (op = 4 → s.TilePermits dst o 1 →
      let line : Line := pack 512 ((List.range 16).map fun j => (4 * j, 4, x.pattern.toNat))
      (moveTile (List.replicate 64 (.of line)) moves dst o = none → Gives (.fillTile c moves) s (halted 8)) ∧
      (moves = [] → Gives (.fillTile c moves) s (queued (List.replicate 64 line)))) ∧
    (op = 5 → s.TilePermits src o 0 →
      (isFast src = false → tget s.t2.tileMap tile = none → Gives (.verifyTile c rd again) s only) ∧
      (isFast src = true → (∀ i < 64, (decLine (lineFold ((src - fastBase) / 64 + i)) (s.t1Words ((src - fastBase) / 64 + i))).cls = .clean) →
        Gives (.verifyTile c rd again) s only)) ∧
    (op = 6 → s.TilePermits src o 0 → ∀ w n lead, s.windowOf c.val = some (w, n, lead) →
      x.mark.toNat - (n - lead) ≤ x.filled.toNat → x.filled.toNat < min (x.mark.toNat + lead) x.total.toNat →
      (∀ y, s.slotOf tile = some y → ¬ (y.win = some w) → Gives (.streamFill c rd moves) s only) ∧
      (readable → ∀ i, s.pickFor o (some w) = .free i →
        Gives (.streamFill c rd moves) s (filledIn i .window (some w) x.filled.toNat)))

/-- BANK_WAIT_STALL, STALL_CLEARED, FERRY_STALL_TIMEOUT, ABORT_COMPLETE and CHANNEL_PARKED (04:R110, R111, R114, R119, R124): a transfer that was
issued and waits for its bank stalls a RUNNING channel with BANK; a stall whose cause no longer holds ends in RUNNING, and one that holds is
shown; after 1 ms STALLED without a break FERRY_STALLED is set with its record, once; an ABORTING channel with no transfer in flight
becomes IDLE with outcome ABORTED, and its window is released; and in CAUSEWAY a channel that is not idle, with no transfer in flight, parks,
keeping what its route was. -/
def Obligations.StallsAbortsAndParking : Prop :=
  ∀ (s : State) (c : Fin 64), s.ferry.chans.length = 64 →
    let x := s.chan c.val
    let only (t : State) : Prop := s.OneChan t c.val ∧ t = { s with ferry := t.ferry, evt := t.evt, resp := [] }
    let quiet (t : State) : Prop := only t ∧ t.evt.stat = s.evt.stat ∧ t.evt.en = s.evt.en ∧ t.evt.cnt = s.evt.cnt
    let ended : Chan := { x.landed with stall := 0, halt := 0, stallSince := none, stallTold := false }
    (∀ op l o, s.Moves c.val op l o → s.engineFull c.val = false →
      (s.inFlightOf c.val = true ∨
        ((op = 4 ∨ s.TilePermits (l.source.toNat + x.tile.toNat * 4096) o (if op = 2 then 1 else 0)) ∧
         (¬ (op = 3 ∨ op = 4) ∨ s.TilePermits (l.dest.toNat + x.tile.toNat * 4096) o 1))) →
      Gives (.bankWaitStall c) s fun t => quiet t ∧ t.chan c.val =
        { x with state := .stalled, stall := 1, stallSince := some s.clk.ts, stallTold := false, bankWait := true,
                 cnt := { x.cnt with bank := satAdd x.cnt.bank 1 } }) ∧
    (s.md.mode = .service → x.state = .stalled →
      (s.stallNow c.val = 0 → Gives (.stallCleared c) s fun t => quiet t ∧
        t.chan c.val = { x with state := .running, stall := 0, halt := 0, stallSince := none, stallTold := false }) ∧
      (¬ (s.stallNow c.val = 0) → Gives (.stallCleared c) s fun t => quiet t ∧ (t.chan c.val).state = .stalled ∧
        (t.chan c.val).stall.toNat = s.stallNow c.val)) ∧
    (∀ t0, x.state = .stalled → x.stallTold = false → x.stallSince = some t0 → s.since t0 msec = true →
      Gives (.ferryStallTimeout c) s fun t => only t ∧ s.Flags t 0x20 ∧ t.evt.stat.getLsbD 5 = true ∧ t.chan c.val = { x with stallTold := true } ∧
        ∃ e, t.evt.cyc.events = s.evt.cyc.events ++ [e] ∧ e.code = 0x12 ∧ e.bit = some 5 ∧ e.source = srcChan c.val) ∧
    (s.md.mode = .service → x.state = .aborting → s.inFlightOf c.val = false →
      (¬ (x.op = 6) → Gives (.abortComplete c) s fun t => quiet t ∧ t.chan c.val = { ended with state := .idle, outcome := 2 }) ∧
      (x.op = 6 → rising (s.t0.pool.map fun y => (y.idx, y)) = true → Gives (.abortComplete c) s fun t => s.OneChan t c.val ∧
        t.chan c.val = { ended with state := .idle, outcome := 2 } ∧ t.t2 = s.t2 ∧ t.t1.cells = s.t1.cells ∧ t.plan = s.plan ∧
        ∀ w n lead, s.windowOf c.val = some (w, n, lead) → (∀ y ∈ s.t0.pool, y.pos < 2 ^ 40) → ∀ y ∈ t.t0.pool, ¬ (y.win = some w))) ∧
    (s.md.mode = .causeway → x.state.active = true ∨ x.state = .aborting → s.inFlightOf c.val = false →
      Gives (.channelParked c) s fun t => quiet t ∧
        t.chan c.val = { ended with state := .parked, parkedRoute := some (x.op, x.leg, x.tile, x.tag) })

/-! ### The dense tier (05, 02, 07) -/

/-- DEMAND_FETCH_DONE, BYPASS_READ and QUEUED_STORE_INSTALL (02:R64, R65, R67, R72). A demand fetch whose bank grants it leaves its slot CLEAN, or
DIRTY where it was stored to, with every line valid: lines not stored to hold what the tile's record holds, those it poisons or that
failed are poisoned, and stored bytes stay; every read that waited is answered, and a fetch that failed sets ECC_UE. A read that has waited
12 us without a slot is answered from the tile as it is read, under the stores that wait for it. Stores that waited for a tile that is now
resident are applied to its slot. -/
def Obligations.DemandPathServesTiles : Prop :=
  ∀ (s : State) (tile : Nat) (rd : TileRead),
    let g := (s.fresh.readTile tile rd).1
    (∀ x, s.fillingSlot tile = some x → x.doomed = false → s.slotAt x.idx = some x → s.slotOf tile = some x → s.mayFetch = true →
      s.BankGrants (s.tileBank tile) (.host x.port) → s.t0.stores = [] → (∀ w ∈ s.link.waits, w.tile = tile ∧ w.line < 64) →
      Gives (.demandFetchDone tile rd) s fun t =>
        t = { s with t0 := { s.t0 with pool := t.t0.pool }, t1 := { s.t1 with corrections := t.t1.corrections },
                     t2 := { s.t2 with relocQ := t.t2.relocQ }, link := { s.link with waits := [] }, keys := t.keys, err := t.err, evt := t.evt,
                     tide := { s.tide with forced := t.tide.forced }, md := { s.md with restrict := t.md.restrict }, arb := t.arb, free := s.free + 1,
                     resp := t.resp } ∧
        s.Flags t 0x1000C ∧ (¬ (g.hops = []) → t.evt.stat.getLsbD 3 = true) ∧ t.resp.length = s.link.waits.length ∧
        ∃ y, t.slotOf tile = some y ∧ y.idx = x.idx ∧ y.valid = allOnes ∧ y.pen = [] ∧ y.dirty = x.dirty ∧
          y.st = (if x.win.isSome = true then .window else if x.dirty = 0 then .clean else .dirty) ∧
          ∀ k < 64, (x.dirty.getLsbD k = false → y.poison.getLsbD k = (g.stored ||| g.failed).getLsbD k ∧
              y.word k = if tgetD g.lines k 0 = 0 then none else some (encT0 (x.idx * 64 + k) (tgetD g.lines k 0))) ∧
            (x.dirty.getLsbD k = true → tget x.pen k = none → y.word k = x.word k ∧ y.poison.getLsbD k = x.poison.getLsbD k) ∧
            (∀ m, x.dirty.getLsbD k = true → tget x.pen k = some m → g.failed.getLsbD k = false →
              y.word k = some (writeT0 (x.idx * 64 + k) (x.word k) (tgetD g.lines k 0) (~~~ m)))) ∧
    (∀ n w, s.link.waits[n]? = some w → w.tile = tile → s.since w.since (12 * usec) = true → s.slotOf tile = none → s.beingTaken tile = false →
      s.mayFetch = true → s.BankGrants (s.tileBank tile) (.host (some w.port)) → w.out = none →
      Gives (.bypassRead n rd) s fun t =>
        t = { s with link := { s.link with waits := s.link.waits.eraseIdx n }, t2 := { s.t2 with relocQ := t.t2.relocQ }, keys := t.keys,
                     err := t.err, evt := t.evt, arb := t.arb, resp := t.resp } ∧
        s.Flags t 0xC ∧ (¬ (g.hops = []) → t.evt.stat.getLsbD 3 = true) ∧
        t.resp = [if (bypassLine g tile w.line s.t0.stores).2 = true then .memData w.port 0 true
                  else .memData w.port (bypassLine g tile w.line s.t0.stores).1 false]) ∧
    (∀ x, s.slotOf tile = some x → s.storesFor tile = true →
      Gives (.queuedStoreInstall tile) s fun t => t.t0.stores = s.t0.stores.filter (fun w => !(w.tile == tile)) ∧ t.t0.scratch = s.t0.scratch ∧
        s.Reviewed { t with t0 := s.t0, t1 := s.t1, err := s.err } 0xC ∧ t.t1 = { s.t1 with corrections := t.t1.corrections } ∧
        ∀ w, s.t0.stores.filter (fun w => w.tile == tile) = [w] → ¬ (w.enables = 0) →
          ∃ y, t.slotOf tile = some y ∧ y.dirty.getLsbD w.line = (decide (w.line < 64)) ∧
            y.word w.line = some (writeT0 (x.idx * 64 + w.line) (x.word w.line) w.data w.enables))

/-- RECORD_PACKED, PAGE_PROGRAM, PAGE_PROGRAM_RETRY and WRITE_BACK_COMMIT (05:R130-R143, 06:R159, R161, 08:R202, R203, 02:R75). A read-out whose
record is built and may grow is packed for its tile's class; its slot becomes CLEAN, or is taken for the tile that asked for it; a
tile of zeros leaves the map; and a record that may not grow pins its slot. A due image that its bank grants is programmed into a free
page at its strength and the next generation, its pieces placed where at most a quarter of the strength of cells are wrong; otherwise
the image stays, the bank counts the failure and the record 0x24 tells it; the same 1 ms after a third rejection. A piece whose buffer
lines do not decode is not programmed: its tile's record becomes one of 64 poisoned lines, with ECC_UE. A record with all its pieces placed
becomes the tile's stored copy, and the old copy's sectors are freed. -/
def Obligations.WriteBackReachesTheMap : Prop :=
  ∀ (s : State),
    (∀ (n : Nat) (o : PackOutcome) (x : Slot) (b : Snapshot), s.slotAt n = some x → x.wb = some b → s.mayPack = true → s.md.mode = .service →
      x.doomed = false → x.dirty &&& ~~~ b.dirty = 0 →
      let quiet (t : State) : Prop := t.t0 = { s.t0 with pool := t.t0.pool } ∧ t.t1 = { s.t1 with corrections := t.t1.corrections } ∧
        s.Reviewed { t with t0 := s.t0, t1 := s.t1, t2 := { t.t2 with moving := s.t2.moving, bufs := s.t2.bufs }, err := s.err } 0xC
      let packed (r : TileRec) (t : State) : Prop := ∃ m, t.t2.moving = s.t2.moving ++ [m] ∧ m.tile = x.tile ∧ m.sectors = r.sectors ∧ m.crc = r.crc ∧
        m.poisonL = r.poisonL ∧ m.cls = s.plan.classOf x.tile ∧ m.head = none ∧ m.tail = none ∧ m.origin = none
      (∀ r, s.fresh.build x.tile x.holder b.lines b.poison b.crc o = (.record r, s.fresh) →
        (s.growthOk x.tile r.sectors = true → b.next = .keep → x.win = none → s.link.waits = [] → s.t0.stores = [] →
          Gives (.recordPacked n o) s fun t => quiet t ∧ packed r t ∧
            t.slotAt n = some { x with st := .clean, dirty := 0, wb := none }) ∧
        (∀ tile h p c w pos, s.growthOk x.tile r.sectors = true → b.next = .take tile h p c w pos →
          Gives (.recordPacked n o) s fun t => quiet t ∧ packed r t ∧
            ∃ y, t.slotAt n = some y ∧ y.st = .filling ∧ y.tile = tile ∧ y.holder = h ∧ y.port = p ∧ y.chan = c ∧ y.win = w ∧ y.valid = 0 ∧
              y.dirty = 0 ∧ y.lines = []) ∧
        (s.growthOk x.tile r.sectors = false →
          Gives (.recordPacked n o) s fun t => quiet t ∧ t.t2.moving = s.t2.moving ∧ t.t2.bufs = s.t2.bufs ∧
            t.slotAt n = some { x with st := .pinned, wb := none })) ∧
      (s.fresh.build x.tile x.holder b.lines b.poison b.crc o = (.zero, s.fresh) → b.next = .keep → x.win = none → s.link.waits = [] →
        s.t0.stores = [] → rising s.t2.tileMap = true → (∀ y ∈ s.t0.pool, ¬ (y.st = .pinned)) →
        Gives (.recordPacked n o) s fun t => tget t.t2.tileMap x.tile = none ∧ (∀ m ∈ t.t2.moving, ¬ (m.tile = x.tile)) ∧
          (∀ k, ¬ (k = x.tile) → tget t.t2.tileMap k = tget s.t2.tileMap k) ∧ t.slotAt n = some { x with st := .clean, dirty := 0, wb := none })) ∧
    (∀ (cls : Fin 8) (page : Nat) (o : ProgramOutcome) (b : PackBuf) (c : Instr), rising s.t2.bufs = true → tgetD s.t2.bufs cls.val [] = [b] →
      (b.rejectedAt = none ∧ c = .pageProgram cls page o ∨
        (∃ at3, b.rejectedAt = some at3 ∧ s.since at3 msec = true) ∧ c = .pageProgramRetry cls page o) →
      b.lastBank = none → s.denseWriteOk = true → s.imageDue cls.val b [] = true → s.pageFree page = true → tgetD s.t2.left page [] = [] →
      s.t2.toPreset.contains page = false → s.ceilingReady = true → s.BankGrants (some (s.part.pageBank page)) s.programReq →
      let lines (p : Piece) := pieceLines s.t2.moving cls.val p o.sram
      let wrong := o.wrong.dedup
      let counted (t : State) : Prop := t.t2.seqNo = s.t2.seqNo + 1 ∧ (∀ k, ¬ (k = page) → tget t.t2.pages k = tget s.t2.pages k) ∧
        t.t2.tileMap = s.t2.tileMap ∧ t.t0 = s.t0 ∧ t.t1 = s.t1 ∧
        (t.region (s.part.pageBank page) (s.part.pageRegion page)).programs = (s.region (s.part.pageBank page) (s.part.pageRegion page)).programs + 1
      ((∀ p ∈ b.pieces, ∀ k ∈ (lines p).2, badLine k = false) →
        (wrong.length * 4 ≤ b.t → Gives c s fun t => counted t ∧ tget t.t2.bufs cls.val = none ∧
          ∃ q, tget t.t2.pages page = some q ∧ q.errs = wrong ∧
            q.img = ⟨0xC5, b.t, cls.val, BitVec.ofNat 32 s.t2.seqNo, b.pieces, b.pieces.flatMap fun p => (lines p).1⟩ ∧
            ∀ p m, b.pieces = [p] → s.t2.moving = [m] → m.has cls.val p = true → p.tail = false →
              q.freed = [] ∧ t.t2.moving = [{ m with head := some (page, b.t, BitVec.ofNat 32 s.t2.seqNo) }]) ∧
        (¬ (wrong.length * 4 ≤ b.t) → Gives c s fun t => counted t ∧ tget t.t2.pages page = none ∧ t.t2.moving = s.t2.moving ∧
          (t.bankErr (s.part.pageBank page)).writeFails = satAdd (s.bankErr (s.part.pageBank page)).writeFails 1 ∧
          (∃ e ∈ t.evt.cyc.events, e.code = 0x24 ∧ e.source = srcBank (s.part.pageBank page)) ∧
          ∃ b', tget t.t2.bufs cls.val = some [b'] ∧ b'.pieces = b.pieces ∧ b'.t = b.t ∧ b'.rejects = b.rejects + 1 ∧
            b'.lastBank = some (s.part.pageBank page) ∧ b'.rejectedAt = if 3 ≤ b.rejects + 1 then some s.clk.ts else none)) ∧
      (∀ p m, b.pieces = [p] → s.t2.moving = [m] → m.has cls.val p = true → m.head = none → m.tail = none → m.origin = none →
        (∃ k ∈ (lines p).2, badLine k = true) →
        Gives c s fun t => t.evt.stat.getLsbD 3 = true ∧ t.t2.tileMap = s.t2.tileMap ∧ t.t1 = s.t1 ∧
          ∃ m', t.t2.moving = [m'] ∧ m'.tile = p.tile ∧ m'.poisonL = some 0 ∧ m'.crc = tileCrc (substituted [] allOnes) p.tile ∧ m'.head = none)) ∧
    (∀ (tile : Nat) (m : Moving) (rest : List Moving) (page t0 : Nat) (g : Word),
      takeFirst (fun m : Moving => m.tile == tile) s.t2.moving = some (m, rest) → m.head = some (page, t0, g) → m.split = false →
      m.tail = none → s.moveStale m = false → s.releaseHolds tile = false → s.mayCommit = true → (∀ y ∈ s.t0.pool, ¬ (y.st = .pinned)) →
      Gives (.writeBackCommit tile) s fun t =>
        tget t.t2.tileMap tile = some ⟨page, m.first, m.sectors, none, g, 0, t0, 0⟩ ∧ t.t2.moving = rest ∧
        (∀ k, ¬ (k = tile) → tget t.t2.tileMap k = tget s.t2.tileMap k) ∧ s.Reviewed { t with t2 := s.t2 } 0 ∧
        (tget s.t2.tileMap tile = none → t.t2.pages = s.t2.pages) ∧
        ∀ e, tget s.t2.tileMap tile = some e → e.page2 = none → ∀ p, tget s.t2.pages e.page = some p →
          (∃ x ∈ p.pieces, x.tile = tile ∧ x.tail = false ∧ x.first = e.first) →
          ∃ q, tget t.t2.pages e.page = some q ∧ q.img = p.img ∧ e.first ∈ q.freed)

/-- PAGE_PRESET, RELOCATION, RECLAIM, GAP_MOVE_T2 and GATE_RELOAD_DONE (05:R139, R144, R146, 07:R181-R183, 18:R442, 10:R258), each granted by its
bank: a page left without a piece is preset and counted; relocation takes the first page of its queue, reclaim a page with the fewest live
sectors, and each puts the page's records, as they are stored, into the packing buffers without touching the map; a charter page moves to
a free page with its generation, and on the RBK-9204 is rewritten in its place; a region that owes a gap move makes it, its programs less
by 128, and every page keeps its image; a source that cannot be read, or a target that is not accepted, leaves start and gap (log entry 83).
A gate reload ends with the gate's damage gone. -/
def Obligations.DenseUpkeep : Prop :=
  ∀ (s : State) (page : Nat),
    (∀ o : PresetOutcome, s.denseOn = true → (s.md.mode = .service ∨ s.md.mode = .recall) → s.t2.toPreset.contains page = true →
      s.BankGrants (some (s.part.pageBank page)) .steward → rising s.t2.pages = true → rising s.t2.left = true →
      Gives (.pagePreset page o) s fun t =>
        t = { s with t2 := { s.t2 with pages := t.t2.pages, left := t.t2.left, toPreset := s.t2.toPreset.filter fun q => !(q == page) },
                     err := { s.err with wear := t.err.wear }, arb := t.arb, resp := [] } ∧
        tget t.t2.pages page = none ∧ (∀ k, ¬ (k = page) → tget t.t2.pages k = tget s.t2.pages k) ∧ tgetD t.t2.left page [] = o.left ∧
        (rising s.err.wear = true → (t.wearOf (s.part.pageBank page)).presets = satAdd (s.wearOf (s.part.pageBank page)).presets (1 + min 2 o.again))) ∧
    (∀ p x e r reads, tget s.t2.pages page = some p → p.pieces = [x] → s.beingMoved x.tile = false → tget s.t2.tileMap x.tile = some e →
      e.page = page ∨ e.page2 = some page → s.readRecord x.tile e reads = (some r, s) →
      let moved (t : State) (q : List Nat) : Prop :=
        t = { s with t2 := { s.t2 with bufs := t.t2.bufs, moving := t.t2.moving, relocQ := q }, arb := t.arb, resp := [] } ∧
        ∃ m, t.t2.moving = s.t2.moving ++ [m] ∧ m.tile = r.tile ∧ m.sectors = r.sectors ∧ m.crc = r.crc ∧ m.poisonL = r.poisonL ∧ m.cls = p.img.cls ∧
          m.origin = some e
      (s.denseCareOk = true → p.freed ≠ [] → s.releaseHolds x.tile = false →
        (∀ q ∈ s.t2.pages, s.reclaimable q.1 q.2 = true → p.live ≤ q.2.live) → s.BankGrants (some (s.part.pageBank page)) s.reclaimReq →
        Gives (.reclaim page reads) s fun t => moved t s.t2.relocQ) ∧
      (∀ rest target o, s.part.dense = true → s.denseCareOk = true → takeFirst (fun q => !s.pageHeld q) s.t2.relocQ = some (page, rest) →
        s.charterOf page = none → s.BankGrants (some (s.part.pageBank page)) .steward →
        Gives (.relocation reads target o) s fun t => moved t rest)) ∧
    (∀ rest c reads target o img, takeFirst (fun q => !s.pageHeld q) s.t2.relocQ = some (page, rest) → s.charterOf page = some c →
      s.mayRelocate = true → s.BankGrants (some (s.pageBank page)) .steward →
      (s.decodePage page 72 (s.charterAt c).gen 0xA5 (fun _ => true) (readOf reads page)).1 = .clean img →
      (s.part.dense = true → s.pageFree target = true → s.ceilingReady = true → tgetD s.t2.left target [] = [] →
        s.t2.toPreset.contains target = false → o.wrong.dedup.length * 4 ≤ 72 →
        Gives (.relocation reads target o) s fun t => t.t2.relocQ = rest ∧ t.charterAt c = ⟨target, img.gen, o.wrong.dedup⟩ ∧
          t.t2.toPreset.contains page = true ∧ t.t2.seqNo = s.t2.seqNo + 1 ∧ t.t2.tileMap = s.t2.tileMap ∧ t.t0 = s.t0 ∧ t.t1 = s.t1) ∧
      (s.part.dense = false →
        Gives (.relocation reads target o) s fun t => t.t2.relocQ = rest ∧ (t.charterAt c).page = page ∧ (t.charterAt c).gen = img.gen ∧
          t.t2.tileMap = s.t2.tileMap ∧ t.t2.pages = s.t2.pages ∧ t.t0 = s.t0 ∧ t.t1 = s.t1 ∧
          (rising s.err.wear = true → (t.wearOf (page % 128)).programs = satAdd (s.wearOf (page % 128)).programs 68))) ∧
    (∀ (bank : Nat) (r : Fin 8) (rd : PageRead) (o : ProgramOutcome) (img : PageImg), s.denseCareOk = true → 128 ≤ bank →
      bank < 128 + s.part.denseBanks → 128 ≤ (s.region bank r.val).programs → s.BankGrants (some bank) .steward →
      let m := s.part.regionPages bank r.val
      let gap := s.region bank r.val
      let src := s.part.pageAt bank (regionPageAt m gap.start gap.gap (if gap.gap = 0 then m else gap.gap - 1) * 8 + r.val)
      let i := (s.stored src).1
      let got := (s.decodePage src i.t i.gen i.magic (fun _ => true) rd).1
      let kept (t : State) : Prop := t = { s with t2 := { s.t2 with regions := t.t2.regions, pages := t.t2.pages, charter := t.t2.charter,
                                                                    left := t.t2.left },
                                                  err := t.err, evt := t.evt, arb := t.arb, resp := [] } ∧
        ∀ k, (t.stored k).1 = (s.stored k).1
      (got = .clean img → (wrongCells img o.preset.left o.wrong).length * 4 ≤ img.t →
        Gives (.gapMoveT2 bank r rd o) s fun t => kept t ∧ t.region bank r.val =
          (if gap.gap = 0 then ⟨(gap.start + 1) % m, m, gap.programs - 128⟩ else ⟨gap.start, gap.gap - 1, gap.programs - 128⟩)) ∧
      (got = .clean img → ¬ ((wrongCells img o.preset.left o.wrong).length * 4 ≤ img.t) →
        Gives (.gapMoveT2 bank r rd o) s fun t => kept t ∧ t.t2 = s.t2 ∧ ∃ e ∈ t.evt.cyc.events, e.code = 0x24) ∧
      (got = .uncorrectable → Gives (.gapMoveT2 bank r rd o) s fun t => kept t ∧ t.t2 = s.t2 ∧ t.evt.stat.getLsbD 3 = true)) ∧
    (∀ g : Fin 5, lgetD s.cad.reload g.val false = true → s.stewardUp = true →
      Gives (.gateReloadDone g) s fun t => t = { s with cad := { s.cad with reload := t.cad.reload, damage := t.cad.damage }, resp := [] } ∧
        lgetD t.cad.reload g.val false = false ∧ ∀ d ∈ t.cad.damage, d ∈ s.cad.damage ∧ ¬ (d.1 = g))

/-! ### The fast tier and its patrol (07, 08) -/

/-- T1_WRITE_PROGRAM, VERIFY_LANE_CHECK, CORRECTION_WRITE_BACK and GAP_MOVE_T1 (02:R544, 08:R204-R208, R212, 07:R179, R180), where their banks grant
them: the queue entry leaves the queue and its words are programmed, its line entering the recent-write queue, or, where an inline verify is
due, retried until all but the bytes that never read right hold their words; the oldest recent-write entry leaves its queue, and a
corrected byte of it that was written is programmed again; the corrected bytes of a line are written in place, those that still fail keep
their words and count a hard fault; and a group that owes a gap move makes it. Every other word of the array stays. -/
def Obligations.FastTierPrograms : Prop :=
  ∀ (s : State),
    (∀ (n : Nat) (e : WqEntry) (ws : List (Nat × Code13)) (flips : List (Fin 64 × Fin 13)) (tries : Tries), s.mayProgramT1 = true →
      s.mayProgram n = some e → s.programWords e = some ws → s.BankGrants (some (s.lineBank e.line)) e.req →
      let phys := s.physLine e.line
      let programmed (fl : List (Fin 64 × Fin 13)) (t : State) : Prop := t.t1.wq = s.t1.wq.eraseIdx n ∧
        s.Reviewed { t with t1 := s.t1, err := s.err, arb := s.arb } 0 ∧ t.link = s.link ∧
        (∀ i < 64, ∀ w, ws.find? (fun q => q.1 == i) = some (i, w) → tget t.t1.cells (phys * 64 + i) = some (flipped fl i w)) ∧
        (∀ k, ¬ (k / 64 = phys) → tget t.t1.cells k = tget s.t1.cells k) ∧ 1 ≤ (t.group (e.line / gapN)).programs - (s.group (e.line / gapN)).programs
      (s.inlineVerify e.line = false → Gives (.t1WriteProgram n flips tries true) s fun t => programmed flips t ∧ ∃ r ∈ t.t1.rwq, r.line = e.line) ∧
      (s.inlineVerify e.line = true → Gives (.t1WriteProgram n flips tries true) s fun t =>
        programmed (flips.filter fun q => decide (3 < triesOf tries q.1.val)) t ∧ t.t1.rwq = s.t1.rwq)) ∧
    (∀ (e : RwEntry) (rest : List RwEntry) (tries : Tries), s.mayVerify = true → s.t1.rwq = e :: rest → (s.group (e.line / gapN)).programs < 64 →
      s.BankGrants (some (s.lineBank e.line)) (s.verifyReq e) → s.lateSince e.ts = false →
      let d := decPast e.line (s.t1Words e.line)
      (d.cls = .clean → Gives (.verifyLaneCheck tries) s fun t =>
        t = { s with t1 := { s.t1 with rwq := rest, inlineFull := t.t1.inlineFull }, arb := t.arb, resp := [] }) ∧
      (∀ i w, d.cls = .corrected → d.fixes = [(i, w)] → i < 64 → e.mask.getLsbD i = true → triesOf tries i ≤ 3 →
        Gives (.verifyLaneCheck tries) s fun t => t.t1.rwq = rest ∧ tget t.t1.cells (s.physLine e.line * 64 + i) = some w ∧
          (∀ k, ¬ (k = s.physLine e.line * 64 + i) → tget t.t1.cells k = tget s.t1.cells k) ∧ t.t0 = s.t0 ∧ t.t2 = s.t2 ∧ t.t1.wq = s.t1.wq)) ∧
    (∀ (c : Correction) (rest : List Correction) (bad : List (Fin 64)),
      (s.t1.corrections.find? fun x => !x.t1 || s.correctionReady x) = some c → c.byte < 64 →
      (s.t1.corrections.partition fun x => x.t1 == c.t1 && x.gap == c.gap && x.line == c.line) = ([c], rest) →
      (c.t1 = true → s.BankGrants (some (s.correctionBank c)) .correction →
        let k := s.correctionLine c * 64 + c.byte
        let took (t : State) : Prop := t.t1.corrections = rest ∧ t.t0 = s.t0 ∧ t.t2 = s.t2 ∧ t.t1.wq = s.t1.wq
        (regionOf c.line = none → (∀ i ∈ bad, ¬ (i.val = c.byte)) → Gives (.correctionWriteBack bad) s fun t => took t ∧ t.drain = s.drain ∧
          tget t.t1.cells k = some c.word ∧ ∀ j, ¬ (j = k) → tget t.t1.cells j = tget s.t1.cells j) ∧
        ((∃ i ∈ bad, i.val = c.byte) → regionOf c.line = none → Gives (.correctionWriteBack bad) s fun t => took t ∧ t.t1.cells = s.t1.cells ∧
          (rising s.err.banks = true →
            (t.bankErr (s.correctionBank c)).hardFaults = satAdd (s.bankErr (s.correctionBank c)).hardFaults 1)) ∧
        (∀ n, regionOf c.line = some n → (∀ i ∈ bad, ¬ (i.val = c.byte)) → Gives (.correctionWriteBack bad) s fun t => took t ∧
          t.t1.cells = s.t1.cells ∧ t.regionWords n = unpackWords (packWords ((s.regionWords n).set c.byte c.word)) ∧
          (rising s.drain.region = true → ∀ j, ¬ (j = n) → t.regionWords j = s.regionWords j))) ∧
      (c.t1 = false → c.line < 256 * s.t0.scratchMiB * 64 → ∀ x, tget s.t0.scratch c.line = some x →
        Gives (.correctionWriteBack bad) s fun t =>
          t = { s with t0 := { s.t0 with scratch := t.t0.scratch }, t1 := { s.t1 with corrections := rest }, resp := [] } ∧
          tget t.t0.scratch c.line = some { x with words := packWords ((unpackWords x.words).set c.byte c.word) } ∧
          ∀ j, ¬ (j = c.line) → tget t.t0.scratch j = tget s.t0.scratch j)) ∧
    (∀ (g : Nat) (flips : List (Fin 64 × Fin 13)) (tries : Tries), s.pd 7 = true → g < s.part.groups → 64 ≤ (s.group g).programs →
      rising s.t1.groups = true →
      Gives (.gapMoveT1 g flips tries) s fun t => t = { s with t1 := t.t1, err := t.err, evt := t.evt, resp := [] } ∧
        (flips = [] → t.group g = { programs := (s.group g).programs - 64
                                    gap := if (s.group g).gap = 0 then gapN else (s.group g).gap - 1
                                    start := if (s.group g).gap = 0 then ((s.group g).start + 1) % gapN else (s.group g).start }) ∧
        t.t1.wq = s.t1.wq ∧ t.t1.rwq = s.t1.rwq)

/-- GAP_MOVE_T1. A gap move keeps every stored word of the group's lines, at its new place (08:R211, R212). -/
def Obligations.GapMoveKeepsData : Prop :=
  ∀ (s : State) (g a i : Nat), s.pd 7 = true → g < s.part.groups → 64 ≤ (s.group g).programs →
    (s.group g).start < gapN → (s.group g).gap ≤ gapN → a / gapN = g → i < 64 →
    Gives (.gapMoveT1 g [] []) s fun t => t.t1.cell (t.physLine a * 64 + i) = s.t1.cell (s.physLine a * 64 + i)

/-- TRAVERSE_T1_READ, TRAVERSE_T2_READ, TRAVERSE_LATE, TRAVERSE_ESCALATED, TRAVERSE_SAVE, WEAR_PERSIST and TRIM_ADJUST (08:R195-R200, R210, R216,
09:R237, R240). A place of the T1 pass that decodes clean, and a page of the T2 pass that reads clean, each move the pass on by one; a
corrected line also queues its corrections; the last place of a T1 pass begins a new one, writes the fast dies' witness cells and clears
WITNESS_SUSPECT. A pass whose deadline has come with work left is LATE, once, with its record; a pass behind its pace escalates. A
traverse save queues six counter updates, and a wear save only counter updates. A bank busy in the second before takes its next
trim, once a second; another keeps its trim. -/
def Obligations.TraverseMovesOn : Prop :=
  ∀ (s : State),
    (∀ (again : Reread) (left : List (List (Fin 4096))) (d : LineDec), s.mayTraverse .t1 = true → s.trav.t1.esc = false →
      s.BankGrants (some (s.placeBank (s.t1Place s.trav.t1.done))) s.trav.t1.req →
      let at' := s.t1Place s.trav.t1.done
      (∃ a, at' = .line a ∧ d = decPast a (s.t1Words a)) ∨ (∃ g a, at' = .gap g a ∧ d = decPast a (s.t1.physWords (s.gapLine g))) ∨
        (∃ n, at' = .region n ∧ d = decRegion n (s.regionWords n)) →
      (s.trav.t1.done + 1 < s.passTotal .t1 →
        (d.cls = .clean → Gives (.traverseT1Read again left) s fun t =>
          t = { s with trav := { s.trav with t1 := { s.trav.t1 with done := s.trav.t1.done + 1, pos := 0 } }, arb := t.arb, resp := [] }) ∧
        (d.cls = .corrected → s.md.restrict.witnessExpired = false → Gives (.traverseT1Read again left) s fun t =>
          t = { s with trav := t.trav, t1 := { s.t1 with corrections := t.t1.corrections }, err := t.err, evt := t.evt, arb := t.arb, resp := [] } ∧
          t.trav.t1.done = s.trav.t1.done + 1 ∧ s.Flags t 4 ∧ ∀ q ∈ d.fixes, ∃ c ∈ t.t1.corrections, c.t1 = true ∧ c.byte = q.1 ∧ c.word = q.2)) ∧
      (s.trav.t1.done + 1 = s.passTotal .t1 → d.cls = .clean → rising s.comp.wrongCells = true → Gives (.traverseT1Read again left) s fun t =>
        t.trav.t1.pass = s.trav.t1.pass + 1 ∧ t.trav.t1.done = 0 ∧ t.md.restrict = { s.md.restrict with witnessSuspect := false } ∧
        t.t1 = s.t1 ∧ t.t0 = s.t0 ∧ t.t2 = s.t2 ∧
        ∀ i < s.part.fastDies, tgetD t.comp.wrongCells (1 + i) 0 = cellMask (lgetD left i []))) ∧
    (∀ (n : Nat) (rd : PageRead) (img : PageImg) (left : List (List (Fin 4096))), s.mayTraverse .t2 = true → s.trav.t2en = true → s.trav.t2.esc = false →
      s.nextPage s.trav.t2.pos = some n → (s.nextPage (n + 1)).isSome = true → s.BankGrants (some (s.pageBank n)) s.trav.t2.req →
      (s.decodePage n (s.pageExpected n).1 (s.pageExpected n).2.1 (s.pageExpected n).2.2.1 (s.pageExpected n).2.2.2 rd).1 = .clean img →
      Gives (.traverseT2Read rd left) s fun t =>
        t = { s with trav := { s.trav with t2 := { s.trav.t2 with done := s.trav.t2.done + 1, pos := n + 1 } }, arb := t.arb, resp := [] }) ∧
    (∀ tier : Tier, s.md.mode = .service → (s.travOf tier).told = false →
      (s.travOf tier).cycles tier ≤ (s.travOf tier).served - (s.travOf tier).passStart → (s.travOf tier).done < s.passTotal tier →
      Gives (.traverseLate tier) s fun t => t = { s with trav := t.trav, evt := t.evt, resp := [] } ∧
        t.travOf tier = { s.travOf tier with late := true, told := true } ∧ s.Flags t 0 ∧
        ∃ e, t.evt.cyc.events = s.evt.cyc.events ++ [e] ∧ e.code = 0x25 ∧ e.bit = none) ∧
    (∀ tier : Tier, s.md.mode = .service → (s.travOf tier).escalated = false → s.behind tier = true →
      Gives (.traverseEscalated tier) s fun t => t = { s with trav := t.trav, resp := [] } ∧ t.travOf tier = { s.travOf tier with esc := true }) ∧
    (s.md.mode = .service → Gives .traverseSave s fun t => t = { s with store := { s.store with queue := t.store.queue }, resp := [] } ∧
      ∃ l, t.store.queue = s.store.queue ++ l ∧ l.length = 6 ∧ ∀ o ∈ l, o.rank = 1) ∧
    (s.md.mode = .service → Gives .wearPersist s fun t => t = { s with store := { s.store with queue := t.store.queue }, resp := [] } ∧
      ∃ l, t.store.queue = s.store.queue ++ l ∧ ∀ o ∈ l, o.rank = 1) ∧
    (∀ b : Fin 512, rising s.err.banks = true → s.md.mode = .service →
      let e := (s.bankErr b.val).roll s.second
      (e.trimDue ≤ s.second → (if b.val < 128 then 1048576 else 1024) ≤ e.prevPrograms →
        Gives (.trimAdjust b) s fun t => t = { s with err := { s.err with banks := t.err.banks }, resp := [] } ∧
          t.bankErr b.val = { e with trim := nextTrim e.trim e.prevPrograms e.prevRetries, trimDue := s.second + 1 } ∧
          ∀ k, ¬ (k = b.val) → t.bankErr k = s.bankErr k) ∧
      (¬ (e.trimDue ≤ s.second ∧ (if b.val < 128 then 1048576 else 1024) ≤ e.prevPrograms) →
        exec (.trimAdjust b) s = .next { s with resp := [] }))

/-! ### Sensors and the tide (09, 17) -/

/-- TEMP_SAMPLE, COMPASS_SAMPLE and COIL_CHECK (09:R221-R228, R235, 08:R209). A temperature sample shows the hottest present die, moves each die's
pulse band, and sets TEMP_WARN on reaching the threshold. A Compass sample takes the largest magnitude of the valid sensors (a sensor under its
coil check gives its last valid one: log entry 95): a level whose rising threshold it reaches is taken at once, with a flag for each level risen
into; a level is left one step down after 100 ms below its falling threshold; otherwise it stays. A coil check makes a sensor invalid where an
axis did not change by 1.60 mT to 2.40 mT. -/
def Obligations.SensorsAreSampled : Prop :=
  ∀ (s : State),
    (∀ (dies : List Int) (d : Nat) (v : Int), hottest s.part 0 dies = some (d, v) → s.clk.run = true →
      Gives (.tempSample dies) s fun t =>
        t = { s with comp := { s.comp with tempMax := t.comp.tempMax, tempDie := t.comp.tempDie, bands := t.comp.bands, warnArmed := t.comp.warnArmed },
                     evt := t.evt, resp := [] } ∧
        t.comp.tempMax.toInt = max (-512) (min 511 v) ∧ t.comp.tempDie = BitVec.ofNat 5 d ∧ s.Flags t 0x400 ∧
        (∀ i u, dies[i]? = some u → s.part.diePresent i = true → i < 17 → lgetD t.comp.bands i 0 = nextBand (lgetD s.comp.bands i 0) u) ∧
        (s.comp.warnArmed = true →
          (2 * s.comp.warnThr.toNat ≤ t.comp.temp → t.evt.stat.getLsbD 10 = true ∧ t.comp.warnArmed = false) ∧
          (t.comp.temp < 2 * s.comp.warnThr.toNat → t.evt = s.evt ∧ t.comp.warnArmed = true)) ∧
        (s.comp.warnArmed = false → t.evt = s.evt ∧ t.comp.warnArmed = decide (t.comp.temp ≤ 2 * s.comp.warnThr.toNat - 6))) ∧
    (∀ (a b c : Axes),
      let l := [a, b, c].map axesClamped
      let mags := (List.range 3).map fun k => if s.comp.valid.getLsbD k && !(s.checking == some k) then axesMagnitude (lgetD l k ⟨0, 0, 0⟩)
        else lgetD s.comp.mags k 0
      let old := s.comp.level.toNat
      let shown (i : Nat) (t : State) : Prop := t.comp.src = BitVec.ofNat 2 i ∧ t.comp.seq = s.comp.seq + 1 ∧ t.comp.mags = mags ∧
        t.comp.sampled = true ∧ t.comp.x = BitVec.ofInt 16 (lgetD l i ⟨0, 0, 0⟩).x ∧ t.comp.y = BitVec.ofInt 16 (lgetD l i ⟨0, 0, 0⟩).y ∧
        t.comp.z = BitVec.ofInt 16 (lgetD l i ⟨0, 0, 0⟩).z ∧ t.comp.valid = s.comp.valid
      let moved (t : State) : Prop :=
        t = { s with comp := t.comp, drain := t.drain, pin := t.pin, commit := t.commit, tide := { s.tide with forced := t.tide.forced },
                     md := { s.md with restrict := t.md.restrict }, evt := t.evt, resp := [] } ∧
        (s.md.mode = .service → t.md.restrict.fieldRo = decide (t.comp.level = 3))
      ∀ i r, readingOf s.comp.valid mags = some (i, r) → s.compassOn = true →
        let low := decide (0 < old) && decide (r < s.comp.falling old)
        (s.comp.up r ≤ old → s.comp.sampled = true → low = false → Gives (.compassSample a b c) s fun t =>
          t = { s with comp := t.comp, resp := [] } ∧ shown i t ∧ t.comp.level = s.comp.level ∧ t.comp.belowSince = none) ∧
        (s.comp.up r ≤ old → s.comp.sampled = true → low = true → s.since (s.comp.belowSince.getD s.clk.ts) (100 * msec) = false →
          Gives (.compassSample a b c) s fun t => t = { s with comp := t.comp, resp := [] } ∧ shown i t ∧ t.comp.level = s.comp.level ∧
            t.comp.belowSince = some (s.comp.belowSince.getD s.clk.ts)) ∧
        (s.comp.up r ≤ old → s.comp.sampled = true → low = true → s.since (s.comp.belowSince.getD s.clk.ts) (100 * msec) = true → s.Quiet →
          s.md.mode = .service → Gives (.compassSample a b c) s fun t => moved t ∧ shown i t ∧ t.comp.level.toNat = old - 1 ∧
            t.comp.belowSince = none ∧ t.commit = s.commit ∧ s.Flags t 0x10000) ∧
        (old < s.comp.up r → s.t0.pool.all (fun x => !(x.st = .pinned)) = true → Gives (.compassSample a b c) s fun t =>
          moved t ∧ shown i t ∧ t.comp.level.toNat = s.comp.up r ∧ t.comp.belowSince = none ∧ s.Flags t 0x101C0 ∧
          (∀ k, old < k → k ≤ s.comp.up r → t.evt.stat.getLsbD (5 + k) = true) ∧
          (∀ k, s.commit = some k → k.phase = .persisting → s.part.dense = true → 2 ≤ s.comp.up r →
            t.commit = some { k with phase := .reporting, result := resAbandoned k.isPlan, ixA := 0, ixB := 0, table := false }))) ∧
    (∀ (n : Fin 3) (change : Axes), s.clk.run = true → s.md.mode = .service → s.comp.valid.getLsbD n.val = true → s.checking = none →
      Gives (.coilCheck n change) s fun t =>
        t = { s with comp := { s.comp with check := some (n.val, s.clk.ts), valid := t.comp.valid }, evt := t.evt, resp := [] } ∧
        t.evt.stat = s.evt.stat ∧
        (if coilFails change = none then t.comp.valid = s.comp.valid ∧ t.evt = s.evt
         else t.comp.valid = s.comp.valid &&& ~~~ ((1 : BitVec 3) <<< n.val) ∧ ∃ e ∈ t.evt.cyc.events, e.code = 0x31 ∧ e.source = srcSensor n.val))

/-- TIDE_MEASUREMENT and TIDE_RESAMPLE (17:R421-R424, 01:R38). A valid measurement gives E by Table 17-2 with C from the slope; an invalid one keeps
the slope, and the third in a row makes C = 0 and is logged. The budget in force is the least of the gauge budget, the ceiling and the part's
limit. A resample does the same with the slope kept. TIDE_LOW is set as the gauge budget falls below its threshold. -/
def Obligations.TideSetsTheBudget : Prop :=
  ∀ (s : State) (mv : Nat) (d : Int), s.gaugeOn = true →
    let budget (t : State) : Prop :=
      t.tide.energy = BitVec.ofNat 24 (min (2 ^ 24 - 1) (gaugeEnergy t.tide.slope (min 14000 mv))) ∧
      t.tide.gauge = gaugeBudget s.part.drainLimit (gaugeEnergy t.tide.slope (min 14000 mv)) ∧
      t.tide.budget = min t.tide.gauge (min s.tide.ceiling.toNat s.part.drainLimit) ∧
      t.tide.src = decide (s.tide.ceiling.toNat < t.tide.gauge) ∧ t.tide.millivolts = min 14000 mv ∧ t.tide.ceiling = s.tide.ceiling ∧
      t = { s with tide := t.tide, md := { s.md with restrict := t.md.restrict }, evt := t.evt, resp := [] } ∧ s.Flags t 0x10200 ∧
      (s.tide.lowArmed = true → s.part.tideLow.1 ≤ s.tide.gauge → t.tide.gauge < s.part.tideLow.1 →
        t.evt.stat.getLsbD 9 = true ∧ t.tide.lowArmed = false)
    (0 < d → d ≤ 20000000 → Gives (.tideMeasurement mv d) s fun t => budget t ∧ t.tide.slope = some (max 200000 d.toNat) ∧
      t.tide.invalid = 0 ∧ t.tide.seq = s.tide.seq + 1) ∧
    (d ≤ 0 ∨ 20000000 < d → Gives (.tideMeasurement mv d) s fun t => budget t ∧ t.tide.invalid = min 3 (s.tide.invalid + 1) ∧
      t.tide.slope = (if 2 ≤ s.tide.invalid then none else s.tide.slope) ∧ t.tide.seq = s.tide.seq + 1 ∧
      (s.tide.invalid = 2 → ∃ e ∈ t.evt.cyc.events, e.code = 0x37)) ∧
    (Gives (.tideResample mv) s fun t => budget t ∧ t.tide.slope = s.tide.slope ∧ t.tide.seq = s.tide.seq ∧ t.tide.invalid = s.tide.invalid)

/-! ### Commits (01, 03, 10, 11) -/

/-- COMMIT_VALIDATED, COMMIT_EPOCH and COMMIT_REPORT (01:R31-R37, 03:R86, R96-R98, 10:R263, R264, 18:R443). Validation that passes goes to
persistence, with the copy to be written no longer complete, unless the field abandons it; one that fails goes to its report with its code and
indices. The epoch makes the shadow copy the one in force, one generation on, stored in the copy that was not the newest; where the generations
of its pages are not yet below the stored ceiling, the ceiling is raised first (14:R361). The plan epoch keeps the fast lines' stored bits. The
report ends the commit, shows the result and sets the flag; a held doorbell to a channel whose owner the plan changed is discarded. -/
def Obligations.CommitsRunToTheirReport : Prop :=
  ∀ (s : State) (k : Commit), s.commit = some k → s.stewardUp = true →
    let stops := s.part.dense && decide (2 ≤ s.comp.level.toNat)
    let second := writeSecond s.cad.copy0.complete s.cad.copy1.complete s.cad.copy0.gen s.cad.copy1.gen
    let second3 := writeSecond s.plan.copy0.complete s.plan.copy1.complete s.plan.copy0.gen s.plan.copy1.gen
    let abandoned := { k with phase := .reporting, result := resAbandoned k.isPlan, ixA := 0, ixB := 0, table := false }
    (k.phase = .validating → k.isPlan = false → s.validateCad.code = 0 →
      (stops = false → Gives .commitValidated s fun t =>
        t = { s with commit := some { k with phase := .persisting }, cad := { s.cad with copy0 := t.cad.copy0, copy1 := t.cad.copy1 },
                     store := { s.store with queue := t.store.queue }, resp := [] } ∧
        (if second = true then t.cad.copy0 = s.cad.copy0 ∧ t.cad.copy1 = { s.cad.copy1 with complete := false }
         else t.cad.copy1 = s.cad.copy1 ∧ t.cad.copy0 = { s.cad.copy0 with complete := false }) ∧
        (s.charterReady 97 = true → t.store = s.store)) ∧
      (stops = true → exec .commitValidated s = .next { s with commit := some abandoned, resp := [] })) ∧
    (k.phase = .validating → k.isPlan = false → ¬ (s.validateCad.code = 0) →
      exec .commitValidated s = .next { s with resp := [], commit := some { k with
        phase := .reporting, result := BitVec.ofNat 16 s.validateCad.code, ixA := BitVec.ofNat 16 s.validateCad.ixA
        ixB := BitVec.ofNat 16 s.validateCad.ixB, table := s.validateCad.table } }) ∧
    (k.phase = .validating → k.isPlan = true → s.validatePlan.1 = 0 →
      (stops = false → Gives .commitValidated s fun t =>
        t = { s with commit := some { k with phase := .persisting }, plan := { s.plan with copy0 := t.plan.copy0, copy1 := t.plan.copy1 },
                     store := { s.store with queue := t.store.queue }, resp := [] } ∧
        (if second3 = true then t.plan.copy0 = s.plan.copy0 ∧ t.plan.copy1 = { s.plan.copy1 with complete := false }
         else t.plan.copy1 = s.plan.copy1 ∧ t.plan.copy0 = { s.plan.copy0 with complete := false }) ∧
        (s.charterReady 97 = true → t.store = s.store)) ∧
      (stops = true → exec .commitValidated s = .next { s with commit := some abandoned, resp := [] })) ∧
    (k.phase = .validating → k.isPlan = true → ¬ (s.validatePlan.1 = 0) →
      exec .commitValidated s = .next { s with resp := [], commit := some { k with
        phase := .reporting, result := BitVec.ofNat 16 s.validatePlan.1, ixA := BitVec.ofNat 16 s.validatePlan.2, ixB := 0, table := false } }) ∧
    (k.phase = .persisting → s.md.mode = .service → s.charterReady 97 = false →
      Gives .commitEpoch s fun t => t = { s with store := { s.store with queue := t.store.queue }, resp := [] } ∧
        ∃ v b, IntOp.counter 1544 v b ∈ t.store.queue) ∧
    (k.phase = .persisting → k.isPlan = false → s.md.mode = .service → s.charterReady 97 = true →
      Gives .commitEpoch s fun t =>
        t = { s with cad := t.cad, commit := some { k with phase := .reporting, result := 0, ixA := 0, ixB := 0, table := false }, evt := t.evt,
                     t2 := { s.t2 with seqNo := s.t2.seqNo + 97, relocQ := t.t2.relocQ, regions := t.t2.regions, charter := t.t2.charter },
                     err := { s.err with wear := t.err.wear, banks := t.err.banks, pulses := t.err.pulses }, resp := [] } ∧
        t.cad = { s.cad with inP := s.cad.shP, inH := s.cad.shH, gen := s.cad.gen + 1,
                             copy0 := if second = true then s.cad.copy0 else ⟨s.cad.shH, s.cad.shP, s.cad.gen + 1, true⟩,
                             copy1 := if second = true then ⟨s.cad.shH, s.cad.shP, s.cad.gen + 1, true⟩ else s.cad.copy1 } ∧
        t.evt.stat = s.evt.stat) ∧
    (k.phase = .persisting → k.isPlan = true → s.md.mode = .service → s.charterReady 97 = true →
      Gives .commitEpoch s fun t => t.plan.gen = s.plan.gen + 1 ∧ t.plan.sh = s.plan.sh ∧ t.cad = s.cad ∧ t.t1.cells = s.t1.cells ∧
        t.t1.groups = s.t1.groups ∧ t.t0.scratch = s.t0.scratch ∧ t.ferry = s.ferry ∧
        (∀ i, 1 ≤ i → i ≤ hCount (planEntry s.plan.sh 0) → planEntry t.plan.inf i = planEntry s.plan.sh i) ∧
        (if second3 = true then t.plan.copy1 = ⟨t.plan.inf, s.plan.gen + 1, true⟩ ∧ t.plan.copy0 = s.plan.copy0
         else t.plan.copy0 = ⟨t.plan.inf, s.plan.gen + 1, true⟩ ∧ t.plan.copy1 = s.plan.copy1) ∧
        (recordsOf s.plan.inf 7 = recordsOf s.plan.sh 7 → t.t2.tileMap = s.t2.tileMap ∧ t.t2.moving = s.t2.moving) ∧
        t.commit = some { k with phase := .reporting, result := 0, ixA := 0, ixB := 0, table := false }) ∧
    (k.phase = .reporting → k.isPlan = false →
      Gives .commitReport s fun t => t = { s with cad := t.cad, commit := none, evt := t.evt, own := t.own, mbox := t.mbox, resp := [] } ∧
        t.cad = { s.cad with running := false, result := k.result.setWidth 4, ixA := k.ixA.setWidth 13, ixB := k.ixB.setWidth 13, table := k.table } ∧
        t.evt.stat = s.evt.stat ||| 0x800000 ∧
        (k.byMailbox = none → t.own = s.own ∧ t.mbox = s.mbox) ∧
        (∀ p, k.byMailbox = some p → t.mbox = { s.mbox with background := none, bgStatus := some (.cadCommit, k.result) })) ∧
    (k.phase = .reporting → k.isPlan = true →
      Gives .commitReport s fun t => t.commit = none ∧ t.evt.stat.getLsbD 22 = true ∧ t.plan.inf = s.plan.inf ∧ t.plan.gen = s.plan.gen ∧
        fld (planEntry t.plan.sh 0) 28 2 = k.result.toNat ∧ fld (planEntry t.plan.sh 0) 30 2 = k.ixA.toNat ∧ t.cad = s.cad ∧
        t.ferry.held = [] ∧ (s.ferry.held = [] → t.ferry = s.ferry ∧ t.t1 = { s.t1 with corrections := t.t1.corrections }) ∧
        (∀ p, k.byMailbox = some p → t.mbox.background = none ∧ t.mbox.bgStatus = some (.planCommit, k.result)) ∧
        (∀ b, s.ferry.held = [b] → k.result = 0 → k.reowned.contains b.channel = true → b.channel < s.ferry.chans.length →
          t.ferry.chans = s.ferry.chans.set b.channel { s.chan b.channel with result := 8 }))

/-- PLAN_COMMIT, CAD_COMMIT, CAD_REVERT, CAD_CTL_COMMIT and CAD_CTL_REVERT of the OWNER (01:R35, 03:R88, R98, 10:R263, 11:R293): through the mailbox
a commit starts in validation as a background command, through CAD_CTL it starts with no answer but OK; a plan commit knows from its start which
channels the shadow plan would change; REVERT copies the entries in force over the shadow copies. -/
def Obligations.CommitCommandsStart : Prop :=
  ∀ (s : State) (p : Port) (path : Path), s.commit = none →
    (s.DexOpen p → s.verdict 3 (tableAddr 3 0) 0xFFD 1 = none →
      exec (.planCommit p []) s = .next { s.touch .mailbox with
        commit := some ⟨true, .validating, some p, 0, 0, 0, false, (planChans s.plan.inf s.plan.sh).1, (planChans s.plan.inf s.plan.sh).2⟩
        mbox := { s.mbox with background := some (p, .planCommit) }
        resp := [.mbox p .backgroundStarted .ok .none] }) ∧
    (s.DexOpen p → s.verdict 3 0xC0 0xFFD 1 = none →
      exec (.cadCommit p []) s = .next { s.touch .mailbox with
        commit := some ⟨false, .validating, some p, 0, 0, 0, false, [], []⟩
        cad := { s.cad with running := true }
        mbox := { s.mbox with background := some (p, .cadCommit) }
        resp := [.mbox p .backgroundStarted .ok .none] } ∧
      exec (.cadRevert p []) s = .next (({ s with cad := { s.cad with shH := s.cad.inH, shP := s.cad.inP } } : State).answered p (dexBytes 0 0 0 []))) ∧
    (s.RegOpen path 0xC0 →
      exec (.cadCtlCommit path) s = .next { s.wrote path 0xC0 1 with
        commit := some ⟨false, .validating, none, 0, 0, 0, false, [], []⟩
        cad := { s.cad with running := true } } ∧
      exec (.cadCtlRevert path) s = .next { s.wrote path 0xC0 2 with cad := { s.cad with shH := s.cad.inH, shP := s.cad.inP } })

/-! ### The mailbox (11, 18) -/

/-- GET_EVENT_RECORDS, CLEAR_EVENT_RECORDS, GET_EVENT_INTERRUPT_POLICY, SET_EVENT_INTERRUPT_POLICY, GET_TIMESTAMP, SET_TIMESTAMP, GET_SUPPORTED_LOGS,
GET_LOG, IDENTIFY_MEMORY_DEVICE, GET_PARTITION_INFO and MAILBOX_UNSUPPORTED (11:R279, R285-R289). A log's records are returned as far as the
payload carries them (the header's form: log entry 94); Clear empties a log or drops the records named, and a handle that names none is refused;
the policy and the timestamp are as set; the one log names every command; the capacity is all persistent, in units of 256 MiB; an opcode that
Tables 11-6 and 11-7 do not list returns Unsupported (the opcodes' numbers: log entry 11). -/
def Obligations.MailboxCommandsAnswer : Prop :=
  ∀ (s : State) (p : Port), s.mboxUp p = true →
    let units := s.part.fastGiB * 4 + s.part.tiles / 65536
    let log (n : Fin 4) := lgetD s.mbox.logs n.val .empty
    (∀ n : Fin 4, exec (.getEventRecords p n) s = .next (s.answered p (.events (log n).overflow (decide (31 < (log n).records.length))
      (log n).overflowCount (((log n).records.take 31).map fun x => cxlRecord n.val x.1 x.2.1 x.2.2)))) ∧
    (∀ (n : Fin 4) (h : BitVec 16) (r : EvRec) (ts : Stamp), (cxlRecord n.val h r ts).length = 128) ∧
    (∀ n : Fin 4, exec (.clearEventRecords p n .all) s =
      .next (({ s with mbox := { s.mbox with logs := s.mbox.logs.set n.val .empty } } : State).answered p .none)) ∧
    (∀ (n : Fin 4) (hs : List (BitVec 16)),
      ((∀ h ∈ hs, ∃ x ∈ (log n).records, x.1 = h) → Gives (.clearEventRecords p n (.handles hs)) s fun t =>
        t = { s.answered p .none with mbox := { s.mbox with logs := t.mbox.logs } } ∧
        (n.val < s.mbox.logs.length → (lgetD t.mbox.logs n.val .empty).records = (log n).records.filter fun x => !hs.contains x.1)) ∧
      (∀ h ∈ hs, (∀ x ∈ (log n).records, ¬ (x.1 = h)) →
        exec (.clearEventRecords p n (.handles hs)) s = .next { s with resp := [.mbox p .invalidHandle .ok .none] })) ∧
    exec (.getEventInterruptPolicy p) s = .next (s.answered p (.policy s.mbox.policy)) ∧
    (∀ w : Word, exec (.setEventInterruptPolicy p w) s = .next (({ s with mbox := { s.mbox with policy := w } } : State).answered p .none)) ∧
    (∀ ns : Stamp, Gives (.setTimestamp p ns) s fun t => t = { s.answered p .none with mbox := { s.mbox with time := t.mbox.time } } ∧
      t.cxlTime = ns) ∧
    (s.mbox.time = none → exec (.getTimestamp p) s = .next (s.answered p (.time 0))) ∧
    (∀ m, s.mbox.time = some m →
      exec (.getTimestamp p) s = .next (s.answered p (.time (m.1 + BitVec.ofNat 64 ((s.clk.ts.toNat - m.2.toNat) * 5 / 8))))) ∧
    exec (.getSupportedLogs p) s = .next (s.answered p (.logs celUuid 104)) ∧
    exec (.getLog p celUuid) s = .next (s.answered p (.effects commandEffects)) ∧ commandEffects.map (·.1) = mailboxOpcodes ∧
    (∀ u : BitVec 128, ¬ (u = celUuid) → exec (.getLog p u) s = .next { s with resp := [.mbox p .invalidLog .ok .none] }) ∧
    exec (.identifyMemoryDevice p) s = .next (s.answered p (.identify units units 0 0 0 0)) ∧
    (s.part = .rbk9216E ∨ s.part = .rbk9216 → units = 1088) ∧ (s.part = .rbk9208 → units = 544) ∧ (s.part = .rbk9204 → units = 64) ∧
    exec (.getPartitionInfo p) s = .next (s.answered p (.partition 0 units)) ∧
    (∀ op : BitVec 16, ¬ (op ∈ mailboxOpcodes) → exec (.mailboxUnsupported p op) s = .next { s with resp := [.mbox p .unsupported .ok .none] })

/-- GET_FW_INFO, TRANSFER_FW_FULL, TRANSFER_FW_INITIATE, TRANSFER_FW_CONTINUE, TRANSFER_FW_END, TRANSFER_FW_ABORT, ACTIVATE_FW_ONLINE and
ACTIVATE_FW_ON_NEXT_RESET of the OWNER (18:R445-R448, R455-R457), for the slot that is not active. While a transfer runs its slot holds no image;
its parts follow one another; at the end the slot holds the image that the bytes make where R447 passes (how a header is read: log entry 93), and
else none, with FW Authentication Failed. An online activation of a bootable image that fits the microcode in use makes its slot preferred and
restarts the steward from it; one at the next reset makes its slot preferred, installs the image's bundle where it asks for that, and changes
nothing that runs. -/
def Obligations.FirmwareCommands : Prop :=
  ∀ (s : State) (p : Port) (b : Bool) (slot : Byte) (data : List Byte), s.FwOpen p → s.stew.slotB = !b → slot = (if b then 2 else 1) →
    data.length ≤ 3968 →
    let only (t : State) : Prop := t = { s.programmed t with stew := t.stew, own := t.own, resp := t.resp } ∧ t.own.holder = s.own.holder ∧
      t.stew.image (!b) = s.stew.image (!b) ∧ t.stew.slotB = s.stew.slotB ∧ t.stew.run = s.stew.run
    let ok (t : State) : Prop := only t ∧ t.own = (s.touch .mailbox).own ∧ t.resp = [.mbox p .success .ok .none]
    let ended (i : Option Image) (t : State) : Prop := only t ∧ t.stew.image b = i ∧ t.stew.xfer = none ∧
      t.resp = [.mbox p (if i.isSome then .success else .fwAuthFailed) .ok .none]
    exec (.getFwInfo p) s = .next (s.answered p
      (.fwInfo 2 (bnat s.stew.slotB + 1) (bnat s.stew.preferred + 1) true (revision (s.fwVer false)) (revision (s.fwVer true)))) ∧
    (s.stew.xfer = none → ¬ (s.stew.writing = some (!b)) →
      Gives (.transferFwFull p slot data) s (ended ((imageOf s.fuse.rootHash data).filter (·.authentic))) ∧
      (Gives (.transferFwInitiate p slot data) s fun t => ok t ∧ t.stew.image b = none ∧ t.stew.xfer = some ⟨.mailbox, b, data⟩)) ∧
    (∀ x, s.stew.xfer = some x → x.path = .mailbox → x.slotB = b → ¬ (s.stew.writing = some (!b)) →
      (Gives (.transferFwContinue p slot x.data.length data) s fun t => ok t ∧ t.stew.xfer = some { x with data := x.data ++ data }) ∧
      Gives (.transferFwEnd p slot x.data.length data) s (ended ((imageOf s.fuse.rootHash (x.data ++ data)).filter (·.authentic))) ∧
      (Gives (.transferFwAbort p) s fun t => ok t ∧ t.stew.xfer = none)) ∧
    (∀ i, s.bootable b = some i → s.stew.boot0.gen.toNat < 2 ^ 32 - 1 → s.stew.boot1.gen.toNat < 2 ^ 32 - 1 →
      (i.installUcode = false → s.fitsUcode i = true → s.tbl.latch = none →
        Gives (.activateFwOnline p slot) s fun t => t.stew.preferred = b ∧ t.stew.run = false ∧ t.stew.restarting = true ∧
          t.stew.restartTo = some b ∧ t.stew.restarts = satAdd s.stew.restarts 1 ∧ t.resp = [.mbox p .success .ok .none] ∧ t.md.mode = s.md.mode ∧
          t.cad = s.cad ∧ t.plan = s.plan ∧ t.t1.cells = s.t1.cells ∧ t.stew.xfer = none) ∧
      (Gives (.activateFwOnNextReset p slot) s fun t => ok t ∧ t.stew.preferred = b ∧
        (i.installUcode = false → t.stew.ucode0 = s.stew.ucode0 ∧ t.stew.ucode1 = s.stew.ucode1) ∧
        (∀ u, i.bundle = some u → i.installUcode = true → t.stew.ucode0 = some u ∧ t.stew.ucode1 = some u)))

/-! ### Dexaris commands (11, 02, 19) -/

/-- REG_READ, REG_WRITE, TBL_READ, TBL_WRITE and PLAN_WRITE of the OWNER (11:R291, R292, 06:R157, R158). A run of registers whose parts gate 3 permits
reads as the registers stand (ENT_DATA apart, which draws); a write of EVT_EN takes its low 24 bits; an entry that can be read is returned; a
HOLDER and a plan record written to the shadow copies are kept in their defined fields. A payload line beyond correction, or register bytes with
wrong parity, end the command at hop 0x13 with Internal Error and ECC_UE, and nothing is written. -/
def Obligations.DexarisAccess : Prop :=
  ∀ (s : State) (p : Port) (payload : List Byte) (sram : BitFlips), s.DexOpen p →
    let hop13 (t : State) : Prop := t = { s with err := t.err, evt := t.evt, resp := [.mbox p .internalError .ok .none] } ∧
      t.evt.stat = s.evt.stat ||| t.evt.stat ∧ t.evt.stat.getLsbD 3 = true ∧ t.evt.en = s.evt.en
    ((sramPayload payload sram).2.any badLine = true →
      Gives (.regRead p payload sram []) s hop13 ∧ Gives (.regWrite p payload sram) s hop13 ∧ Gives (.tblRead p payload sram []) s hop13 ∧
      Gives (.tblWrite p payload sram []) s hop13 ∧ Gives (.planWrite p payload sram) s hop13) ∧
    (∀ off n : Nat, payload.length = 4 → num payload 0 2 = off → num payload 2 2 = n → off % 4 = 0 → 1 ≤ n → n ≤ 256 → off + 4 * n ≤ 0x400 →
      (∀ k, k < 17 → s.verdict 3 (off / 64 * 64 + k * 64) 0xFFD 0 = none) → off + 4 * n ≤ 0x1C4 ∨ 0x1C4 < off →
      exec (.regRead p payload [] []) s = .next (s.answered p (dexBytes 0 0 n
        (leBytes 0 2 ++ zeros 6 ++ wordBytes ((List.range n).map fun i => s.reg (off + 4 * i))))) ∧
      (∀ regs : BitFlips, parBytes (wordBytes ((List.range n).map fun i => s.reg (off + 4 * i))) regs = none →
        Gives (.regRead p payload [] regs) s hop13)) ∧
    (payload.length = 12 → num payload 0 2 = 0x34 → num payload 2 2 = 1 → s.verdict 3 0 0xFFD 1 = none →
      Gives (.regWrite p payload []) s fun t => t = { s.answered p (dexBytes 0 0 1 (zeros 8)) with evt := t.evt } ∧
        t.evt.en = BitVec.ofNat 24 (num payload 8 4) ∧ t.evt.stat = s.evt.stat ∧ t.evt.cnt = s.evt.cnt ∧
        t.evt.cyc.events = s.evt.cyc.events) ∧
    (∀ sel i : Nat, payload.length = 8 → byteAt payload 0 = sel → num payload 2 2 = i → num payload 4 2 = 1 → 1 ≤ sel → sel ≤ 13 →
      i < (tableSize sel).getD 0 → s.readNotReady sel i = false →
      s.verdict (entryGate sel i).1 (entryGate sel i).2 0xFFD 0 = none → s.badWord sel i = none →
      exec (.tblRead p payload [] []) s = .next (s.answered p (dexBytes 0 0 1 (leBytes 0 16 ++ zeros 8 ++ toBytes (s.entry sel i) 32)))) ∧
    (∀ i : Nat, payload.length = 64 → byteAt payload 0 = 1 → num payload 2 2 = i → num payload 4 2 = 1 → i < 0x1000 →
      s.verdict 3 (tableAddr 1 i) 0xFFD 1 = none → s.writeRefusal 1 i = none →
      exec (.tblWrite p payload [] []) s = .next (({ s with cad := { s.cad with shH := tput 0 s.cad.shH i (maskHolder (entryAt payload 32)) } } :
        State).answered p (dexBytes 0 0 1 (leBytes 0 16 ++ zeros 8)))) ∧
    (∀ i : Nat, payload.length = 64 → num payload 2 2 = i → num payload 4 2 = 1 → 1 ≤ i → i < 0x1000 →
      s.verdict 3 (tableAddr 3 i) 0xFFD 1 = none → s.writeRefusal 3 i = none →
      exec (.planWrite p payload []) s = .next (({ s with plan := { s.plan with sh := tput 0 s.plan.sh i (maskRecord (entryAt payload 32)) } } :
        State).answered p (dexBytes 0 0 1 (leBytes 0 16 ++ zeros 8))))

/-- RELEASE_TILES, RELEASE_PREPARE_DONE, RELEASE_CYCLE, RELEASE_CLEANUP_DONE and CAPACITY_QUERY (02:R79, 11:R294-R297). A run of permitted tiles starts
the background command with nothing released yet; its walk counts the run's stored sectors; its cycle leaves no stored copy of a tile of the
run, no slot that holds one but a transfer's, no read that waits for one, and the two LAST_RELEASED values; its cleanup ends it. Capacity Query
returns the sectors of the part, the free and reserved ones, what is pinned, and LAST_RELEASED. -/
def Obligations.ReleaseAndCapacity : Prop :=
  ∀ (s : State) (p : Port) (payload : List Byte) (a n : Nat),
    (s.DexOpen p → s.part.dense = true → payload.length = 16 → num payload 0 2 = 1 → num payload 8 4 = a → num payload 12 4 = n → 1 ≤ n →
      a + n ≤ s.part.tiles → (∀ tile i, a ≤ tile → tile < a + n → i < 64 → s.verdict 2 (denseBase + tile * 4096 + i * 64) 0xFFD 1 = none) →
      exec (.releaseTiles p payload) s = .next { s.touch .mailbox with
        t2 := { s.t2 with release := some ⟨.prepare, p, [(a, n)], false, n, 0⟩ }
        mbox := { s.mbox with background := some (p, .releaseTiles) }
        resp := [.mbox p .backgroundStarted .ok .none] }) ∧
    (∀ r, s.t2.release = some r →
      (r.phase = .prepare → s.stewardUp = true → s.md.mode = .service → s.comp.level.toNat < 2 →
        exec .releasePrepareDone s = .next { s with resp := [], t2 := { s.t2 with release := some { r with
          phase := .persisted, sectors := sumBy (fun q : Nat × MapEntry => if inRuns r.runs q.1 then q.2.sectors else 0) s.t2.tileMap } } }) ∧
      (r.phase = .persisted → s.clk.run = true →
        Gives .releaseCycle s fun t => (∀ w ∈ t.link.waits, inRuns r.runs w.tile = false) ∧ (∀ w ∈ t.t0.stores, inRuns r.runs w.tile = false) ∧
          t.t2.release = some { r with phase := .cleanup } ∧ t.t2.lastReleasedTiles = BitVec.ofNat 32 r.permitted ∧
          t.t2.lastReleasedSectors = BitVec.ofNat 64 r.sectors ∧ t.t0.scratch = s.t0.scratch ∧ t.t1.cells = s.t1.cells ∧ t.plan = s.plan ∧
          t.cad = s.cad ∧ t.md.mode = s.md.mode ∧
          (s.Quiet → rising s.t2.tileMap = true →
            (∀ tile, inRuns r.runs tile = true → tget t.t2.tileMap tile = none ∧ (∀ x ∈ t.t0.pool, x.tile = tile → x.doomed = true)) ∧
            (∀ tile, inRuns r.runs tile = false → tget t.t2.tileMap tile = tget s.t2.tileMap tile))) ∧
      (r.phase = .cleanup → s.stewardUp = true →
        exec .releaseCleanupDone s = .next (({ s with
          t2 := { s.t2 with release := none }
          mbox := { s.mbox with background := none, bgStatus := some (.releaseTiles, if r.denied then 2 else 0) }
          resp := [] } : State).touch .mailbox))) ∧
    (s.DexOpen p → s.part.dense = true → exec (.capacityQuery p []) s = .next (s.answered p (dexBytes 0 0 0
      (leBytes s.part.usableSectors 8 ++ leBytes s.usableFree 8 ++ leBytes (8 * s.plan.reservedTiles) 8 ++ leBytes s.pinnedBytes 8 ++
       leBytes (s.t0.pool.filter fun x => x.st = .pinned).length 4 ++
       leBytes (bbit s.t2.capacityLow 0 + bbit s.md.restrict.capacityStall 1 + bbit (s.overcommits (s.plan.recs 4)) 2) 1 ++ zeros 3 ++
       leBytes s.t2.lastReleasedSectors.toNat 8 ++ leBytes s.t2.lastReleasedTiles.toNat 4 ++ zeros 4))))

/-- KEY_GENERATE, KEY_IMPORT, KEY_ERASE, KEYSLOT_GENERATE and KEYSLOT_ERASE (14:R348, R363, R365, 19:R475-R482, Table 19-7), on a part with encryption
whose mode, restrictions and gates admit them. Where the store's engine may make the record at once, GENERATE fills an EMPTY slot with a fresh draw
as origin 1 and IMPORT with the key its blob carries as origin 2 (a blob that carries none returns Invalid Input: log entry 7), each with the
key's record stored; a record with a failing word leaves the slot EMPTY and ends with DATA_ERROR (log entry 91). ERASE leaves the slot EMPTY
with its record blank, and a queued write under the key is programmed as poison. Where the engine is busy, the command's record waits and it is
answered later. Other slots keep their keys. -/
def Obligations.KeyCommands : Prop :=
  ∀ (s : State) (p : Port) (path : Path) (payload : List Byte) (k : Nat), s.part.encrypt = true → k < 256 →
    s.md.restrict.fieldRo = false → s.verdict 3 (tableAddr 13 k) 0xFFD 1 = none →
    let others (t : State) : Prop := (∀ j, ¬ (j = k) → t.keySlot j = s.keySlot j) ∧ t.t1.cells = s.t1.cells ∧ t.t2.tileMap = s.t2.tileMap ∧
      t.cad = s.cad ∧ t.plan = s.plan ∧ t.md.mode = s.md.mode
    let holds (t : State) (origin : Byte) (key : BitVec 512) : Prop := (t.keySlot k).state = 1 ∧ (t.keySlot k).key = key ∧
      (t.keySlot k).origin = origin ∧ tget t.keys.records k = some (key, origin) ∧
      swRun t.store.words (keyAddr k) 32 = keyWords s.fuse.uniqueId k key origin ∧ others t
    let spoiled (t : State) : Prop := t.keySlot k = s.keySlot k ∧ tget t.keys.records k = none ∧ t.evt.stat.getLsbD 3 = true ∧ others t
    let erased (t : State) : Prop := (t.keySlot k).state = 0 ∧ (∀ e ∈ t.t1.wq, e.key = some (BitVec.ofNat 8 k) →
      e.words = packWords (List.replicate 64 (poisonWord (lineFold e.line)))) ∧ others t
    let blank (t : State) : Prop := tget t.keys.records k = none ∧ ∀ i < 32, swBlank t.store.words (keyAddr k + i) = true
    let drawn (s : State) : BitVec 512 := (({ s with ent := { s.ent with lastReseed := s.clk.ts, requests := 0 } } : State).drawKey 8).1
    let word (f : Fin 128) : Prop := keyAddr k ≤ keyAddr k / 128 * 128 + f.val ∧ keyAddr k / 128 * 128 + f.val < keyAddr k + 32
    (s.DexOpen p → payload.length = 8 → byteAt payload 0 = k → s.ent.ready = true → (s.keySlot k).state = 0 → s.recordAsked k = false →
      s.keyHeld k = false → rising s.keys.records = true →
      (s.RecordNow → Gives (.keyGenerate p payload none) s fun t => holds t 1 (drawn s) ∧ t.resp = [.mbox p .success .ok (dexBytes 0 0 1 [])]) ∧
      (∀ f, word f → s.RecordNow → Gives (.keyGenerate p payload (some f)) s fun t => spoiled t ∧
        t.resp = [.mbox p .success .ok (dexBytes 8 0x0C 0 [])]) ∧
      (¬ s.RecordNow → Gives (.keyGenerate p payload none) s fun t => t.keys = s.keys ∧ t.resp = [] ∧
        t.store = { s.store with queue := s.store.queue ++ [.record k (some (drawn s, 1)) true (srcPath .mailbox) (.command p)] } ∧ others t)) ∧
    (s.DexOpen p → payload.length = 184 → byteAt payload 0 = k → num payload 2 2 = 176 → (s.keySlot k).state = 0 → s.recordAsked k = false →
      s.keyHeld k = false → s.RecordNow →
      Gives (.keyImport p payload none) s fun t =>
        (s.blobKey k (payload.drop 8) = none → t = { s with resp := [.mbox p .invalidInput .ok .none] }) ∧
        (∀ key, s.blobKey k (payload.drop 8) = some key → holds t 2 key ∧ t.ent = s.ent ∧
          t.resp = [.mbox p .success .ok (dexBytes 0 0 1 [])])) ∧
    (s.DexOpen p → payload.length = 8 → byteAt payload 0 = k → ¬ ((s.keySlot k).state = 0) → rising s.keys.slots = true →
      rising s.keys.records = true →
      Gives (.keyErase p payload) s fun t => erased t ∧
        (s.RecordNow → blank t ∧ (s.link.waits = [] → t.resp = [.mbox p .success .ok (dexBytes 0 0 1 [])])) ∧
        (s.Quiet → ∀ x ∈ t.t0.pool, (s.plan.recs 7).any (fun e => sTier e == 2 && sKey e == k && decide (sStart e ≤ denseBase + x.tile * 4096) &&
          decide (denseBase + x.tile * 4096 ≤ sEnd e)) = true → x.doomed = true)) ∧
    (s.EntryOpen path 13 k → s.ent.ready = true → (s.keySlot k).state = 0 → s.recordAsked k = false → s.keyHeld k = false →
      rising s.keys.records = true →
      (s.RecordNow → Gives (.keyslotGenerate path (BitVec.ofNat 16 k) none) s fun t => holds t 1 (drawn s) ∧ t.resp = [.table path 0]) ∧
      (∀ f, word f → s.RecordNow → Gives (.keyslotGenerate path (BitVec.ofNat 16 k) (some f)) s fun t => spoiled t ∧ t.resp = [.table path 0x0C]) ∧
      (¬ s.RecordNow → Gives (.keyslotGenerate path (BitVec.ofNat 16 k) none) s fun t => t.keys = s.keys ∧ t.resp = [] ∧ t.tbl.busy = true ∧
        t.store = { s.store with queue := s.store.queue ++ [.record k (some (drawn s, 1)) true (srcPath path) .table] } ∧ others t)) ∧
    (s.EntryOpen path 13 k → ¬ ((s.keySlot k).state = 0) → rising s.keys.slots = true → rising s.keys.records = true →
      Gives (.keyslotErase path (BitVec.ofNat 16 k)) s fun t => erased t ∧
        (s.RecordNow → blank t ∧ (s.link.waits = [] → t.resp = [.table path 0])))

/-! ### The Strait port and I3C (12) -/

/-- STRAIT_READ_FRAME, STRAIT_WRITE_FRAME, STRAIT_BAD_FRAME and STRAIT_PORT_READY (12:R300, R303-R308, R314, Tables 12-2 to 12-4, 06:R158). A READ frame
with a good CRC-8, whose run lies in one part that gate 3 permits, answers OK with its tag and the registers as they stand, or DATA_ERROR with
ECC_UE where their parity is wrong; a WRITE frame of EVT_EN by the OWNER writes it; a frame outside Table 12-2 answers BAD_FRAME; a frame cut short
or with a wrong CRC answers nothing, is counted and sets STRAIT_CRC; and the port becomes ready once, SPI drawing nothing. -/
def Obligations.StraitFrames : Prop :=
  ∀ s : State, s.md.mode = .service →
    (∀ (tag lo hi n : Byte) (more : List Byte) (regs : BitFlips), s.straitServes = true → (s.strap.msel = true → more = []) →
      let off := lo.toNat + 256 * hi.toNat
      let b := withCrc [1, tag, lo, hi, n] ++ more
      let l := (List.range n.toNat).map fun i => (s.touch .strait).reg (off + 4 * i)
      let answer (st : WStatus) (l : List Word) := responseFrame st tag (wordBytes l)
      off % 4 = 0 → off ≤ 0x3FC → 1 ≤ n.toNat → n.toNat ≤ 16 → off / 64 = (off + 4 * (n.toNat - 1)) / 64 →
      s.verdict 3 (off / 64 * 64) 0xFFE 0 = none → off + 4 * n.toNat ≤ 0x1C4 ∨ 0x1C4 < off →
      (parWords l regs = some l → exec (.straitReadFrame b regs) s = .next { s.touch .strait with
        strait := s.straitHolds b.length 6 (answer .ok l)
        resp := [.strait (answer .ok l)] }) ∧
      (parWords l regs = none → Gives (.straitReadFrame b regs) s fun t =>
        t = { s.touch .strait with strait := s.straitHolds b.length 6 (answer .dataError (List.replicate n.toNat 0))
                                   resp := [.strait (answer .dataError (List.replicate n.toNat 0))], err := t.err, evt := t.evt } ∧
        t.evt.stat = s.evt.stat ||| 8)) ∧
    (∀ (tag a b c d : Byte) (more : List Byte), s.straitServes = true → (s.strap.msel = true → more = []) → s.own.holder = some .strait →
      s.md.restrict.versionLimited = false → s.verdict 3 0 0xFFE 1 = none →
      let f := withCrc [2, tag, 0x34, 0, 1, a, b, c, d] ++ more
      Gives (.straitWriteFrame f) s fun t =>
        t = { s.touch .strait with strait := s.straitHolds f.length 10 (responseFrame .ok tag []), evt := t.evt
                                   resp := [.strait (responseFrame .ok tag [])] } ∧
        t.evt.en = c ++ b ++ a ∧ t.evt.stat = s.evt.stat ∧ t.evt.cnt = s.evt.cnt ∧ t.evt.cyc.events = s.evt.cyc.events) ∧
    (∀ op tag lo hi n : Byte, ¬ (op = 2) → s.straitServes = true → frameOutside op.toNat (lo.toNat + 256 * hi.toNat) n.toNat = true →
      let b := withCrc [op, tag, lo, hi, n]
      let R := responseFrame .badFrame tag (if op = 1 then zeros (4 * n.toNat) else [])
      exec (.straitReadFrame b []) s = .next { s.touch .strait with strait := s.straitHolds b.length 6 R, resp := [.strait R] }) ∧
    (∀ b : List Byte, s.straitServes = true → frameBad s.strap.msel b = true →
      Gives (.straitReadFrame b []) s fun t => t = { s with strait := t.strait, evt := t.evt, resp := [] } ∧
        t.evt.stat = s.evt.stat ||| 0x200000 ∧ t.strait.response = s.strait.response) ∧
    (∀ reason : BadFrame, s.straitServes = true →
      Gives (.straitBadFrame reason) s fun t =>
        t = { s with strait := t.strait, evt := t.evt, resp := [], i3c := { s.i3c with protErr := s.i3c.protErr || (s.strap.msel && reason = .parity) } } ∧
        t.evt.stat = s.evt.stat ||| 0x200000 ∧ t.strait.response = s.strait.response ∧ t.strait.ready = s.strait.ready ∧
        (s.strait.lastBadRecord = none → t.strait.bad = 0 ∧ t.strait.lastBadRecord = some s.clk.ts ∧
          ∃ e ∈ t.evt.cyc.events, e.code = 0x43 ∧ e.payload = pay [(16, 2, (satAdd s.strait.bad 1).toNat)])) ∧
    (s.straitServes = false → ∀ b : List Byte,
      exec (.straitReadFrame b []) s = .next { s with strait := { s.strait with miso := none }, resp := [] } ∧
      exec (.straitWriteFrame b) s = .next { s with strait := { s.strait with miso := none }, resp := [] }) ∧
    (s.clk.run = true → s.strait.ready = false →
      (s.strap.msel = false → exec .straitPortReady s = .next { s with strait := { s.strait with ready := true }, resp := [] }) ∧
      (s.strap.msel = true → Gives .straitPortReady s fun t =>
        t = { s with strait := { s.strait with ready := true }, i3c := { s.i3c with pidLow := t.i3c.pidLow, hotJoin := t.i3c.hotJoin },
                     ent := s.draw.2.ent, resp := [] } ∧
        (s.i3c.addr = none → t.i3c.hotJoin = some s.clk.ts) ∧ (∀ a, s.i3c.addr = some a → t.i3c.hotJoin = s.i3c.hotJoin)))

/-- ENTDAA, SETDASA, SETNEWDA, RSTDAA, ENEC and DISEC (12:R310, R311, Table 12-5): ENTDAA won, SETDASA to the static address and SETNEWDA give the address
and end the Hot-Join reason; RSTDAA takes it away; ENEC and DISEC set and clear the enables of in-band interrupt and Hot-Join (their bits: log
entry 11). -/
def Obligations.I3cTargetIsAddressed : Prop :=
  ∀ (s : State) (a b : BitVec 7) (bits : Byte),
    let taken (resp : List Resp) : State := { s with i3c := { s.i3c with addr := some b, hotJoin := none }, resp := resp }
    let enabled (resp : List Resp) : State := { s with resp := resp, i3c := { s.i3c with
      intEn := s.i3c.intEn || bits.getLsbD 0, hjEn := s.i3c.hjEn || bits.getLsbD 3, hjStopped := s.i3c.hjStopped && !bits.getLsbD 3 } }
    let disabled (resp : List Resp) : State := { s with resp := resp, i3c := { s.i3c with
      intEn := s.i3c.intEn && !bits.getLsbD 0, hjEn := s.i3c.hjEn && !bits.getLsbD 3, hjStopped := s.i3c.hjStopped || bits.getLsbD 3 } }
    (s.i3cUp = true → s.i3c.addr = none → exec (.entdaa b true) s = .next (taken [.i3cAck]) ∧ exec (.entdaa b false) s = .next { s with resp := [] }) ∧
    (s.i3cUp = true → a = 0x30 + s.strap.saddr.setWidth 7 → exec (.setdasa a b) s = .next (taken [.i3cAck])) ∧
    (s.Addressed a → exec (.setnewda a b) s = .next (taken [.i3cAck])) ∧
    (s.i3cUp = true → exec .rstdaa s = .next { s with i3c := { s.i3c with addr := none }, resp := [] }) ∧
    (s.i3cUp = true → exec (.enec none bits) s = .next (enabled []) ∧ exec (.disec none bits) s = .next (disabled [])) ∧
    (s.Addressed a → exec (.enec (some a) bits) s = .next (enabled [.i3cAck]) ∧ exec (.disec (some a) bits) s = .next (disabled [.i3cAck]))

/-- GETPID, GETBCR, GETDCR, GETSTATUS, I3C_PRIVATE_READ, RSTACT, I3C_TARGET_RESET, I3C_CCC_UNSUPPORTED and I3C_PROTOCOL_ERROR to the addressed target
(12:R309-R311, R314-R316, Tables 12-5, 12-6): a read returns its bytes, most significant first, and GETSTATUS clears the protocol error; a private
read returns the pending response, or NO_REQUEST; a first byte that another target drives otherwise is a collision, which takes the address
away, draws the provisioned ID's low half again and is logged; RSTACT keeps a supported action and refuses another; a target reset drops the
pending response and withdraws the requested interrupt; an unsupported direct code is not acknowledged; and a protocol error is kept. -/
def Obligations.I3cTargetAnswers : Prop :=
  ∀ (s : State) (a : BitVec 7), s.Addressed a →
    let collides (t : State) : Prop :=
      t = { s with i3c := { s.i3c with addr := none, ibi := false, pidLow := t.i3c.pidLow, hotJoin := some s.clk.ts, protErr := t.i3c.protErr },
                   ent := s.draw.2.ent, evt := t.evt, resp := [] } ∧ t.evt.stat = s.evt.stat ∧ ∃ e ∈ t.evt.cyc.events, e.code = 0x44
    exec (.getpid a false) s = .next { s with resp := [.i3cBytes (beBytes s.pid 6)] } ∧
    exec (.getbcr a false) s = .next { s with resp := [.i3cBytes [0x0E]] } ∧
    exec (.getdcr a false) s = .next { s with resp := [.i3cBytes [0x00]] } ∧
    exec (.getstatus a false) s = .next { s with i3c := { s.i3c with protErr := false }, resp := [.i3cBytes (beBytes s.i3cStatus 2)] } ∧
    (Gives (.getpid a true) s collides ∧ Gives (.getbcr a true) s collides ∧ Gives (.getdcr a true) s collides ∧
      Gives (.getstatus a true) s collides ∧ ∀ whole, Gives (.i3cPrivateRead a whole true) s collides) ∧
    (¬ (s.strait.response = []) →
      exec (.i3cPrivateRead a true false) s =
        .next { s with strait := { s.strait with response := [] }, resp := [.i3cBytes s.strait.response] } ∧
      exec (.i3cPrivateRead a false false) s = .next { s with resp := [.i3cBytes s.strait.response] }) ∧
    (s.strait.response = [] → exec (.i3cPrivateRead a true false) s = .next { s with resp := [.i3cBytes (responseFrame .noRequest 0 [])] }) ∧
    (∀ d : Byte, d.toNat ≤ 2 →
      exec (.rstact (some a) d) s = .next { s with i3c := { s.i3c with rstAct := d }, resp := [.i3cAck] } ∧
      exec (.rstact none d) s = .next { s with i3c := { s.i3c with rstAct := d }, resp := [] }) ∧
    (∀ d : Byte, 2 < d.toNat → exec (.rstact (some a) d) s = .next { s with resp := [.i3cNak] }) ∧
    (¬ (s.i3c.rstAct = 0) → exec .i3cTargetReset s = .next { s with
      strait := { s.strait with response := [] }
      i3c := { s.i3c with ibi := false, withdrawn := s.i3c.withdrawn ||| (s.evt.stat &&& s.evt.en), protErr := false, rstAct := 0 }
      resp := [] }) ∧
    (∀ code : Byte, ¬ (code ∈ i3cSupported) → exec (.i3cCccUnsupported (some a) code) s = .next { s with resp := [.i3cNak] } ∧
      exec (.i3cCccUnsupported none code) s = .next { s with resp := [] }) ∧
    exec .i3cProtocolError s = .next { s with i3c := { s.i3c with protErr := true }, resp := [] }

/-- HOT_JOIN_REQUEST, IBI_REQUEST and IBI_RETRY (12:R312, R313, R316): a Hot-Join request whose 1 ms has passed is made, with its record, and a NACK
stops it until ENEC HJ; an in-band interrupt is requested while a flag stands that is new since the last answer and was not withdrawn by a target
reset, its byte the lowest enabled flag: acknowledged or refused it is answered for the flags that then stand, lost it stays requested, draws its
delay and is tried again. -/
def Obligations.I3cTargetRequests : Prop :=
  ∀ s : State, s.i3cUp = true →
    let answered : State := { s with i3c := { s.i3c with ibi := false, ibiSeen := s.evt.stat &&& s.evt.en, withdrawn := 0 }, resp := [] }
    let lost : State := { s with ent := s.draw.2.ent, i3c := { s.i3c with ibi := true }, resp := [] }
    (∀ t0, s.i3c.hotJoin = some t0 → s.since t0 msec = true → s.i3c.hjEn = true → s.i3c.hjStopped = false → s.i3c.addr = none →
      let told (t : State) : Prop := t.evt.stat = s.evt.stat ∧ t.evt.cyc.events.length = s.evt.cyc.events.length + 1
      (Gives (.hotJoinRequest .nack) s fun t => t = { s with evt := t.evt, i3c := { s.i3c with hjStopped := true }, resp := [.hotJoin] } ∧ told t) ∧
      (Gives (.hotJoinRequest .lost) s fun t => t = { s with evt := t.evt, resp := [.hotJoin] } ∧ told t) ∧
      (Gives (.hotJoinRequest .ack) s fun t =>
        t = { s with evt := t.evt, ent := s.draw.2.ent, i3c := { s.i3c with hotJoin := t.i3c.hotJoin }, resp := [.hotJoin] } ∧ told t ∧
        t.i3c.hotJoin = some (s.clk.ts + BitVec.ofNat 64 (9 * msec + s.draw.1.toNat % (15 * msec + 1))))) ∧
    (s.i3c.intEn = true → s.i3c.addr.isSome = true →
      (s.i3c.ibi = false → ¬ (s.enabledFlags &&& ~~~(s.i3c.ibiSeen ||| s.i3c.withdrawn) = 0) →
        exec (.ibiRequest .ack false) s = .next { answered with resp := [.ibi s.ibiByte] } ∧
        exec (.ibiRequest .nack false) s = .next answered ∧ exec (.ibiRequest .lost false) s = .next lost) ∧
      (s.i3c.ibi = true → ¬ (s.enabledFlags = 0) →
        exec (.ibiRetry .ack false) s = .next { answered with resp := [.ibi s.ibiByte] } ∧
        exec (.ibiRetry .nack false) s = .next answered ∧ exec (.ibiRetry .lost false) s = .next lost)) ∧
    (s.enabledFlags &&& ~~~(s.i3c.ibiSeen ||| s.i3c.withdrawn) = 0 → ∀ x, exec (.ibiRequest x false) s = .next { s with resp := [] }) ∧
    (∀ i : Nat, i < 24 → s.enabledFlags.getLsbD i = true → (∀ j < i, s.enabledFlags.getLsbD j = false) → s.ibiByte = BitVec.ofNat 8 i)

/-! ### Registers (12, 13, and the chapters that own them) -/

/-- OWNER_CLAIM, OWNER_RELEASE and OWNER_IDLE_RELEASE (12:R317-R320): a claim of the free token takes it and a release by its holder frees it, each with
its OWNER record; a claim while another path holds it is refused NOT_OWNER, but of two claims of the free token in one cycle the Strait port's
stands and the mailbox's is refused (log entry 89); after one second without activity it goes free, unless a background command runs for the
mailbox. -/
def Obligations.OwnerPassesOneAtATime : Prop :=
  ∀ (s : State) (path : Path), s.pathUp path = true → s.md.mode = .service → s.md.restrict.versionLimited = false → s.stew.restarting = false →
    s.verdict 3 0 (pathHolder path) 1 = none →
    let only (t : State) : Prop := t = { s with own := t.own, evt := t.evt, resp := t.resp } ∧ t.evt.stat = s.evt.stat ∧ t.evt.en = s.evt.en ∧
      t.evt.cnt = s.evt.cnt
    (s.own.holder = none → Gives (.ownerClaim path) s fun t => only t ∧ t.own = ⟨some path, s.clk.ts⟩ ∧ t.resp = [.write path .ok] ∧
      t.evt.cyc.events.length = s.evt.cyc.events.length + 1 ∧ (path = .mailbox → t.evt.cyc.mboxClaim = true)) ∧
    (s.own.holder = some path → Gives (.ownerRelease path) s fun t => only t ∧ t.own.holder = none ∧ t.resp = [.write path .ok] ∧
      t.evt.cyc.events.length = s.evt.cyc.events.length + 1) ∧
    (∀ other, s.own.holder = some other → ¬ (other = path) → ¬ (path = .strait ∧ s.evt.cyc.mboxClaim = true) →
      exec (.ownerClaim path) s = .next { s with resp := [.write path .notOwner] }) ∧
    (s.own.holder = some .mailbox → path = .strait → s.evt.cyc.mboxClaim = true →
      Gives (.ownerClaim path) s fun t => only t ∧ t.own = ⟨some .strait, s.clk.ts⟩ ∧ t.resp = [.write .mailbox .notOwner, .write .strait .ok]) ∧
    (∀ h, s.own.holder = some h → s.since s.own.last 1600000000 = true → (h = .mailbox → s.mbox.background = none) →
      Gives .ownerIdleRelease s fun t => only t ∧ t.own.holder = none ∧ t.resp = [])

/-- EVT_STAT_CLEAR, EVT_FORCE, REGISTER_WRITE, LH_FREEZE and ENT_DATA_READ of the OWNER (13:R328, R330-R332, 00:R17, 01:R46, R47, 20:R492, 19:R469):
EVT_STAT clears the written bits that neither hardware nor EVT_FORCE has set in this very cycle; EVT_FORCE sets the written bits and counts none;
LH_CTL, EVT_EN, TBL_SEL (a table code), TBL_INDEX and TBL_DATA0 take what is written; and a ready ENT_DATA returns VALID with 24 bits of one
draw. -/
def Obligations.FlagsAndPlainRegisters : Prop :=
  ∀ (s : State) (path : Path) (b : BitVec 24) (v : Word) (f : Bool),
    (∀ k : Fin 24, (s.flagHit k).evt.cyc.setNow.getLsbD k.val = true ∧ (s.flagHit k).evt.stat.getLsbD k.val = true) ∧
    (s.RegOpen path 0x30 →
      (Gives (.evtStatClear path b) s fun t => t = { s.wrote path 0x30 b.toNat with evt := t.evt, cad := t.cad } ∧
        t.evt.stat = s.evt.stat &&& ~~~(b &&& ~~~s.evt.cyc.setNow) ∧ t.evt.en = s.evt.en ∧ t.evt.cnt = s.evt.cnt ∧
        (b.getLsbD 1 = false → t.cad = s.cad)) ∧
      (Gives (.evtForce path b) s fun t => t = { s.wrote path 0x38 b.toNat with evt := t.evt } ∧ t.evt.stat = s.evt.stat ||| b ∧
        t.evt.cyc.setNow = s.evt.cyc.setNow ||| b ∧ t.evt.en = s.evt.en ∧ t.evt.cnt = s.evt.cnt) ∧
      exec (.registerWrite path 0x34 v) s =
        .next { s.wrote path 0x34 v.toNat with evt := { (s.wrote path 0x34 v.toNat).evt with en := v.extractLsb' 0 24 } }) ∧
    (s.RegOpen path 0x80 → (path = .mailbox → s.evt.cyc.straitSel = false ∧ s.evt.cyc.straitIndex = false) →
      (Gives (.registerWrite path 0x80 v) s fun t => s.Traced t ∧ t = { s.wrote path 0x80 v.toNat with evt := t.evt, tbl := { s.tbl with
        sel := if 1 ≤ v.toNat % 256 ∧ v.toNat % 256 ≤ 13 then v.extractLsb' 0 8 else s.tbl.sel } }) ∧
      (Gives (.registerWrite path 0x84 v) s fun t => s.Traced t ∧
        t = { s.wrote path 0x84 v.toNat with evt := t.evt, tbl := { s.tbl with index := v.extractLsb' 0 16 } }) ∧
      (s.tbl.busy = false → Gives (.registerWrite path 0x90 v) s fun t => s.Traced t ∧
        t = { s.wrote path 0x90 v.toNat with evt := t.evt, tbl := { s.tbl with data := t.tbl.data } } ∧
        t.tbl.data.extractLsb' 0 32 = v ∧ t.tbl.data.extractLsb' 32 224 = s.tbl.data.extractLsb' 32 224) ∧
      (s.tbl.busy = true → exec (.registerWrite path 0x90 v) s = .next (s.wrote path 0x90 v.toNat))) ∧
    (s.RegOpen path 0x1E0 →
      exec (.lhFreeze path f) s = .next { s.wrote path 0x1E0 (bbit f 0) with lh := { s.lh with freeze := f } }) ∧
    (s.RegOpen path 0x1C4 → s.verdict 3 0x1C0 (pathHolder path) 0 = none → s.ent.ready = true →
      Gives (.entDataRead path) s fun t => t = { s with own := ⟨some path, s.clk.ts⟩, ent := s.draw.2.ent, resp := t.resp } ∧
        ∃ w : Word, t.resp = [.value path w] ∧ w.getLsbD 31 = true ∧ bits w 24 7 = 0 ∧ bits w 0 24 = bits s.draw.1 0 24)

/-- MODE_CTL_REQ_DORMANT, MODE_CTL_REQ_CAUSEWAY, MUSTER_EN_WRITE, MODE_CTL_LOCK and WITNESS_CLR of the OWNER (13 Table 13-6, R329, 15:R378, Table 15-7,
09:R242, 01:R37): REQ = DORMANT with no failing precondition is the epoch to DORMANT with cause 4 and begins the settle phase, and with one
changes no mode; REQ = CAUSEWAY is the epoch to CAUSEWAY with cause 4, which drives MUSTER, abandons a running commit and begins the drain;
MUSTER_EN takes its bit unless locked; LOCK locks; and WITNESS_CLR clears WITNESS_EXPIRED after a full T1 pass. -/
def Obligations.ModeControl : Prop :=
  ∀ (s : State) (path : Path) (m : Bool), s.RegOpen path 0x24 →
    let same (t : State) : Prop := t.t0 = s.t0 ∧ t.t1 = s.t1 ∧ t.t2 = s.t2 ∧ t.cad = s.cad ∧ t.plan = s.plan ∧ t.ferry = s.ferry ∧
      t.link = s.link ∧ t.keys = s.keys ∧ t.store.words = s.store.words ∧ t.clk = s.clk ∧ t.resp = [.write path .ok]
    (s.dormantFails = none → Gives (.modeCtlReqDormant path m) s fun t => same t ∧ t.md.mode = .dormant ∧ t.md.prev = .service ∧ t.md.cause = 4 ∧
      t.drain.settle = 1 ∧ t.evt.stat = s.evt.stat ||| 1) ∧
    (¬ (s.dormantFails = none) → Gives (.modeCtlReqDormant path m) s fun t => same t ∧ t.md.mode = .service ∧ t.drain = s.drain ∧
      t.evt.stat = s.evt.stat ∧ ∃ e ∈ t.evt.cyc.events, e.code = 0x05) ∧
    (Gives (.modeCtlReqCauseway path m) s fun t => same t ∧ t.md.mode = .causeway ∧ t.md.prev = .service ∧ t.md.cause = 4 ∧
      t.pin.musterDriven = true ∧ t.drain.step = 2 ∧ t.evt.stat = s.evt.stat ||| 1 ∧ t.commit = s.abandonCommit.commit) ∧
    (s.md.lock = false →
      (Gives (.musterEnWrite path m) s fun t => t = { s.wrote path 0x24 (bbit m 4) with md := { s.md with musterEn := m }, store := { s.store with queue := t.store.queue } } ∧
        IntOp.param 0 ∈ t.store.queue) ∧
      (Gives (.modeCtlLock path m) s fun t => t = { s.wrote path 0x24 (2 ^ 31 + bbit m 4) with
        md := { s.md with musterEn := m, lock := true }, store := { s.store with queue := t.store.queue } })) ∧
    (s.md.lock = true → exec (.musterEnWrite path m) s = .next (s.wrote path 0x24 (bbit m 4)) ∧
      exec (.modeCtlLock path m) s = .next (s.wrote path 0x24 (2 ^ 31 + bbit m 4))) ∧
    (s.md.restrict.witnessExpired = true → s.trav.passSinceExpired = true →
      Gives (.witnessClr path m) s fun t => same t ∧ t.md.restrict = { s.md.restrict with witnessExpired := false } ∧ t.md.mode = .service ∧
        t.store.witExpired = false ∧ t.evt.stat = s.evt.stat) ∧
    (s.md.restrict.witnessExpired = true → s.trav.passSinceExpired = false →
      Gives (.witnessClr path m) s fun t => same t ∧ t.md.restrict = s.md.restrict ∧ t.evt.stat = s.evt.stat ∧
        ∃ e ∈ t.evt.cyc.events, e.code = 0x34)

/-- CEILING_WRITE, TIDE_CTL_LOCK, COMPASS_THR_WRITE, COMPASS_THR_LOCK, WARN_THR_WRITE, TRAV_PERIOD_WRITE, PORT_OFF_WRITE and PD_CTL_LOCK of the OWNER
(13:R329, Tables 13-6, 13-11, 13-13, 13-14, 01:R38, 08:R197, 09:R224, R235, 15:R372): an unlocked field takes the value written, a lock that is written
locks, and a locked field keeps its value; a threshold or a period outside its limits is not taken; and the ceiling takes part at once in the
budget in force, the least of the gauge budget, the ceiling and the part's limit. -/
def Obligations.RecalledFieldsAndLocks : Prop :=
  ∀ (s : State) (path : Path) (ceiling : BitVec 20) (ro inh cau n : BitVec 10) (po : BitVec 2) (w : Byte),
    let kept (t : State) : Store := { s.store with queue := t.store.queue }
    let inLimits : Prop := 15 ≤ cau.toNat ∧ cau.toNat ≤ 30 ∧ 40 ≤ inh.toNat ∧ inh.toNat ≤ 80 ∧ 125 ≤ ro.toNat ∧ ro.toNat ≤ 250
    (s.RegOpen path 0x5C →
      let budget (lock : Bool) (t : State) : Prop := t.tide = { s.tide with
          ceiling := ceiling, lock := lock, budget := min s.tide.gauge (min ceiling.toNat s.part.drainLimit)
          src := decide (ceiling.toNat < s.tide.gauge), forced := t.tide.forced } ∧
        s.Flags t 0x10000 ∧ IntOp.param 0 ∈ t.store.queue
      (s.tide.lock = false →
        (Gives (.ceilingWrite path ceiling) s fun t => budget false t ∧
          t = { s.wrote path 0x5C ceiling.toNat with tide := t.tide, store := kept t, md := { s.md with restrict := t.md.restrict }, evt := t.evt }) ∧
        (Gives (.tideCtlLock path ceiling) s fun t => budget true t ∧
          t = { s.wrote path 0x5C (2 ^ 31 + ceiling.toNat) with tide := t.tide, store := kept t, md := { s.md with restrict := t.md.restrict },
                                                                 evt := t.evt })) ∧
      (s.tide.lock = true → exec (.ceilingWrite path ceiling) s = .next (s.wrote path 0x5C ceiling.toNat) ∧
        exec (.tideCtlLock path ceiling) s = .next (s.wrote path 0x5C (2 ^ 31 + ceiling.toNat)))) ∧
    (s.RegOpen path 0x70 → s.comp.lock = false → inLimits →
      (Gives (.compassThrWrite path ro inh cau) s fun t => t = { s.wrote path 0x70 (thrWord ro inh cau) with
        comp := { s.comp with ro := ro, inhibit := inh, caution := cau, lock := false }, store := kept t }) ∧
      (Gives (.compassThrLock path ro inh cau) s fun t => t = { s.wrote path 0x70 (2 ^ 31 + thrWord ro inh cau) with
        comp := { s.comp with ro := ro, inhibit := inh, caution := cau, lock := true }, store := kept t })) ∧
    (s.RegOpen path 0x70 → s.comp.lock = true ∨ ¬ inLimits →
      exec (.compassThrWrite path ro inh cau) s = .next (s.wrote path 0x70 (thrWord ro inh cau)) ∧
      exec (.compassThrLock path ro inh cau) s = .next (s.wrote path 0x70 (2 ^ 31 + thrWord ro inh cau))) ∧
    (s.RegOpen path 0x74 → 60 ≤ w.toNat → w.toNat ≤ 110 →
      Gives (.warnThrWrite path w) s fun t => t = { s.wrote path 0x74 (w.toNat * 2 ^ 24) with
        comp := { s.comp with warnThr := w, warnArmed := t.comp.warnArmed }, store := kept t, evt := t.evt } ∧ s.Flags t 0x400) ∧
    (s.RegOpen path 0x74 → ¬ (60 ≤ w.toNat ∧ w.toNat ≤ 110) → exec (.warnThrWrite path w) s = .next (s.wrote path 0x74 (w.toNat * 2 ^ 24))) ∧
    (s.RegOpen path 0x188 →
      (60 ≤ n.toNat → n.toNat ≤ 480 → Gives (.travPeriodWrite path .t1 n) s fun t => t = { s.wrote path 0x188 n.toNat with
        trav := { s.trav with t1 := { s.trav.t1 with period := n, esc := t.trav.t1.esc } }, store := kept t }) ∧
      (¬ (60 ≤ n.toNat ∧ n.toNat ≤ 480) → exec (.travPeriodWrite path .t1 n) s = .next (s.wrote path 0x188 n.toNat))) ∧
    (s.RegOpen path 0x18C →
      (24 ≤ n.toNat → n.toNat ≤ 720 → Gives (.travPeriodWrite path .t2 n) s fun t => t = { s.wrote path 0x18C n.toNat with
        trav := { s.trav with t2 := { s.trav.t2 with period := n, esc := t.trav.t2.esc } }, store := kept t }) ∧
      (¬ (24 ≤ n.toNat ∧ n.toNat ≤ 720) → exec (.travPeriodWrite path .t2 n) s = .next (s.wrote path 0x18C n.toNat))) ∧
    (s.RegOpen path 0x200 → s.pwr.lock = false →
      (Gives (.portOffWrite path po) s fun t => t = { s.wrote path 0x200 po.toNat with
        pwr := { s.pwr with portOff := po &&& s.part.portOffMask }, store := kept t }) ∧
      (Gives (.pdCtlLock path po) s fun t => t = { s.wrote path 0x200 (2 ^ 31 + po.toNat) with
        pwr := { s.pwr with portOff := po &&& s.part.portOffMask, lock := true }, store := kept t })) ∧
    (s.RegOpen path 0x200 → s.pwr.lock = true → exec (.portOffWrite path po) s = .next (s.wrote path 0x200 po.toNat) ∧
      exec (.pdCtlLock path po) s = .next (s.wrote path 0x200 (2 ^ 31 + po.toNat)))

/-- TBL_CMD_READ, TBL_CMD_READ_INC, TBL_CMD_WRITE, TBL_CMD_PLAN_COMMIT, TBL_CMD_COMPLETE, BMK_CTL_PRESET, TRAV_T2_EN_WRITE, TRAV_RESTART_T1 and
TRAV_RESTART_T2 of the OWNER (13:R328, R332, R333, 14:R342, R345, 08 Table 08-2): a TBL_CMD value is latched with SEL, INDEX and DATA and sets BUSY, one
that finds BUSY sets OVERRUN; a latched READ of an entry that can be read puts it into TBL_DATA, clears BUSY with OK, and READ_INC also steps INDEX;
a latched PLAN_COMMIT starts the commit; BMK_CTL.PRESET of an appliance page starts the engine; and a restarted pass begins anew. -/
def Obligations.RegisterCommands : Prop :=
  ∀ (s : State) (path : Path),
    (s.RegOpen path 0x88 → s.tbl.busy = false →
      let latched (v : Nat) (t : State) : Prop := s.Traced t ∧ t = { s.wrote path 0x88 v with evt := t.evt, tbl := { s.tbl with
        cmd := BitVec.ofNat 4 v, overrun := false, busy := true
        latch := some ⟨path, BitVec.ofNat 4 v, s.tbl.sel, s.tbl.index, s.tbl.data, false, false⟩ } }
      Gives (.tblCmdRead path) s (latched 1) ∧ Gives (.tblCmdWrite path) s (latched 2) ∧ Gives (.tblCmdPlanCommit path) s (latched 3) ∧
      Gives (.tblCmdReadInc path) s (latched 4)) ∧
    (s.RegOpen path 0x88 → s.tbl.busy = true → s.evt.cyc.mboxCmd = false →
      exec (.tblCmdRead path) s = .next { s.wrote path 0x88 1 with tbl := { s.tbl with overrun := true } }) ∧
    (∀ (l : TblLatch), s.tbl.latch = some l → l.inStore = false → s.clk.run = true →
      let told (c : Byte) : List Resp := if l.tell = true then [.table l.path c] else []
      let ended : TableIf := { s.tbl with code := 0, busy := false, latch := none }
      (l.index.toNat < (tableSize l.sel.toNat).getD 0 → s.readNotReady l.sel.toNat l.index.toNat = false →
        s.badWord l.sel.toNat l.index.toNat = none →
        s.verdict (entryGate l.sel.toNat l.index.toNat).1 (entryGate l.sel.toNat l.index.toNat).2 (pathHolder l.path) 0 = none →
        let evt : Events := { s.evt with cyc := { s.evt.cyc with capture := some (l.sel.toNat, l.index.toNat) } }
        (l.cmd = 1 → exec (.tblCmdComplete none) s = .next { s with resp := told 0, evt := evt, tbl := { ended with
          data := s.entry l.sel.toNat l.index.toNat } }) ∧
        (l.cmd = 4 → exec (.tblCmdComplete none) s = .next { s with resp := told 0, evt := evt, tbl := { ended with
          data := s.entry l.sel.toNat l.index.toNat, index := l.index + 1 } })) ∧
      (l.cmd = 3 → s.verdict 3 (tableAddr 3 0) (pathHolder l.path) 1 = none → s.md.mode = .service → s.commit = none → s.stew.restarting = false →
        s.md.restrict.versionLimited = false →
        exec (.tblCmdComplete none) s = .next { s with resp := told 0, tbl := ended, commit := some ⟨true, .validating, none, 0, 0, 0, false,
          (planChans s.plan.inf s.plan.sh).1, (planChans s.plan.inf s.plan.sh).2⟩ })) ∧
    (s.RegOpen path 0x100 → s.store.ready = true → s.store.busy = false → appliancePage s.store.page.toNat = true → s.md.restrict.fieldRo = false →
      (∀ i, i < 8 → s.verdict 4 (s.store.page.toNat * 512 + 64 * i) (pathHolder path) 1 = none) →
      exec (.bmkCtlPreset path) s = .next { s.wrote path 0x100 1 with store := { s.store with op := some (.pagePreset s.store.page.toNat, .preset) } }) ∧
    (s.RegOpen path 0x180 → ∀ e : Bool,
      exec (.travT2EnWrite path e) s = .next { s.wrote path 0x180 (bbit e 0) with trav := { s.trav with t2en := e } } ∧
      exec (.travRestartT1 path e) s = .next { s.wrote path 0x180 (2 + bbit e 0) with trav := { s.trav with
        t2en := e, t1 := { s.trav.t1 with pass := s.trav.t1.pass + 1, done := 0, pos := 0, passStart := s.trav.t1.served, esc := false, told := false
                                          forced := s.md.restrict.witnessSuspect } } } ∧
      exec (.travRestartT2 path e) s = .next { s.wrote path 0x180 (4 + bbit e 0) with trav := { s.trav with
        t2en := e, t2 := { s.trav.t2 with pass := s.trav.t2.pass + 1, done := 0, pos := 0, passStart := s.trav.t2.served, esc := false, told := false
                                          forced := false } } })

/-- HOLDER_WRITE, PARCEL_WRITE, PLAN_ENTRY_WRITE, FCHAN_CLEAR, FCHAN_ABORT, BANKERR_CLEAR and FLAGCNT_CLEAR of the OWNER (10:R262, 03:R83, R86, 04:R121,
08:R215, 13:R328, R331, R332): a HOLDER, PARCEL or plan entry is kept in its shadow copy, in its defined fields; op 1 of FCHAN clears the channel's
counters and op 2 aborts an active channel, each leaving the other channels; a cleared BANKERR entry reads zero but for its trim; a cleared
FLAGCNT entry reads zero; and what this very cycle has added to any of them stands after its clear. -/
def Obligations.EntryWrites : Prop :=
  ∀ (s : State) (path : Path) (i : BitVec 16) (e : Entry),
    let done (sel : Nat) (e : Entry) (t : State) : State := s.entryDone path sel i.toNat e 0 t
    (s.EntryOpen path 1 i.toNat → Gives (.holderWrite path i e) s fun t => s.Traced t ∧
      t = { done 1 e t with cad := { s.cad with shH := tput 0 s.cad.shH i.toNat (maskHolder e) } }) ∧
    (s.EntryOpen path 2 i.toNat → Gives (.parcelWrite path i e) s fun t => s.Traced t ∧
      t = { done 2 e t with cad := { s.cad with shP := tput 0 s.cad.shP i.toNat (maskParcel e) } }) ∧
    (s.EntryOpen path 3 i.toNat → Gives (.planEntryWrite path i e) s fun t => s.Traced t ∧
      t = { done 3 e t with plan := { s.plan with
        sh := tput 0 s.plan.sh i.toNat (if i = 0 then maskHeader (tgetD s.plan.sh 0 0) e else maskRecord e) } }) ∧
    (s.EntryOpen path 5 i.toNat → s.ferry.chans.length = 64 →
      (Gives (.fchanClear path i) s fun t => s.Traced t ∧ t = { done 5 1 t with ferry := t.ferry } ∧ s.OneChan t i.toNat ∧
        t.chan i.toNat = { s.chan i.toNat with cnt := tgetD s.evt.cyc.chanInc i.toNat ⟨0, 0, 0, 0, 0, 0, 0, 0⟩ }) ∧
      ((s.chan i.toNat).state.active = true →
        Gives (.fchanAbort path i) s fun t => t = { done 5 2 t with ferry := t.ferry } ∧ t.evt.stat = s.evt.stat ∧ s.OneChan t i.toNat ∧
          (t.chan i.toNat).state = .aborting ∧ (t.chan i.toNat).cnt = (s.chan i.toNat).cnt ∧ ∃ x ∈ t.evt.cyc.events, x.code = 0x10)) ∧
    (s.EntryOpen path 9 i.toNat → rising s.err.banks = true →
      let now := tgetD s.evt.cyc.bankInc i.toNat .zero
      Gives (.bankerrClear path i) s fun t => s.Traced t ∧ t = { done 9 1 t with err := { s.err with banks := t.err.banks } } ∧
        (t.bankErr i.toNat).corrections = now.corrections ∧ (t.bankErr i.toNat).uncorrectable = now.uncorrectable ∧
        (t.bankErr i.toNat).addrFaults = now.addrFaults ∧ (t.bankErr i.toNat).hardFaults = now.hardFaults ∧
        (t.bankErr i.toNat).writeRetries = now.writeRetries ∧ (t.bankErr i.toNat).writeFails = now.writeFails ∧
        (t.bankErr i.toNat).verifyLate = now.verifyLate ∧ (t.bankErr i.toNat).lastTs = now.lastTs ∧
        (t.bankErr i.toNat).trim = (s.bankErr i.toNat).trim ∧ ∀ k, ¬ (k = i.toNat) → t.bankErr k = s.bankErr k) ∧
    (s.EntryOpen path 10 i.toNat → i.toNat < 24 → s.evt.cnt.length = 24 →
      let hits := (s.evt.cyc.hits.filter fun b => b.val == i.toNat).length
      Gives (.flagcntClear path i) s fun t => t = done 10 1 t ∧ t.evt.stat = s.evt.stat ∧ t.evt.cyc.events = s.evt.cyc.events ∧
        (hits = 0 → lgetD t.evt.cnt i.toNat ⟨7, 7⟩ = ⟨0, 0⟩) ∧
        (0 < hits → lgetD t.evt.cnt i.toNat ⟨7, 7⟩ = ⟨BitVec.ofNat 16 (min 65535 hits), s.ts48⟩) ∧
        ∀ k, ¬ (k = i.toNat) → lgetD t.evt.cnt k ⟨7, 7⟩ = lgetD s.evt.cnt k ⟨7, 7⟩)

/-! ### The benchmark store (14) -/

/-- BMKPAGE_PROGRAM, MCOUNT_INCREMENT, MCOUNT_ADVANCE and MCOUNT_REBASE of the OWNER (13:R332, 14:R343, R344, R345, R349, R359): each that passes its
checks reaches the program engine, which runs it while BUSY stands. A program of a blank chunk writes its eight words; of a chunk with an
uncorrectable word it ends DATA_ERROR, and of a written one NOT_BLANK, or with AUTO_PRESET the page is preset and the chunk programmed with what the
rest of the page held. INCREMENT takes the sum, of 1 where the operand is 0, up to the highest value; ADVANCE takes the operand where it is higher;
REBASE takes it for a DAMAGED counter, whose other commands end DATA_ERROR; and each other one ends with no update. -/
def Obligations.StoreCommandsStart : Prop :=
  ∀ (s : State) (path : Path) (i : BitVec 16) (e : Entry) (n : BitVec 64),
    let runs (sel : Nat) (e : Entry) (op : StoreOp) (t : State) : Prop := s.Traced t ∧
      t = { s.entryRuns path sel i.toNat e t with store := { s.store with op := some (op, .table) } }
    let w := s.store.words
    let page := i.toNat / 16
    let a := i.toNat * 8
    (s.EntryOpen path 6 i.toNat →
      (swAnyBad w a 8 = true → Gives (.bmkpageProgram path i e) s (runs 6 e (.refused page 0x0C))) ∧
      (swAnyWritten w a 8 = false →
        Gives (.bmkpageProgram path i e) s (runs 6 e (.pageProgram page ((List.range 8).map fun k => (a + k, e.extractLsb' (32 * k) 32))))) ∧
      (swAnyBad w a 8 = false → swAnyWritten w a 8 = true →
        (swBad w (page * 128) = true ∨ (swVal w (page * 128)).getLsbD 0 = false →
          Gives (.bmkpageProgram path i e) s (runs 6 e (.refused page 0x0B))) ∧
        (swBad w (page * 128) = false → (swVal w (page * 128)).getLsbD 0 = true →
          (swAnyBad w (page * 128) 128 = true → Gives (.bmkpageProgram path i e) s (runs 6 e (.refused page 0x0C))) ∧
          (swAnyBad w (page * 128) 128 = false → ∃ l, Gives (.bmkpageProgram path i e) s (runs 6 e (.autoPreset page l)) ∧
            (∀ k, k < 8 → (a + k, e.extractLsb' (32 * k) 32) ∈ l) ∧
            (∀ b, b / 128 = page → ¬ (b / 8 = i.toNat) → swBlank w b = false → (b, swVal w b) ∈ l) ∧
            (∀ x ∈ l, x.1 / 128 = page ∧ (x.1 / 8 = i.toNat ∨ swBlank w x.1 = false)) ∧ (l.map (·.1)).Nodup)))) ∧
    (s.EntryOpen path 12 i.toNat →
      let v := s.store.view i.toNat
      let up := mcountEntry 1 n
      let adv := mcountEntry 2 n
      let re := mcountEntry 3 n
      let sum := v.value.toNat + max 1 n.toNat
      (¬ (v.state = 3) →
        (sum < 2 ^ 64 → Gives (.mcountIncrement path i n) s (runs 12 up (.mcount i.toNat (BitVec.ofNat 64 sum) false))) ∧
        (2 ^ 64 ≤ sum → ¬ (v.value = BitVec.allOnes 64) →
          Gives (.mcountIncrement path i n) s (runs 12 up (.mcount i.toNat (BitVec.allOnes 64) false))) ∧
        (v.value = BitVec.allOnes 64 → Gives (.mcountIncrement path i n) s (runs 12 up (.mcountNone i.toNat 0))) ∧
        (v.value.toNat < n.toNat → Gives (.mcountAdvance path i n) s (runs 12 adv (.mcount i.toNat n false))) ∧
        (n.toNat ≤ v.value.toNat → Gives (.mcountAdvance path i n) s (runs 12 adv (.mcountNone i.toNat 0))) ∧
        Gives (.mcountRebase path i n) s (runs 12 re (.mcountNone i.toNat 0))) ∧
      (v.state = 3 →
        Gives (.mcountRebase path i n) s (runs 12 re (.mcount i.toNat n true)) ∧
        Gives (.mcountIncrement path i n) s (runs 12 up (.mcountNone i.toNat 0x0C)) ∧
        Gives (.mcountAdvance path i n) s (runs 12 adv (.mcountNone i.toNat 0x0C))))

/-- STORE_OP_COMPLETE (14:R340, R344, R346, R348, R349, R356): the running operation ends: its words are as programmed or blank, a counter takes the new
value in the slot that was not current, BMK_DONE is set, LAST shows the code, the engine is free and the table command that waits ends with the
code. A word that still fails is uncorrectable and sets ECC_UE: a program ends OK with it, and a counter keeps its value and ends DATA_ERROR. -/
def Obligations.StoreOperationsEnd : Prop :=
  ∀ (s : State) (op : StoreOp) (l : TblLatch), s.clk.run = true →
    let ends (c : Byte) (m : BitVec 24) (t : State) : Prop := t.evt.stat = s.evt.stat ||| m ∧ t.evt.en = s.evt.en ∧
      t = { s with store := { s.engineFreed t with last := c, params := s.store.params }, evt := t.evt, tbl := t.tbl, resp := t.resp }
    let told (c : Byte) (m : BitVec 24) (t : State) : Prop := ends c m t ∧ t.tbl = { s.tbl with code := c, busy := false, latch := none } ∧
      t.resp = (if l.tell then [.table l.path c] else [])
    (s.store.op = some (op, .table) → s.tbl.latch = some l →
      (∀ page ws, op = .pageProgram page ws → (ws.map (·.1)).Nodup →
        (Gives (.storeOpComplete none) s fun t => told 0 0x800 t ∧ t.store.views = s.store.views ∧ (∀ q ∈ ws, tget t.store.words q.1 = some ⟨q.2, 0⟩) ∧
          ∀ a, ¬ (a ∈ ws.map (·.1)) → tget t.store.words a = tget s.store.words a) ∧
        (∀ f : Fin 128, page * 128 + f.val ∈ ws.map (·.1) → Gives (.storeOpComplete (some f)) s fun t => told 0 0x808 t ∧
          t.store.views = s.store.views ∧ swBad t.store.words (page * 128 + f.val) = true ∧
          ∀ q ∈ ws, ¬ (q.1 = page * 128 + f.val) → tget t.store.words q.1 = some ⟨q.2, 0⟩)) ∧
      (∀ page ws, op = .autoPreset page ws → (ws.map (·.1)).Nodup →
        Gives (.storeOpComplete none) s fun t => told 0 0x800 t ∧ t.store.views = s.store.views ∧ (∀ q ∈ ws, tget t.store.words q.1 = some ⟨q.2, 0⟩) ∧
          (∀ a, a / 128 = page → ¬ (a ∈ ws.map (·.1)) → swBlank t.store.words a = true) ∧
          ∀ a, ¬ (a / 128 = page) → ¬ (a ∈ ws.map (·.1)) → tget t.store.words a = tget s.store.words a) ∧
      (∀ i v r, op = .mcount i v r →
        let slot := if (s.store.view i).state = 1 then 1 else 0
        (Gives (.storeOpComplete none) s fun t => told 0 0x800 t ∧ (t.store.view i).value = v ∧ (t.store.view i).state = slot + 1 ∧
          slotValid t.store.words i slot = true ∧ slotValue t.store.words i slot = v ∧ (∀ k, ¬ (k = i) → t.store.view k = s.store.view k) ∧
          ∀ a, ¬ (slotAddr i slot ≤ a ∧ a < slotAddr i slot + 4) → tget t.store.words a = tget s.store.words a) ∧
        (∀ f : Fin 128, slotAddr i slot ≤ (256 + i / 16) * 128 + f.val → (256 + i / 16) * 128 + f.val < slotAddr i slot + 4 →
          Gives (.storeOpComplete (some f)) s fun t => told 0x0C 0x808 t ∧ t.store.views = s.store.views ∧
            slotValid t.store.words i slot = false)) ∧
      (∀ i c, op = .mcountNone i c → exec (.storeOpComplete none) s = exec (.storeOpComplete (some 0)) s ∧
        Gives (.storeOpComplete none) s fun t => told c 0x800 t ∧ t.store.words = s.store.words ∧ t.store.views = s.store.views) ∧
      (∀ page c, op = .refused page c →
        Gives (.storeOpComplete none) s fun t => told c 0x800 t ∧ t.store.words = s.store.words ∧ t.store.views = s.store.views)) ∧
    (∀ page, s.store.op = some (.pagePreset page, .preset) →
      Gives (.storeOpComplete none) s fun t => ends 0 0x800 t ∧ t.tbl = s.tbl ∧ t.resp = [] ∧ t.store.views = s.store.views ∧
        (∀ a, a / 128 = page → swBlank t.store.words a = true) ∧ ∀ a, ¬ (a / 128 = page) → tget t.store.words a = tget s.store.words a)

/-- EVENT_LOG_APPEND, COUNTER_UPDATE, PARAM_PAGE_UPDATE, TRACE_SET_PRESET, TRACE_SAVE, CXL_EVENT_LOG_PLACE, FAULT_TOKEN_REFILL and TIMESTAMP_ERA
(14:R345, R348, R353, R356, R362-R364, 19:R479, 20:R486, R497, 11:R285-R287, R289, 10:R269): the operation of the device's own that the engine runs, or that
is due with the engine free, ends. The records that fit in the head page stand in their chunks and leave the queue; a counter takes its value
in the slot that was not current; a key record installs its key; a parameter page's values stand in the copy that did not, under the next
generation; the idle trace set is blank; and the engine is free. Drain step 9 saves the trace in the set that is not the newest, under the count of
causeways; a mirrored record enters its CXL log under the next handle, signals the interrupt that the policy enables where the log was empty, and
is counted where the log is full; a fault token returns 10 ms after the last one, to eight; and the counter's bits 47:0 pass to 0 with an ERA
record. -/
def Obligations.LogsAndCounters : Prop :=
  ∀ s : State,
    let freed (t : State) (rest : List IntOp) : Prop := t = { s with store := { s.engineFreed t with queue := rest }, resp := [] }
    let runs (d : DevOp) : Prop := s.store.dev = some d
    let due (o : IntOp) (rest : List IntOp) : Prop := s.store.dev = none ∧ s.nextDue = some (o, rest)
    (s.clk.run = true →
      (∀ n, (runs (.append n) ∨ (s.store.dev = none ∧ s.appendDue = true ∧ n = s.appendCount)) → n ≤ 16 - s.elog.head % 16 → s.elog.head < 2048 →
        Gives (.eventLogAppend none) s fun t =>
          t = { s with store := s.engineFreed t
                       elog := { s.elog with queue := s.elog.queue.drop n, head := (s.elog.head + n) % 2048 }
                       resp := [] } ∧
          t.store.views = s.store.views ∧ t.store.params = s.store.params ∧
          (∀ k r, s.elog.queue[k]? = some r → k < n → swEntry t.store.words (16384 + (s.elog.head + k) * 8) = r.entry) ∧
          ∀ a, ¬ (a / 128 = 128 + s.elog.head / 16) → tget t.store.words a = tget s.store.words a) ∧
      (∀ i v b rest, (∃ img, runs (.int (.counter i v b) img) ∧ rest = s.store.queue) ∨ due (.counter i v b) rest →
        let slot := if (s.store.view i).state = 1 then 1 else 0
        (Gives (.counterUpdate none) s fun t => freed t rest ∧ t.store.params = s.store.params ∧ (t.store.view i).value = v ∧
          slotValid t.store.words i slot = true ∧ (∀ k, ¬ (k = i) → t.store.view k = s.store.view k) ∧
          ∀ a, ¬ (slotAddr i slot ≤ a ∧ a < slotAddr i slot + 4) → tget t.store.words a = tget s.store.words a) ∧
        (∀ f : Fin 128, slotAddr i slot ≤ (256 + i / 16) * 128 + f.val → (256 + i / 16) * 128 + f.val < slotAddr i slot + 4 →
          Gives (.counterUpdate (some f)) s fun t => t.evt.stat = s.evt.stat ||| 8 ∧ t.store.views = s.store.views ∧
            slotValid t.store.words i slot = false ∧ t = { s with store := { s.engineFreed t with queue := rest }, evt := t.evt, resp := [] })) ∧
      (∀ k key source rest, (∃ img, runs (.int (.record k (some (key, 1)) true source .nothing) img) ∧ rest = s.store.queue) ∨
          due (.record k (some (key, 1)) true source .nothing) rest → k < 256 →
        Gives (.counterUpdate none) s fun t => t.store.queue = rest ∧ t.store.dev = none ∧ t.resp = [] ∧ (t.keySlot k).state = 1 ∧
          (t.keySlot k).key = key ∧ (∀ j, ¬ (j = k) → t.keySlot j = s.keySlot j) ∧
          swRun t.store.words (keyAddr k) 32 = keyWords s.fuse.uniqueId k key 1) ∧
      (∀ k image rest, (runs (.int (.param k) image) ∧ rest = s.store.queue) ∨ (due (.param k) rest ∧ image = s.paramContent k) → k < 8 →
        image.length = 126 → s.store.params.length = 8 →
        Gives (.paramPageUpdate none) s fun t => freed t rest ∧ t.store.views = s.store.views ∧
          (∃ g b, lgetD t.store.params k none = some (g, b) ∧ paramValid t.store.words k b = true ∧ swRun t.store.words (paramPage k b * 128 + 1) 126 = image ∧
            (lgetD s.store.params k none = none → g = 1 ∧ b = false) ∧
            (∀ g' b', lgetD s.store.params k none = some (g', b') → g = g' + 1 ∧ b = !b') ∧
            ∀ a, ¬ (a / 128 = paramPage k b) → tget t.store.words a = tget s.store.words a) ∧
          ∀ j, ¬ (j = k) → lgetD t.store.params j none = lgetD s.store.params j none) ∧
      (∀ rest, (∃ img, runs (.int .tracePreset img) ∧ rest = s.store.queue) ∨ due .tracePreset rest →
        let first := 40 + 2 * nextSet s.store.words
        Gives .traceSetPreset s fun t => freed t rest ∧ t.store.views = s.store.views ∧ t.store.params = s.store.params ∧
          (∀ a, a / 128 = first ∨ a / 128 = first + 1 → swBlank t.store.words a = true) ∧
          ∀ a, ¬ (a / 128 = first ∨ a / 128 = first + 1) → tget t.store.words a = tget s.store.words a)) ∧
    (s.md.mode = .causeway → s.drain.step = 9 → s.drain.traceSaved = false → s.mayStart 0 = true → (∀ o ∈ s.store.queue, ¬ (o.rank = 0)) →
      Gives (.traceSave none) s fun t => t.drain = { s.drain with traceSaved := true } ∧ t.md = s.md ∧ t.t0 = s.t0 ∧ t.t1 = s.t1 ∧ t.t2 = s.t2 ∧
        t.cad = s.cad ∧ t.plan = s.plan ∧ t.pin = s.pin ∧ t.clk.ts = s.clk.ts + 1 ∧
        traceCount t.store.words (nextSet s.store.words) = some s.drain.count ∧
        ∀ a, ¬ (a / 128 = 40 + 2 * nextSet s.store.words ∨ a / 128 = 41 + 2 * nextSet s.store.words) → tget t.store.words a = tget s.store.words a) ∧
    (∀ r rest b n, s.clk.run = true → s.mbox.toPlace = r :: rest → r.bit = some b → mirrorLog b.val = some n → s.mbox.logs.length = 4 →
      let l := lgetD s.mbox.logs n .empty
      let setting : Byte := s.mbox.policy.extractLsb' (8 * n) 8
      (l.records.length < 64 → Gives .cxlEventLogPlace s fun t =>
        t = { s with mbox := { s.mbox with toPlace := rest, logs := t.mbox.logs, nextHandle := nextHandle s.mbox.nextHandle }, resp := t.resp } ∧
        lgetD t.mbox.logs n .empty = { l with records := l.records ++ [(s.mbox.nextHandle, r, s.cxlTime)] } ∧
        (∀ k, ¬ (k = n) → lgetD t.mbox.logs k .empty = lgetD s.mbox.logs k .empty) ∧ ¬ (t.mbox.nextHandle = 0) ∧
        t.resp = (if l.records = [] ∧ ¬ (setting &&& 3 = 0) then [.eventInterrupt n setting] else [])) ∧
      (64 ≤ l.records.length → Gives .cxlEventLogPlace s fun t =>
        t = { s with mbox := { s.mbox with toPlace := rest, logs := t.mbox.logs }, resp := [] } ∧
        lgetD t.mbox.logs n .empty = { l with overflow := true, overflowCount := satAdd l.overflowCount 1 } ∧
        ∀ k, ¬ (k = n) → lgetD t.mbox.logs k .empty = lgetD s.mbox.logs k .empty)) ∧
    (s.clk.run = true → s.since s.cad.tokenAt (10 * msec) = true → exec .faultTokenRefill s =
      .next { s with cad := { s.cad with tokens := min 8 (s.cad.tokens + 1), tokenAt := s.clk.ts }, resp := [] }) ∧
    (s.clk.run = true → s.since s.cad.tokenAt (10 * msec) = false → exec .faultTokenRefill s = .next { s with resp := [] }) ∧
    (s.clk.run = true → s.ts48 = BitVec.allOnes 48 → ¬ (s.clk.ts = BitVec.allOnes 64) →
      Gives .timestampEra s fun t => t.clk = { s.clk with ts := s.clk.ts + 1 } ∧ t.ts48 = 0 ∧ (∃ d ∈ t.evt.cyc.events, d.code = 7) ∧ t.md = s.md ∧
        t.t0 = s.t0 ∧ t.t1 = s.t1 ∧ t.t2 = s.t2 ∧ t.cad = s.cad ∧ t.plan = s.plan ∧ t.ferry = s.ferry)

/-! ### Power, clocks and pins (15, 17, 01, 20, 21) -/

/-- PD0_POWER_ON, STRAP_LATCH, SUPPLIES_GOOD, DOMAIN_RAMP_DONE, SUPPLY_NOT_GOOD and VAON_LOSS (15:R369-R373, R386, R391, R392, 21:R508, R514, 00:R19,
14:R350): a PD0 power-on powers PD0 alone and, with every main supply good in a recall, PD3 begins its ramp; the straps are latched once, and
boundary-scan mode powers nothing else; a domain whose ramp ends is on; a supply that fails in CAUSEWAY switches nothing, and in SERVICE
switches PD1 to PD7 and CCLK off; and without VAON the arrays, the charter, the store, the key records and the fuses keep what they hold. -/
def Obligations.PowerAndSupplies : Prop :=
  ∀ s : State,
    (s.pwr.vaon = false → Gives .pd0PowerOn s fun t => t = { s with pwr := t.pwr, resp := [] } ∧ t.pwr.vaon = true ∧ t.pwr.on = 1 ∧
      (s.pwr.vdd = true → s.pwr.vddm = true → s.pwr.vpp = true → s.pwr.vdda = true → s.pwr.vddio = true → s.strap.scanmode = false →
        s.md.mode = .recall → ¬ (s.rcl.stage = 15) → t.pwr.ramping.getLsbD 3 = true)) ∧
    (s.pwr.vaon = true → s.strap.latched = false → ∀ (m : Bool) (a : BitVec 3),
      exec (.strapLatch m false a) s = .next { s with strap := ⟨true, m, false, a⟩, resp := [] } ∧
      exec (.strapLatch m true a) s = .next { s with strap := ⟨true, m, true, a⟩, pwr := { s.pwr with on := 1, ramping := 0, group := 0 }, resp := [] }) ∧
    (s.strap.latched = true → ∀ (m c : Bool) (a : BitVec 3), exec (.strapLatch m c a) s = .next { s with resp := [] }) ∧
    (Gives .suppliesGood s fun t => t = { s with pwr := t.pwr, resp := [] } ∧ t.pwr.on = s.pwr.on ∧ t.pwr.vdd = true ∧ t.pwr.vddm = true ∧
      t.pwr.vpp = true ∧ t.pwr.vdda = true ∧ t.pwr.vddio = true) ∧
    (∀ d : Fin 8, s.pwr.ramping.getLsbD d.val = true →
      Gives (.domainRampDone d) s fun t => t = { s with pwr := t.pwr, resp := [] } ∧ t.pwr.on = s.pwr.on ||| ((1 : Byte) <<< d.val) ∧
        t.pwr.ramping.getLsbD d.val = false) ∧
    (s.md.mode = .causeway → exec (.supplyNotGood .vdd) s = .next { s with pwr := { s.pwr with vdd := false }, resp := [] }) ∧
    (s.md.mode = .service → s.pd 3 = true →
      Gives (.supplyNotGood .vddm) s fun t => t.pwr.vddm = false ∧ t.pwr.on = s.pwr.on &&& 1 ∧ t.clk.run = false ∧ t.clk.ts = s.clk.ts ∧
        t.t0.pool = [] ∧ t.t0.scratch = [] ∧ t.t1.cells = s.t1.cells ∧ t.t2.tileMap = s.t2.tileMap ∧ t.t2.pages = s.t2.pages ∧
        t.md.mode = .service ∧ t.stew.run = false ∧ t.link.waits = []) ∧
    (s.md.mode = .recall → ¬ (s.rcl.stage = 0) → ¬ (s.rcl.stage = 15) → s.pd 3 = true →
      Gives (.supplyNotGood .vddm) s fun t => t.pwr.on = s.pwr.on &&& 1 ∧ t.clk.run = false ∧ t.rcl.stage = 9 ∧ t.rcl.pd3Lost = true ∧
        t.md.mode = .recall ∧ t.t1.cells = s.t1.cells ∧ t.t2.tileMap = s.t2.tileMap) ∧
    (s.pwr.vaon = true → Gives .vaonLoss s fun t => t.pwr.vaon = false ∧ t.pwr.on = 0 ∧ t.clk.run = false ∧ t.md.mode = .recall ∧
      t.own.holder = none ∧ t.evt.stat = 0 ∧ t.fuse = s.fuse ∧ t.t1.cells = s.t1.cells ∧ t.t1.groups = s.t1.groups ∧
      t.t2.tileMap = s.t2.tileMap ∧ t.t2.pages = s.t2.pages ∧ t.t2.charter = s.t2.charter ∧ t.t0.pool = [] ∧ t.strap.latched = false ∧
      (s.store.busy = false → t.store.words = s.store.words ∧ t.keys.records = s.keys.records) ∧
      (s.commit = none → t.cad.copy0 = s.cad.copy0 ∧ t.cad.copy1 = s.cad.copy1 ∧ t.plan.copy0 = s.plan.copy0 ∧ t.plan.copy1 = s.plan.copy1) ∧
      (s.drain.settleDrain = false → t.drain.region = s.drain.region))

/-- PLL_LOCK, POWER_DOWN_DONE and DORMANT_WAKE (01:R23, 15:R374, R379, R380, R385, R387, R389, 20:R487): at PLL lock after a reset the recall begins with
STORE, RESTRICT clear, no OWNER and an empty T0; at a DORMANT exit the timestamp counter advances by 48,828.125 cycles an AON tick, truncated, and
the recall begins with BOOT; the power-down stops CCLK, clears the AON counter and arms the wake detector; and an armed detector latches a wake. -/
def Obligations.ClockStartsAndStops : Prop :=
  ∀ s : State,
    (s.pd 3 = true → s.clk.run = false → s.strap.latched = true → s.strap.scanmode = false → s.pin.pfail = false →
      s.pin.pfailLatched = false → s.pin.musterLatched = false → s.commit = none → s.Quiet →
      let begins (t : State) : Prop := t.clk.run = true ∧ t.md.mode = .recall ∧ t.md.restrict = .clear ∧ t.own.holder = none ∧ t.t0.pool = [] ∧
        t.t0.scratch = [] ∧ t.t1.cells = s.t1.cells ∧ t.t2.tileMap = s.t2.tileMap ∧ t.cad.tokens = s.cad.tokens ∧ t.evt.stat.getLsbD 0 = true
      (s.md.mode = .recall → s.rcl.stage = 0 →
        Gives .pllLock s fun t => begins t ∧ t.clk.ts = s.clk.ts ∧ t.md.cause = 0 ∧ t.rcl.stage = 1) ∧
      (s.md.mode = .dormant →
        Gives .pllLock s fun t => begins t ∧ t.clk.estimated = true ∧ t.md.prev = .dormant ∧ t.md.cause = 7 ∧ t.rcl.stage = 2 ∧
          t.clk.ts = BitVec.ofNat 64 (s.clk.ts.toNat + s.clk.aon.toNat * 390625 / 8))) ∧
    (s.atSettle 7 = true → s.pwr.down = true →
      Gives .powerDownDone s fun t => t.clk = { s.clk with run := false, aon := 0 } ∧ t.pwr.on = s.pwr.on &&& 1 ∧ t.pin.armed = true ∧
        t.md = s.md ∧ t.t1 = s.t1 ∧ t.t2 = s.t2 ∧ t.drain = { s.drain with settle := 0 }) ∧
    (s.asleep = true → s.pin.armed = true →
      (Gives (.dormantWake .wakeN) s fun t => t = { s with pin := { s.pin with wake := true }, pwr := t.pwr, resp := [] } ∧ t.pwr.on = s.pwr.on ∧
        (s.suppliesGood = true → s.strap.scanmode = false → s.pd 3 = false → t.pwr.ramping.getLsbD 3 = true)) ∧
      (s.pin.pfailSinceDormant = true → s.pin.pfail = false →
        Gives (.dormantWake .pfailDeasserted) s fun t => t = { s with pin := { s.pin with wake := true }, pwr := t.pwr, resp := [] }))

/-- PFAIL_N_ASSERT, PFAIL_N_DEASSERT and MUSTER_FALL (17:R418-R420, 15:R377, R383, 16:R414, 01:R44): PFAIL_N in SERVICE is the epoch to CAUSEWAY with cause 2,
in CAUSEWAY it is noted, in a recall stage it holds the recall and switches PD7 off, and in the settle phase it starts a settle drain; its
deassertion is noted; a fall of MUSTER in SERVICE is the epoch to CAUSEWAY with cause 3 when MUSTER_EN is set, and only a flag when not; and either
prevails over a request for DORMANT made in its cycle, which is discarded and logged. -/
def Obligations.ControlPins : Prop :=
  ∀ s : State, s.pwr.vaon = true → s.strap.scanmode = false → s.clk.run = true → s.commit = none →
    let array (t : State) : Prop := t.t0 = s.t0 ∧ t.t1 = s.t1 ∧ t.t2 = s.t2 ∧ t.cad = s.cad ∧ t.plan = s.plan ∧ t.clk = s.clk
    let drains (t : State) (cause : BitVec 4) : Prop := array t ∧ t.md.mode = .causeway ∧ t.md.prev = .service ∧ t.md.cause = cause ∧
      t.pin.musterDriven = true ∧ t.drain.step = 2 ∧ t.drain.origin = cause.setWidth 8 ∧ t.drain.epoch = s.ts48
    let discarded (t : State) : Prop := ∃ e ∈ t.evt.cyc.events, e.code = 0x05 ∧ e.payload = pay [(16, 1, 1), (17, 1, 0)]
    (s.pin.pfail = false → s.requestNow = none →
      (s.md.mode = .service → Gives .pfailNAssert s fun t => drains t 2 ∧ t.pin.pfail = true ∧ t.pin.pfailInCauseway = true ∧
        t.evt.stat.getLsbD 18 = true ∧ t.evt.stat.getLsbD 0 = true) ∧
      (s.md.mode = .causeway → Gives .pfailNAssert s fun t => array t ∧ t.md = s.md ∧ t.pin.pfailInCauseway = true ∧ t.drain = s.drain ∧
        t.evt.stat.getLsbD 18 = true) ∧
      (s.md.mode = .recall → s.rcl.stage.toNat < 9 → Gives .pfailNAssert s fun t => array t ∧ t.md = s.md ∧ t.rcl.stage = 9 ∧
        t.rcl.heldStage = s.rcl.stage ∧ t.pwr.on = s.pwr.on &&& 0x7F) ∧
      (s.md.mode = .dormant → 1 ≤ s.drain.settle → s.drain.settle ≤ 3 → s.drain.settleDrain = false →
        Gives .pfailNAssert s fun t => array t ∧ t.md = s.md ∧ t.drain.settleDrain = true ∧ t.drain.settle = 2 ∧ t.pin.musterDriven = true)) ∧
    (s.pin.pfail = false → s.requestNow = some 1 → Gives .pfailNAssert s fun t => drains t 2 ∧ discarded t ∧ t.pin.pfailInCauseway = true) ∧
    (s.pin.pfail = true → exec .pfailNDeassert s =
      .next { s with pin := { s.pin with pfail := false, pfailHighSince := some s.clk.ts }, resp := [] }) ∧
    (s.musterCounts = true → s.requestNow = none →
      (s.md.mode = .service → s.md.musterEn = true →
        Gives .musterFall s fun t => drains t 3 ∧ t.evt.stat.getLsbD 19 = true ∧ t.pin.pfailInCauseway = false) ∧
      (s.md.musterEn = false → Gives .musterFall s fun t => t = { s with evt := t.evt, resp := [] } ∧ t.evt.stat = s.evt.stat ||| 0x80000) ∧
      (s.md.mode = .dormant → s.md.musterEn = true → 1 ≤ s.drain.settle → s.drain.settle ≤ 3 → s.drain.settleDrain = false →
        Gives .musterFall s fun t => array t ∧ t.md = s.md ∧ t.drain.settleDrain = true ∧ t.drain.settle = 2)) ∧
    (s.musterCounts = true → s.requestNow = some 1 → s.md.musterEn = true → Gives .musterFall s fun t => drains t 3 ∧ discarded t)

/-! ### Recall (16, 15, 18) -/

/-- STORE_RECALL_DONE, BOOT_DONE, SELFTEST_DONE, SENSE_DONE, WITNESS_CHECK_DONE, RELOAD_DONE, REPLAY_DONE and RECALL_RESUME (16:R395, R396, R399-R407, R411,
R414, 07:R190, R191, 18:R448, R450, 09:R222, R238-R240, 10:R266, R269): each stage completes into the next. STORE makes the store ready and
numbers the waiting events; BOOT starts the steward, or stops the recall with 0x81 where no BCH instance passes its vectors and with 0x82 where
nothing can boot; SELFTEST takes a failed BCH or LZ4 instance out of service and stops with 0x83 on another; SENSE has sampled, a sensor whose coil check
fails being invalid; WITNESS counts the differing cells of each die, and 64 of them on a fast die expire; RELOAD makes the newest complete copies
the ones in force, after a reset with the cadastre's LOCK bits clear; and REPLAY ends in SERVICE with eight fault tokens, no OWNER, outcome 1
and memory active. A held recall begins its stage again. -/
def Obligations.RecallStagesFollow : Prop :=
  ∀ s : State,
    let stage (t : State) (n : BitVec 4) : Prop := t.rcl.stage = n ∧ t.md.mode = .recall ∧ t.t2.tileMap = s.t2.tileMap ∧ t.t1.cells = s.t1.cells
    let stops (t : State) (outcome : Byte) : Prop := stage t 15 ∧ t.rcl.outcome = outcome ∧ t.rcl.heldStage = s.rcl.stage
    (s.atStage 1 = true →
      ((s.store.words.any fun q => decide (q.1 < 1024) && decide (2 ≤ q.2.err)) = false →
        Gives (.storeRecallDone [] false) s fun t => stage t 2 ∧ t.store.ready = true ∧ t.elog.numbered = true ∧ t.store.words = s.store.words ∧
          t.evt.stat.getLsbD 11 = true) ∧
      (Gives (.storeRecallDone [] true) s fun t => stops t 0x80 ∧ t.store.ready = true) ∧
      (∀ a, a < 1024 → swBlank s.store.words a = false → Gives (.storeRecallDone [(a, true)] false) s fun t => stops t 0x80)) ∧
    (s.atStage 2 = true → ∀ (b0 b1 : List (Fin 3 × Nat)) (u : BitVec 4),
      let read : State := { s with stew := { s.stew with unread := u } }
      (vecPasses b0 = false → vecPasses b1 = false → Gives (.bootDone b0 b1 u) s fun t => stops t 0x81 ∧ t.stew = s.stew ∧
        ∃ e ∈ t.evt.cyc.events, e.code = 0x0A) ∧
      (vecPasses b0 = true ∨ vecPasses b1 = true →
        (read.bootChoice = none → Gives (.bootDone b0 b1 u) s fun t => stops t 0x82 ∧ t.stew = read.stew) ∧
        (∀ c, read.bootChoice = some c → Gives (.bootDone b0 b1 u) s fun t => stage t 3 ∧ t.stew.run = true ∧ t.stew.slotB = c.1 ∧
          t.stew.pairing.toNat = (read.pairing c.2.1).1 ∧
          t.md.restrict.versionLimited = (s.md.restrict.versionLimited || (read.pairing c.2.1).1 == 2)))) ∧
    (s.atStage 3 = true → s.t2.bch.length = 8 → s.t2.lz4.length = 4 →
      (∀ j, j < s.part.bchEngines → lgetD s.t2.bch j true = true →
        (Gives (.selftestDone []) s fun t => stage t 4 ∧ t.t2.bch = s.t2.bch ∧ t.t2.lz4 = s.t2.lz4) ∧
        (∀ f : EngineFault, s.faultShows f = true → f.cls = 3 → ¬ (f.inst.val = j) → Gives (.selftestDone [f]) s fun t => stage t 4 ∧
          lgetD t.t2.bch f.inst.val true = false ∧ lgetD t.t2.bch j true = true) ∧
        (∀ f : EngineFault, s.faultShows f = true → f.cls = 5 → Gives (.selftestDone [f]) s fun t => stage t 4 ∧
          (lgetD t.t2.lz4 f.inst.val (0, true)).2 = false ∧ t.t2.bch = s.t2.bch)) ∧
      (∀ f : EngineFault, s.faultShows f = true → ¬ (f.cls = 3) → ¬ (f.cls = 5) → Gives (.selftestDone [f]) s fun t => stops t 0x83)) ∧
    (s.atStage 4 = true → s.ent.ready = true → ∀ c0 c1 c2 a b c : Axes,
      Gives (.senseDone c0 c1 c2 a b c) s fun t => t.rcl.stage = 5 ∧ t.md.mode = .recall ∧ t.comp.sampled = true ∧
        t.comp.valid.getLsbD 0 = (coilFails c0).isNone ∧ t.comp.valid.getLsbD 1 = (coilFails c1).isNone ∧
        t.comp.valid.getLsbD 2 = (coilFails c2).isNone) ∧
    (s.atStage 5 = true →
      let differ (d : Nat) : Nat := popcount (tgetD s.comp.wrongCells d 0)
      ((∀ d ∈ s.part.dieList, differ d < 8) →
        Gives (.witnessCheckDone []) s fun t => stage t 6 ∧ t.comp.witF.toNat < 8 ∧ t.comp.witD.toNat < 8 ∧
          t.md.restrict.witnessSuspect = s.store.witSuspect ∧ t.md.restrict.witnessExpired = s.store.witExpired ∧ t.evt.stat = s.evt.stat) ∧
      (∀ d, d ∈ s.part.dieList → d < 5 → 64 ≤ differ d →
        Gives (.witnessCheckDone []) s fun t => stage t 6 ∧ t.md.restrict.witnessSuspect = true ∧ t.md.restrict.witnessExpired = true ∧
          t.store.witSuspect = true ∧ t.store.witExpired = true ∧ t.store.witPass = false ∧ t.trav.t1.done = 0 ∧ t.trav.t1.forced = true ∧
          t.evt.stat = s.evt.stat ||| 0x2000)) ∧
    (s.atStage 6 = true → s.cad.loaded = false → ¬ (s.comp.level = 3) → ∀ (bad badCommit : BitVec 4),
      let lost := bad ||| badCommit
      let c := newestCopy (s.cad.copy0.complete && !lost.getLsbD 0) (s.cad.copy1.complete && !lost.getLsbD 1) s.cad.copy0.gen s.cad.copy1.gen
      let p := newestCopy (s.plan.copy0.complete && !lost.getLsbD 2) (s.plan.copy1.complete && !lost.getLsbD 3) s.plan.copy0.gen s.plan.copy1.gen
      Gives (.reloadDone bad badCommit) s fun t => t.rcl.stage = 7 ∧ t.md.mode = .recall ∧ t.cad.loaded = true ∧ t.cad.running = false ∧
        t.cad.shP = t.cad.inP ∧ t.cad.shH = t.cad.inH ∧ t.plan.sh = t.plan.inf ∧ t.t0.scratchMiB = hScratch (planEntry t.plan.inf 0) ∧
        (∀ b, c = some b →
          let k := if b then s.cad.copy1 else s.cad.copy0
          t.cad.gen = k.gen ∧ t.cad.inP = (if s.rcl.byReset then k.parcels.map fun x => (x.1, clearBit x.2 89) else k.parcels) ∧
          t.cad.inH = (if s.rcl.byReset then k.holders.map fun x => (x.1, clearBit x.2 1) else k.holders)) ∧
        (c = none → t.cad.inP = [] ∧ t.cad.inH = [] ∧ t.evt.stat.getLsbD 3 = true) ∧
        (∀ b, p = some b →
          let k := if b then s.plan.copy1 else s.plan.copy0
          t.plan.gen = k.gen ∧ t.plan.inf = k.entries) ∧
        (p = none → t.evt.stat.getLsbD 3 = true)) ∧
    (s.atStage 7 = true → s.rcl.deferred = [] →
      let opens (t : State) : Prop := t.md.mode = .service ∧ t.md.prev = .recall ∧ t.md.cause = 1 ∧ t.rcl.stage = 8 ∧
        t.rcl.outcome = 1 ∧ t.cad.tokens = 8 ∧ t.cad.suppressed = s.cad.suppressed ∧ t.own.holder = none ∧ t.link.memActive = true ∧
        t.t2.tileMap = s.t2.tileMap ∧ t.t1.cells = s.t1.cells ∧ t.cad.inP = s.cad.inP ∧ t.plan.inf = s.plan.inf
      (s.drain.region = [] → Gives (.replayDone [] [] [] []) s fun t => opens t ∧ t.drain.region = []) ∧
      (∀ q, (s.findRecord []).1 = .lost q → Gives (.replayDone [] [] [] []) s fun t => opens t ∧ t.rcl.detail.getLsbD 13 = true ∧
        t.drain.region = s.drain.region)) ∧
    (s.md.mode = .recall → s.rcl.stage = 9 → s.clk.run = true → s.pin.pfail = false →
      (s.rcl.pd3Lost = false → (∃ t0, s.pin.pfailHighSince = some t0 ∧ s.since t0 (50 * usec) = true) →
        (¬ (s.rcl.heldStage = 7) → Gives .recallResume s fun t => stage t s.rcl.heldStage ∧ t.cad.loaded = false) ∧
        (s.rcl.heldStage = 7 → ¬ (s.comp.level = 3) → Gives .recallResume s fun t => stage t 7 ∧ t.cad.loaded = s.cad.loaded)) ∧
      (s.rcl.pd3Lost = true → Gives .recallResume s fun t => stage t (if s.store.ready then 2 else 1) ∧ t.rcl.pd3Lost = false))

/-! ### Draining and settling (17, 15) -/

/-- CAUSEWAY_PORT_CLOSE, DRAIN_COPY_DONE, DRAIN_VERIFY_DONE, DRAIN_WITNESS_DONE, DRAIN_COMPLETE_MARK, DRAIN_PD7_OFF and DRAIN_COMPLETE (17:R426-R432,
Table 17-3, 15:R377): each step's end is the next step's beginning. The port close parks every active channel, takes the links down, powers PD1
and PD2 off, and in the half that does not hold the newest record writes a header with the next sequence and no mark; the copy's entries are every
line not yet in its array, in order; and the complete mark bears the header's sequence. Then PD7 goes off and MUSTER is released. With PFAIL_N
asserted when the drain completes the causeway ends in DORMANT with cause 5; else step 10 saves WEAR, and it ends in RECALL with cause 6 where
PFAIL_N was asserted during it and in DORMANT where it was not. PFAIL_N itself changes neither the mode nor the drain's step. -/
def Obligations.DrainStepsFollow : Prop :=
  ∀ (s : State) (b : Bool),
    let keeps (t : State) : Prop := t.md = s.md ∧ t.t2.tileMap = s.t2.tileMap ∧ t.t2.pages = s.t2.pages ∧ t.t1.cells = s.t1.cells ∧ t.plan = s.plan ∧
      t.cad = s.cad
    let header (t : State) (h : Bool) : Option Nat := (t.readRegion (halfBase h) []).1.plain.bind headerSeq
    (s.atDrain 2 = true → s.ferry.chans.length = 64 → rising s.drain.region = true →
      Gives .causewayPortClose s fun t => keeps t ∧ t.drain.step = 4 ∧ t.link.p0 = .down ∧ t.link.p1 = .down ∧ t.pwr.on = s.pwr.on &&& 0xF9 ∧
        (∀ c, c < s.part.channels → (s.chan c).state.active = true → (t.chan c).state = .parked) ∧
        ((s.newestHalf []).1 = none → t.drain.target = some false ∧ header t false = some 1) ∧
        (∀ h q, (s.newestHalf []).1 = some (h, q) → t.drain.target = some (!h) ∧ (q + 1 < 2 ^ 64 → header t (!h) = some (q + 1))) ∧
        (∀ h, t.drain.target = some h → tget t.drain.region (halfBase h + 1) = none ∧ tget t.drain.region (halfBase h + 2) = none)) ∧
    (s.atDrain 4 = true → s.drain.target = some b →
      Gives (.drainCopyDone [] []) s fun t => keeps t ∧ t.drain.step = 5 ∧ t.drain.target = some b ∧
        t.drain.groups.flatten = s.copyLines.map (·.entry)) ∧
    (s.atDrain 5 = true → s.t1.rwq = [] → exec .drainVerifyDone s = .next { s with drain := { s.drain with step := 6 }, resp := [] }) ∧
    (s.atDrain 5 = true → ¬ (s.t1.rwq = []) → exec .drainVerifyDone s = .next { s with resp := [] }) ∧
    (s.atDrain 6 = true → Gives (.drainWitnessDone []) s fun t => keeps t ∧ t.drain = { s.drain with step := 7 } ∧ t.evt.stat = s.evt.stat ∧
      ∀ d ∈ s.part.dieList, tgetD t.comp.wrongCells d 0 = 0) ∧
    (s.atDrain 7 = true → s.drain.target = some b → Gives (.drainCompleteMark [] []) s fun t => keeps t ∧ t.drain.step = 8 ∧
      (∀ q, header s b = some q → q < 2 ^ 64 → (t.readRegion (halfBase b + 1) []).1.plain.any (isMark completeMagic q) = true) ∧
      ∀ n, ¬ (n = halfBase b + 1) → tget t.drain.region n = tget s.drain.region n) ∧
    (s.atDrain 8 = true → Gives .drainPd7Off s fun t => keeps t ∧ t.drain = { s.drain with step := 9 } ∧ t.pwr.on = s.pwr.on &&& 0x7F ∧
      t.pin.musterDriven = false) ∧
    (s.atDrain 9 = true → s.drain.traceSaved = true → s.causewayOpsDone = true → s.commit = none →
      (s.pin.pfail = true → Gives .drainComplete s fun t => t.md.mode = .dormant ∧ t.md.prev = .causeway ∧ t.md.cause = 5 ∧ t.drain.settle = 7 ∧
        t.pwr.down = true ∧ t.t1 = s.t1 ∧ t.t2 = s.t2) ∧
      (s.pin.pfail = false → Gives .drainComplete s fun t => t.md = s.md ∧ t.drain = { s.drain with step := 10 } ∧ t.t1 = s.t1 ∧ t.t2 = s.t2)) ∧
    (s.atDrain 10 = true → s.causewayOpsDone = true → s.commit = none →
      (s.pin.pfailInCauseway = true → Gives .drainComplete s fun t => t.md.mode = .recall ∧ t.md.prev = .causeway ∧ t.md.cause = 6 ∧ t.t0.pool = [] ∧
        t.t1.cells = s.t1.cells ∧ (s.Quiet → t.t2.tileMap = s.t2.tileMap) ∧ (s.pin.pfail = false → s.suppliesGood = true → t.rcl.stage = 2) ∧
        (s.pin.pfail = true → t.rcl.stage = 9)) ∧
      (s.pin.pfailInCauseway = false → Gives .drainComplete s fun t => t.md.mode = .dormant ∧ t.md.prev = .causeway ∧ t.md.cause = 5 ∧
        t.drain.settle = 7 ∧ t.pwr.down = true ∧ t.t1 = s.t1 ∧ t.t2 = s.t2)) ∧
    (s.md.mode = .causeway → s.requestNow = none → (Gives .pfailNAssert s fun t => t.md = s.md ∧ t.drain = s.drain) ∧
      Gives .pfailNDeassert s fun t => t.md = s.md ∧ t.drain = s.drain)

/-- SETTLE_WRITES_DONE, SETTLE_WRITEBACK_DONE, SETTLE_DRAIN_DONE, SETTLE_VERIFY_DONE, SETTLE_SAVE_DONE, SETTLE_WITNESS_DONE and SETTLE_MARKER_DONE
(15:R381-R384, R374): with the writes complete, the write-backs done or a settle drain marked complete with MUSTER released, the verify lane empty,
the counters saved, the witness cells written and the marker kept, the power-down begins with PD7. -/
def Obligations.SettleStepsFollow : Prop :=
  ∀ s : State,
    let goes (t : State) (n : Nat) : Prop := t.drain.settle = n ∧ t.md = s.md ∧ t.t2.tileMap = s.t2.tileMap ∧ t.t2.pages = s.t2.pages ∧
      t.t1.cells = s.t1.cells ∧ t.plan = s.plan ∧ t.cad = s.cad
    (s.atSettle 1 = true → s.t1.wq = [] → s.t0.stores = [] → exec .settleWritesDone s =
      .next { s with t2 := { s.t2 with relocQ := [] }, drain := { s.drain with settle := 2 }, resp := [] }) ∧
    (s.atSettle 2 = true → s.drain.settleDrain = false → s.t2.moving = [] → s.t2.bufs = [] → (∀ x ∈ s.t0.pool, x.dirty = 0 ∧ x.wb = none) →
      exec .settleWritebackDone s = .next { s with drain := { s.drain with settle := 3 }, resp := [] }) ∧
    (s.atSettle 2 = true → s.drain.settleDrain = true →
      Gives (.settleDrainDone [] []) s fun t => goes t 3 ∧ t.pin.musterDriven = false ∧
        ∃ h, t.drain.target = some h ∧ (t.readRegion (halfBase h + 1) []).1.plain.any (magicLine completeMagic) = true) ∧
    (s.atSettle 3 = true → s.t1.rwq = [] → Gives .settleVerifyDone s fun t => goes t 4 ∧ t = { s with store := t.store, drain := t.drain, resp := [] } ∧
      s.store.queue.length < t.store.queue.length) ∧
    (s.atSettle 4 = true → s.store.busy = false → (∀ o ∈ s.store.queue, 2 ≤ o.rank) →
      exec .settleSaveDone s = .next { s with drain := { s.drain with settle := 5 }, resp := [] }) ∧
    (s.atSettle 5 = true → Gives (.settleWitnessDone []) s fun t => goes t 6 ∧ t.evt.stat = s.evt.stat ∧
      ∀ d ∈ s.part.dieList, tgetD t.comp.wrongCells d 0 = 0) ∧
    (s.atSettle 6 = true → s.store.busy = false → s.store.queue = [] → s.elog.queue = [] → s.evt.cyc.events = [] →
      Gives .settleMarkerDone s fun t => goes t 7 ∧ t.pwr.on = s.pwr.on &&& 0x7F ∧ t.pwr.down = true)

/-! ### The steward (18) -/

/-- STEWARD_FETCH_TRAP and STEWARD_RESTART_DONE (18:R452, R453, R457, Table 18-4, 16:R417, 13:R334): a fetch trap outside RECALL stops the steward, sets
STEWARD_TRAP, counts a restart, abandons a commit that has not passed its epoch and a transfer, and ends a latched table write that needs the
steward with BUSY; one in a recall is kept in RECALL_DETAIL, and a second one stops it with 0x84. A restart ends with the steward running, from the
slot that an online activation named, or from the other slot where its image boots and fits; in RECALL the stage in progress begins again. -/
def Obligations.StewardTrapsAndRestarts : Prop :=
  ∀ (s : State) (address : Word), s.clk.run = true →
    (s.stewardUp = true → ¬ (s.md.mode = .recall) →
      Gives (.stewardFetchTrap address) s fun t => t.stew.run = false ∧ t.stew.restarting = true ∧ t.stew.restartTo = none ∧
        t.stew.restarts = satAdd s.stew.restarts 1 ∧ t.stew.slotB = s.stew.slotB ∧ t.stew.xfer = none ∧
        t.stew.xferAborted = (s.stew.xferAborted || s.stew.xfer.isSome) ∧ t.evt.stat.getLsbD 20 = true ∧
        (∃ e ∈ t.evt.cyc.events, e.code = 0x54 ∧ e.payload = pay [(16, 1, bnat s.stew.slotB), (17, 4, address.toNat)]) ∧
        t.commit = s.abandonCommit.commit ∧ t.md.mode = s.md.mode ∧
        ((∀ r, s.t2.release = some r → ¬ (r.phase = .prepare)) →
          t.md = s.md ∧ t.cad = s.cad ∧ t.plan = s.plan ∧ t.t0 = s.t0 ∧ t.t1 = s.t1 ∧ t.t2 = s.t2) ∧
        (∀ l, s.tbl.latch = some l → l.cmd = 2 → needsSteward l.sel.toNat = true → t.tbl.busy = false ∧ t.tbl.code = 0x0A ∧ t.tbl.latch = none)) ∧
    (s.stewardUp = true → s.md.mode = .recall → ¬ (s.rcl.stage = 15) →
      (s.rcl.traps = 0 → Gives (.stewardFetchTrap address) s fun t => t.rcl.stage = s.rcl.stage ∧ t.rcl.detail.getLsbD 0 = true ∧
        t.rcl.detail.getLsbD 15 = true ∧ t.rcl.traps = 1 ∧ t.stew.run = false ∧ t.stew.restarting = true ∧ t.md = s.md ∧ t.t1 = s.t1) ∧
      (1 ≤ s.rcl.traps → Gives (.stewardFetchTrap address) s fun t => t.rcl.stage = 15 ∧ t.rcl.outcome = 0x84 ∧ t.stew.run = false ∧
        t.md = s.md ∧ t.t1 = s.t1)) ∧
    (s.stew.restarting = true →
      let runs (b : Bool) : Steward := { s.stew with run := true, restarting := false, restartTo := none, slotB := b }
      (¬ (s.md.mode = .recall) →
        (∀ b, s.stew.restartTo = some b → exec .stewardRestartDone s = .next { s with stew := runs b, resp := [] }) ∧
        (s.stew.restartTo = none →
          (∀ i, s.bootable (!s.stew.slotB) = some i → s.fitsUcode i = true → exec .stewardRestartDone s =
            .next { s with stew := runs (!s.stew.slotB), resp := [] }) ∧
          (∀ i, s.bootable (!s.stew.slotB) = some i → s.fitsUcode i = false → exec .stewardRestartDone s =
            .next { s with stew := runs s.stew.slotB, resp := [] }) ∧
          (s.bootable (!s.stew.slotB) = none → exec .stewardRestartDone s = .next { s with stew := runs s.stew.slotB, resp := [] }))) ∧
      (s.md.mode = .recall → s.rcl.stage.toNat ≤ 7 →
        Gives .stewardRestartDone s fun t => t = { s with stew := t.stew, evt := t.evt, resp := [] } ∧ t.stew.run = true ∧
          t.evt.stat = s.evt.stat))

/-- STAGING_DATA, STAGING_END, STAGING_ABORT, STAGING_ACTIVATE_ONLINE, STAGING_ACTIVATE_RECALL and STAGED_IMAGE_WRITE (18:R447, R448, R453, R457-R460,
Table 18-6): a descriptor is answered in the window with its magic, its action and a result. DATA whose CRC matches begins a transfer to the slot that
is not active, or adds to it; END of an image that 18:R447 accepts fills that slot, and of another one leaves it empty; ABORT ends the transfer;
and the two activations prefer the slot, the online one restarting the steward from it. In a stopped recall an activation of the staged image
begins BOOT. A staged image is written to its slot, which becomes preferred. -/
def Obligations.StagingWindow : Prop :=
  ∀ (s : State) (b : Bool),
    let named : Prop := bits (s.descriptor 1) 8 8 = (if b then 2 else 1)
    let tells (t : State) (action result : Nat) : Prop := swVal t.store.words 4104 = 0x54465753 ∧
      swVal t.store.words 4105 = BitVec.ofNat 32 (action + 256 * result) ∧ t.md = s.md ∧ t.t1 = s.t1 ∧ t.t2.tileMap = s.t2.tileMap ∧
      t.cad = s.cad ∧ t.plan = s.plan
    let image (t : State) : Option Image := if b then t.stew.imgB else t.stew.imgA
    let gens : Prop := s.stew.boot0.gen.toNat < 2 ^ 32 - 1 ∧ s.stew.boot1.gen.toNat < 2 ^ 32 - 1
    (s.md.mode = .service → s.fwReady = true → named → s.stew.slotB = !b →
      (s.stagingDue 1 = true → s.stew.xfer = none → (s.descriptor 2).toNat = 0 →
        (s.windowOk = true → Gives .stagingData s fun t => tells t 1 0 ∧ t.stew.xfer = some ⟨.strait, b, s.window⟩ ∧ image t = none ∧ t.resp = []) ∧
        (s.windowOk = false → Gives .stagingData s fun t => tells t 1 2 ∧ t.stew = s.stew ∧ t.resp = [])) ∧
      (∀ x, s.stew.xfer = some x → x.path = .strait → x.slotB = b →
        (s.stagingDue 1 = true → (s.descriptor 2).toNat * 4096 = x.data.length → s.windowOk = true →
          Gives .stagingData s fun t => tells t 1 0 ∧ t.stew.xfer = some { x with data := x.data ++ s.window }) ∧
        (s.stagingDue 2 = true → Gives .stagingEnd s fun t => t.stew.xfer = none ∧
          image t = (Machine.imageOf s.fuse.rootHash x.data).filter (·.authentic) ∧ tells t 2 (if (image t).isSome then 0 else 4)) ∧
        (s.stagingDue 3 = true → Gives .stagingAbort s fun t => tells t 3 0 ∧ t.stew.xfer = none ∧ image t = image s)) ∧
      (∀ i, s.bootable b = some i → gens →
        (s.stagingDue 4 = true → s.commit = none → s.Quiet → i.installUcode = false → s.fitsUcode i = true →
          Gives .stagingActivateOnline s fun t => tells t 4 0 ∧ t.stew.preferred = b ∧ t.stew.restarting = true ∧ t.stew.restartTo = some b) ∧
        (s.stagingDue 4 = true → i.installUcode = true →
          Gives .stagingActivateOnline s fun t => tells t 4 6 ∧ t.stew = s.stew) ∧
        (s.stagingDue 5 = true → Gives .stagingActivateRecall s fun t => tells t 5 0 ∧ t.stew.preferred = b ∧ t.stew.run = s.stew.run ∧
          (i.installUcode = false → t.stew.ucode0 = s.stew.ucode0 ∧ t.stew.ucode1 = s.stew.ucode1) ∧
          (∀ u, i.bundle = some u → i.installUcode = true → t.stew.ucode0 = some u ∧ t.stew.ucode1 = some u)))) ∧
    (named → s.stagingDue 5 = true → s.loadStop = true → s.pin.pfail = false → ∀ x, s.stew.staged = some x → x.1 = b → s.stew.stagedAuth = true →
      s.accepts x.2.steppings = true →
      Gives .stagingActivateRecall s fun t => t.rcl.stage = 2 ∧ t.rcl.outcome = 0 ∧ t.md = s.md ∧ t.stew.staged = s.stew.staged ∧
        swVal t.store.words 4104 = 0x54465753 ∧ swVal t.store.words 4105 = 5) ∧
    (∀ x, s.stew.staged = some x → s.md.mode = .service → s.stewardUp = true → s.comp.level.toNat < 2 → s.fwReady = true → gens →
      Gives .stagedImageWrite s fun t => t = { s.programmed t with stew := t.stew, resp := [] } ∧ t.stew.staged = none ∧
        t.stew.preferred = x.1 ∧ (if x.1 then t.stew.imgB else t.stew.imgA) = some x.2)

/-! ### Entropy and the TAP (19, 21) -/

/-- HEALTH_TEST_FAIL, STARTUP_TEST_DONE, CONDITIONING_BLOCK_DONE, DRBG_RESEED and SEED_REPLACE (19:R463-R471, Table 19-3): a failed health test asks for a
start-up test; a passed one ends that and clears the failures; the third failure in a row fails the source; a block is the SHA-256 of its raw bits,
and the second one after a start-up test makes READY with its flag; a reseed restarts the request count; and the stored seed is replaced by
fresh output. -/
def Obligations.EntropyReachesReady : Prop :=
  ∀ (s : State) (h : HealthTest) (raw : BitVec 1024), s.clk.run = true →
    (s.ent.source = true →
      (Gives (.healthTestFail h) s fun t => t = { s with ent := { s.ent with startup := true }, evt := t.evt, resp := [] } ∧ t.evt.stat = s.evt.stat ∧
        t.evt.cyc.events.length = s.evt.cyc.events.length + 1) ∧
      (s.ent.startup = true → s.ent.blocks.length < 2 →
        exec (.startupTestDone true) s = .next { s with ent := { s.ent with startup := false, fails := 0 }, resp := [] }) ∧
      (s.ent.startup = true → s.ent.fails < 2 →
        exec (.startupTestDone false) s = .next { s with ent := { s.ent with fails := s.ent.fails + 1 }, resp := [] }) ∧
      (s.ent.startup = true → 2 ≤ s.ent.fails →
        Gives (.startupTestDone false) s fun t => t.ent.st = .failed ∧ t.ent.ready = false ∧ t.ent.healthFail = true ∧ t.ent.source = false ∧
          (¬ (s.md.mode = .recall) → t = { s with ent := t.ent, resp := [] }) ∧
          (s.md.mode = .recall → t.rcl.detail = s.rcl.detail ||| 0x40 ∧ t = { s with ent := t.ent, rcl := { s.rcl with detail := t.rcl.detail }, resp := [] })) ∧
      (s.ent.startup = false → s.ent.blocks = [] →
        exec (.conditioningBlockDone raw) s =
          .next { s with ent := { s.ent with blocks := [ofBytes 256 (sha256 (toBytes raw 128))] }, resp := [] }) ∧
      (s.ent.startup = false → s.ent.blocks.length = 1 → s.ent.st = .stored ∨ s.ent.st = .restarting →
        Gives (.conditioningBlockDone raw) s fun t => t = { s with ent := t.ent, evt := t.evt, resp := [] } ∧ t.ent.st = .ready ∧
          t.ent.ready = true ∧ t.ent.seededOnly = false ∧ t.evt.stat = s.evt.stat ||| 0x1000) ∧
      (s.ent.startup = false → s.ent.st = .ready →
        exec .drbgReseed s = .next { s with ent := { s.ent with lastReseed := s.clk.ts, requests := 0 }, resp := [] })) ∧
    (s.ent.seedDue = true → Gives .seedReplace s fun t =>
      t = { s with ent := t.ent, store := { s.store with seed := t.store.seed, queue := t.store.queue }, resp := [] } ∧ t.ent.seedDue = false ∧
      t.ent.draws = s.ent.draws + 6 ∧ t.ent.ready = s.ent.ready ∧ IntOp.param 2 ∈ t.store.queue ∧
      ∀ k, k < 6 → t.store.seed.extractLsb' (64 * k) 64 = Config.drbg (s.ent.draws + k))

/-- TAP_RESET, IDCODE, SAMPLE_PRELOAD, EXTEST, CLAMP, HIGHZ and BYPASS with VAON (21:R507, R510, R514-R516, Table 21-6): Test-Logic-Reset and IDCODE select the
identification register, whose value holds the stepping, the part number and the manufacturer, bit 0 one; SAMPLE/PRELOAD captures without
driving; EXTEST drives and CLAMP holds the balls from their cells, and HIGHZ floats them, only in boundary-scan mode; and each other code selects
the bypass register. Out of boundary-scan mode the balls keep their functions. -/
def Obligations.TapInstructions : Prop :=
  ∀ (s : State) (balls : BitVec 18) (code : BitVec 4), s.pwr.vaon = true →
    let scan := s.strap.scanmode
    let j (ir : BitVec 4) (drive float : Bool) : Jtag := ⟨ir, s.jtag.bsr, drive, float⟩
    let free : Balls := ⟨.floats, .floats, .floats, .floats⟩
    let cells (v : BitVec 18) : Balls := ⟨cellBall v 3 true, cellBall v 6 true, cellBall v 12 false, cellBall v 14 false⟩
    let own : Balls := if scan then free
      else ⟨if s.pin.musterDriven then .low else .floats, if s.alertLow then .low else .floats, .floats, .floats⟩
    exec .tapReset s = .next { s with jtag := j 2 false false, resp := [] } ∧
    exec .idcode s = .next { s with jtag := j 2 false false, resp := [.tdo 1 (BitVec.ofNat 32
      (s.fuse.stepMajor.toNat % 16 * 2 ^ 28 + s.part.number * 2 ^ 12 + 0x2D5 * 2 + 1)), .balls own] } ∧
    exec (.samplePreload balls) s = .next { s with jtag := ⟨1, s.capture balls, false, false⟩
                                                   resp := [.tdo 2 ((s.capture balls).setWidth 32), .balls own] } ∧
    (∀ n, n < 18 → ¬ (n = 4) → ¬ (n = 7) → (s.capture balls).getLsbD n = balls.getLsbD n) ∧
    (scan = true → exec (.extest balls) s = .next { s with jtag := ⟨0, balls, true, false⟩
                                                           resp := [.tdo 2 (s.jtag.bsr.setWidth 32), .balls (cells balls)] }) ∧
    (scan = false → exec (.extest balls) s = .next { s with jtag := j 0 false false, resp := [.tdo 0 0, .balls own] }) ∧
    exec .clamp s = .next { s with jtag := j 3 scan false, resp := [.tdo 0 0, .balls (if scan then cells s.jtag.bsr else own)] } ∧
    exec .highz s = .next { s with jtag := j 4 false scan, resp := [.tdo 0 0, .balls own] } ∧
    (5 ≤ code.toNat → exec (.bypass code) s = .next { s with jtag := j code false false, resp := [.tdo 0 0, .balls own] })
end

