-- ==== Sys2Proof/Laws/Exec.lean ====
section
/-! SUPPORT. exec on each command is the command's meaning; the step runs the front of the queue. -/

namespace Sys2Proof.Machine

open Sys2Proof

variable (s : State)

@[simp] theorem exec_memrd (port : Port) (spid : Option (BitVec 12)) (dpa : Dpa) (out : Option Carry) (again : Reread) :
    exec (.memrd port spid dpa out again) s = execMemrd port spid dpa out again s := rfl
@[simp] theorem exec_memspecrd (port : Port) (dpa : Dpa) : exec (.memspecrd port dpa) s = execMemspecrd port dpa s := rfl
@[simp] theorem exec_meminv (port : Port) (dpa : Dpa) : exec (.meminv port dpa) s = execMeminv port dpa s := rfl
@[simp] theorem exec_memwr (port : Port) (spid : Option (BitVec 12)) (dpa : Dpa) (data : Line) (poison : Bool) (carry : Option Carry) :
    exec (.memwr port spid dpa data poison carry) s = execMemwr port spid dpa data poison carry s := rfl
@[simp] theorem exec_memwrptl (port : Port) (spid : Option (BitVec 12)) (dpa : Dpa) (data : Line) (enables : Mask) (poison : Bool) (carry : Option Carry) :
    exec (.memwrptl port spid dpa data enables poison carry) s = execMemwrptl port spid dpa data enables poison carry s := rfl
@[simp] theorem exec_m2sUnsupported (port : Port) (opcode : Byte) : exec (.m2sUnsupported port opcode) s = execM2sUnsupported port opcode s := rfl
@[simp] theorem exec_rwdCreditReturn (port : Port) : exec (.rwdCreditReturn port) s = execRwdCreditReturn port s := rfl
@[simp] theorem exec_portReset (port : Port) (kind : ResetKind) : exec (.portReset port kind) s = execPortReset port kind s := rfl
@[simp] theorem exec_perstAssert (port : Port) : exec (.perstAssert port) s = execPerstAssert port s := rfl
@[simp] theorem exec_linkTrained (port : Port) (width rate : Nat) : exec (.linkTrained port width rate) s = execLinkTrained port width rate s := rfl
@[simp] theorem exec_hdmDecoderCommit (port : Port) (n : Fin 3) (skip size : Nat) (ways granularity : Nat) :
    exec (.hdmDecoderCommit port n skip size ways granularity) s = execHdmDecoderCommit port n skip size ways granularity s := rfl
@[simp] theorem exec_gpfPhase1 (port : Port) : exec (.gpfPhase1 port) s = execGpfPhase1 port s := rfl
@[simp] theorem exec_gpfPhase2 (port : Port) : exec (.gpfPhase2 port) s = execGpfPhase2 port s := rfl
@[simp] theorem exec_getEventRecords (port : Port) (log : Fin 4) : exec (.getEventRecords port log) s = execGetEventRecords port log s := rfl
@[simp] theorem exec_clearEventRecords (port : Port) (log : Fin 4) (sel : ClearSel) :
    exec (.clearEventRecords port log sel) s = execClearEventRecords port log sel s := rfl
@[simp] theorem exec_getEventInterruptPolicy (port : Port) : exec (.getEventInterruptPolicy port) s = execGetEventInterruptPolicy port s := rfl
@[simp] theorem exec_setEventInterruptPolicy (port : Port) (policy : Word) :
    exec (.setEventInterruptPolicy port policy) s = execSetEventInterruptPolicy port policy s := rfl
@[simp] theorem exec_getFwInfo (port : Port) : exec (.getFwInfo port) s = execGetFwInfo port s := rfl
@[simp] theorem exec_transferFwFull (port : Port) (slot : Byte) (data : List Byte) :
    exec (.transferFwFull port slot data) s = execTransferFwFull port slot data s := rfl
@[simp] theorem exec_transferFwInitiate (port : Port) (slot : Byte) (data : List Byte) :
    exec (.transferFwInitiate port slot data) s = execTransferFwInitiate port slot data s := rfl
@[simp] theorem exec_transferFwContinue (port : Port) (slot : Byte) (offset : Nat) (data : List Byte) :
    exec (.transferFwContinue port slot offset data) s = execTransferFwContinue port slot offset data s := rfl
@[simp] theorem exec_transferFwEnd (port : Port) (slot : Byte) (offset : Nat) (data : List Byte) :
    exec (.transferFwEnd port slot offset data) s = execTransferFwEnd port slot offset data s := rfl
@[simp] theorem exec_transferFwAbort (port : Port) : exec (.transferFwAbort port) s = execTransferFwAbort port s := rfl
@[simp] theorem exec_activateFwOnline (port : Port) (slot : Byte) : exec (.activateFwOnline port slot) s = execActivateFwOnline port slot s := rfl
@[simp] theorem exec_activateFwOnNextReset (port : Port) (slot : Byte) :
    exec (.activateFwOnNextReset port slot) s = execActivateFwOnNextReset port slot s := rfl
@[simp] theorem exec_getTimestamp (port : Port) : exec (.getTimestamp port) s = execGetTimestamp port s := rfl
@[simp] theorem exec_setTimestamp (port : Port) (ns : Stamp) : exec (.setTimestamp port ns) s = execSetTimestamp port ns s := rfl
@[simp] theorem exec_getSupportedLogs (port : Port) : exec (.getSupportedLogs port) s = execGetSupportedLogs port s := rfl
@[simp] theorem exec_getLog (port : Port) (uuid : BitVec 128) : exec (.getLog port uuid) s = execGetLog port uuid s := rfl
@[simp] theorem exec_identifyMemoryDevice (port : Port) : exec (.identifyMemoryDevice port) s = execIdentifyMemoryDevice port s := rfl
@[simp] theorem exec_getPartitionInfo (port : Port) : exec (.getPartitionInfo port) s = execGetPartitionInfo port s := rfl
@[simp] theorem exec_mailboxUnsupported (port : Port) (opcode : BitVec 16) :
    exec (.mailboxUnsupported port opcode) s = execMailboxUnsupported port opcode s := rfl
@[simp] theorem exec_regRead (port : Port) (payload : List Byte) (sram regs : BitFlips) :
    exec (.regRead port payload sram regs) s = execRegRead port payload sram regs s := rfl
@[simp] theorem exec_regWrite (port : Port) (payload : List Byte) (sram : BitFlips) :
    exec (.regWrite port payload sram) s = execRegWrite port payload sram s := rfl
@[simp] theorem exec_tblRead (port : Port) (payload : List Byte) (sram regs : BitFlips) :
    exec (.tblRead port payload sram regs) s = execTblRead port payload sram regs s := rfl
@[simp] theorem exec_tblWrite (port : Port) (payload : List Byte) (sram : BitFlips) (failing : List (Nat × Fin 128)) :
    exec (.tblWrite port payload sram failing) s = execTblWrite port payload sram failing s := rfl
@[simp] theorem exec_planWrite (port : Port) (payload : List Byte) (sram : BitFlips) :
    exec (.planWrite port payload sram) s = execPlanWrite port payload sram s := rfl
@[simp] theorem exec_planCommit (port : Port) (payload : List Byte) : exec (.planCommit port payload) s = execPlanCommit port payload s := rfl
@[simp] theorem exec_cadCommit (port : Port) (payload : List Byte) : exec (.cadCommit port payload) s = execCadCommit port payload s := rfl
@[simp] theorem exec_cadRevert (port : Port) (payload : List Byte) : exec (.cadRevert port payload) s = execCadRevert port payload s := rfl
@[simp] theorem exec_releaseTiles (port : Port) (payload : List Byte) : exec (.releaseTiles port payload) s = execReleaseTiles port payload s := rfl
@[simp] theorem exec_releasePrepareDone : exec .releasePrepareDone s = execReleasePrepareDone s := rfl
@[simp] theorem exec_releaseCycle : exec .releaseCycle s = execReleaseCycle s := rfl
@[simp] theorem exec_releaseCleanupDone : exec .releaseCleanupDone s = execReleaseCleanupDone s := rfl
@[simp] theorem exec_capacityQuery (port : Port) (payload : List Byte) :
    exec (.capacityQuery port payload) s = execCapacityQuery port payload s := rfl
@[simp] theorem exec_keyGenerate (port : Port) (payload : List Byte) (failing : Option (Fin 128)) :
    exec (.keyGenerate port payload failing) s = execKeyGenerate port payload failing s := rfl
@[simp] theorem exec_keyImport (port : Port) (payload : List Byte) (failing : Option (Fin 128)) :
    exec (.keyImport port payload failing) s = execKeyImport port payload failing s := rfl
@[simp] theorem exec_keyErase (port : Port) (payload : List Byte) : exec (.keyErase port payload) s = execKeyErase port payload s := rfl
@[simp] theorem exec_straitReadFrame (bytes : List Byte) (regs : BitFlips) :
    exec (.straitReadFrame bytes regs) s = execStraitReadFrame bytes regs s := rfl
@[simp] theorem exec_straitBadFrame (reason : BadFrame) : exec (.straitBadFrame reason) s = execStraitBadFrame reason s := rfl
@[simp] theorem exec_straitPortReady : exec .straitPortReady s = execStraitPortReady s := rfl
@[simp] theorem exec_entdaa (addr : BitVec 7) (wins : Bool) : exec (.entdaa addr wins) s = execEntdaa addr wins s := rfl
@[simp] theorem exec_setdasa (static addr : BitVec 7) : exec (.setdasa static addr) s = execSetdasa static addr s := rfl
@[simp] theorem exec_setnewda (target addr : BitVec 7) : exec (.setnewda target addr) s = execSetnewda target addr s := rfl
@[simp] theorem exec_rstdaa : exec .rstdaa s = execRstdaa s := rfl
@[simp] theorem exec_enec (target : Option (BitVec 7)) (bits : Byte) : exec (.enec target bits) s = execEnec target bits s := rfl
@[simp] theorem exec_disec (target : Option (BitVec 7)) (bits : Byte) : exec (.disec target bits) s = execDisec target bits s := rfl
@[simp] theorem exec_getpid (target : BitVec 7) (mismatch : Bool) : exec (.getpid target mismatch) s = execGetpid target mismatch s := rfl
@[simp] theorem exec_getbcr (target : BitVec 7) (mismatch : Bool) : exec (.getbcr target mismatch) s = execGetbcr target mismatch s := rfl
@[simp] theorem exec_getdcr (target : BitVec 7) (mismatch : Bool) : exec (.getdcr target mismatch) s = execGetdcr target mismatch s := rfl
@[simp] theorem exec_getstatus (target : BitVec 7) (mismatch : Bool) : exec (.getstatus target mismatch) s = execGetstatus target mismatch s := rfl
@[simp] theorem exec_rstact (target : Option (BitVec 7)) (defining : Byte) : exec (.rstact target defining) s = execRstact target defining s := rfl
@[simp] theorem exec_i3cTargetReset : exec .i3cTargetReset s = execI3cTargetReset s := rfl
@[simp] theorem exec_i3cCccUnsupported (target : Option (BitVec 7)) (code : Byte) :
    exec (.i3cCccUnsupported target code) s = execI3cCccUnsupported target code s := rfl
@[simp] theorem exec_i3cPrivateRead (target : BitVec 7) (whole mismatch : Bool) :
    exec (.i3cPrivateRead target whole mismatch) s = execI3cPrivateRead target whole mismatch s := rfl
@[simp] theorem exec_hotJoinRequest (answer : BusAnswer) : exec (.hotJoinRequest answer) s = execHotJoinRequest answer s := rfl
@[simp] theorem exec_ibiRequest (answer : BusAnswer) (mismatch : Bool) :
    exec (.ibiRequest answer mismatch) s = execIbiRequest answer mismatch s := rfl
@[simp] theorem exec_ibiRetry (answer : BusAnswer) (mismatch : Bool) : exec (.ibiRetry answer mismatch) s = execIbiRetry answer mismatch s := rfl
@[simp] theorem exec_ownerIdleRelease : exec .ownerIdleRelease s = execOwnerIdleRelease s := rfl
@[simp] theorem exec_ownerClaim (path : Path) : exec (.ownerClaim path) s = execOwnerClaim path s := rfl
@[simp] theorem exec_ownerRelease (path : Path) : exec (.ownerRelease path) s = execOwnerRelease path s := rfl
@[simp] theorem exec_evtStatClear (path : Path) (bits : BitVec 24) : exec (.evtStatClear path bits) s = execEvtStatClear path bits s := rfl
@[simp] theorem exec_evtForce (path : Path) (bits : BitVec 24) : exec (.evtForce path bits) s = execEvtForce path bits s := rfl
@[simp] theorem exec_modeCtlReqDormant (path : Path) (musterEn : Bool) :
    exec (.modeCtlReqDormant path musterEn) s = execModeCtlReqDormant path musterEn s := rfl
@[simp] theorem exec_modeCtlReqCauseway (path : Path) (musterEn : Bool) :
    exec (.modeCtlReqCauseway path musterEn) s = execModeCtlReqCauseway path musterEn s := rfl
@[simp] theorem exec_witnessClr (path : Path) (musterEn : Bool) : exec (.witnessClr path musterEn) s = execWitnessClr path musterEn s := rfl
@[simp] theorem exec_musterEnWrite (path : Path) (musterEn : Bool) : exec (.musterEnWrite path musterEn) s = execMusterEnWrite path musterEn s := rfl
@[simp] theorem exec_modeCtlLock (path : Path) (musterEn : Bool) : exec (.modeCtlLock path musterEn) s = execModeCtlLock path musterEn s := rfl
@[simp] theorem exec_tideCtlLock (path : Path) (ceiling : BitVec 20) : exec (.tideCtlLock path ceiling) s = execTideCtlLock path ceiling s := rfl
@[simp] theorem exec_compassThrLock (path : Path) (ro inhibit caution : BitVec 10) :
    exec (.compassThrLock path ro inhibit caution) s = execCompassThrLock path ro inhibit caution s := rfl
@[simp] theorem exec_pdCtlLock (path : Path) (portOff : BitVec 2) : exec (.pdCtlLock path portOff) s = execPdCtlLock path portOff s := rfl
@[simp] theorem exec_compassThrWrite (path : Path) (ro inhibit caution : BitVec 10) :
    exec (.compassThrWrite path ro inhibit caution) s = execCompassThrWrite path ro inhibit caution s := rfl
@[simp] theorem exec_travPeriodWrite (path : Path) (tier : Tier) (value : BitVec 10) :
    exec (.travPeriodWrite path tier value) s = execTravPeriodWrite path tier value s := rfl
@[simp] theorem exec_ceilingWrite (path : Path) (ceiling : BitVec 20) : exec (.ceilingWrite path ceiling) s = execCeilingWrite path ceiling s := rfl
@[simp] theorem exec_warnThrWrite (path : Path) (value : Byte) : exec (.warnThrWrite path value) s = execWarnThrWrite path value s := rfl
@[simp] theorem exec_portOffWrite (path : Path) (portOff : BitVec 2) : exec (.portOffWrite path portOff) s = execPortOffWrite path portOff s := rfl
@[simp] theorem exec_cadCtlCommit (path : Path) : exec (.cadCtlCommit path) s = execCadCtlCommit path s := rfl
@[simp] theorem exec_cadCtlRevert (path : Path) : exec (.cadCtlRevert path) s = execCadCtlRevert path s := rfl
@[simp] theorem exec_tblCmdRead (path : Path) : exec (.tblCmdRead path) s = execTblCmdRead path s := rfl
@[simp] theorem exec_tblCmdReadInc (path : Path) : exec (.tblCmdReadInc path) s = execTblCmdReadInc path s := rfl
@[simp] theorem exec_tblCmdPlanCommit (path : Path) : exec (.tblCmdPlanCommit path) s = execTblCmdPlanCommit path s := rfl
@[simp] theorem exec_tblCmdComplete (failing : Option (Fin 128)) : exec (.tblCmdComplete failing) s = execTblCmdComplete failing s := rfl
@[simp] theorem exec_holderWrite (path : Path) (index : BitVec 16) (entry : Entry) :
    exec (.holderWrite path index entry) s = execHolderWrite path index entry s := rfl
@[simp] theorem exec_parcelWrite (path : Path) (index : BitVec 16) (entry : Entry) :
    exec (.parcelWrite path index entry) s = execParcelWrite path index entry s := rfl
@[simp] theorem exec_planEntryWrite (path : Path) (index : BitVec 16) (entry : Entry) :
    exec (.planEntryWrite path index entry) s = execPlanEntryWrite path index entry s := rfl
@[simp] theorem exec_fchanClear (path : Path) (channel : BitVec 16) : exec (.fchanClear path channel) s = execFchanClear path channel s := rfl
@[simp] theorem exec_fchanAbort (path : Path) (channel : BitVec 16) : exec (.fchanAbort path channel) s = execFchanAbort path channel s := rfl
@[simp] theorem exec_bankerrClear (path : Path) (bank : BitVec 16) : exec (.bankerrClear path bank) s = execBankerrClear path bank s := rfl
@[simp] theorem exec_flagcntClear (path : Path) (flag : BitVec 16) : exec (.flagcntClear path flag) s = execFlagcntClear path flag s := rfl
@[simp] theorem exec_bmkpageProgram (path : Path) (index : BitVec 16) (chunk : Entry) :
    exec (.bmkpageProgram path index chunk) s = execBmkpageProgram path index chunk s := rfl
@[simp] theorem exec_bmkCtlPreset (path : Path) : exec (.bmkCtlPreset path) s = execBmkCtlPreset path s := rfl
@[simp] theorem exec_storeOpComplete (failingWord : Option (Fin 128)) :
    exec (.storeOpComplete failingWord) s = execStoreOpComplete failingWord s := rfl
@[simp] theorem exec_mcountIncrement (path : Path) (index : BitVec 16) (operand : BitVec 64) :
    exec (.mcountIncrement path index operand) s = execMcountIncrement path index operand s := rfl
@[simp] theorem exec_mcountAdvance (path : Path) (index : BitVec 16) (operand : BitVec 64) :
    exec (.mcountAdvance path index operand) s = execMcountAdvance path index operand s := rfl
@[simp] theorem exec_mcountRebase (path : Path) (index : BitVec 16) (operand : BitVec 64) :
    exec (.mcountRebase path index operand) s = execMcountRebase path index operand s := rfl
@[simp] theorem exec_keyslotGenerate (path : Path) (slot : BitVec 16) (failing : Option (Fin 128)) :
    exec (.keyslotGenerate path slot failing) s = execKeyslotGenerate path slot failing s := rfl
@[simp] theorem exec_keyslotErase (path : Path) (slot : BitVec 16) : exec (.keyslotErase path slot) s = execKeyslotErase path slot s := rfl
@[simp] theorem exec_travRestartT1 (path : Path) (t2en : Bool) : exec (.travRestartT1 path t2en) s = execTravRestartT1 path t2en s := rfl
@[simp] theorem exec_travRestartT2 (path : Path) (t2en : Bool) : exec (.travRestartT2 path t2en) s = execTravRestartT2 path t2en s := rfl
@[simp] theorem exec_travT2EnWrite (path : Path) (t2en : Bool) : exec (.travT2EnWrite path t2en) s = execTravT2EnWrite path t2en s := rfl
@[simp] theorem exec_lhFreeze (path : Path) (freeze : Bool) : exec (.lhFreeze path freeze) s = execLhFreeze path freeze s := rfl
@[simp] theorem exec_entDataRead (path : Path) : exec (.entDataRead path) s = execEntDataRead path s := rfl
@[simp] theorem exec_registerWrite (path : Path) (offset : BitVec 10) (value : Word) :
    exec (.registerWrite path offset value) s = execRegisterWrite path offset value s := rfl
@[simp] theorem exec_doorbellStart (port : Port) (spid : Option (BitVec 12)) (channel : Fin 64) (route : Dpa) :
    exec (.doorbellStart port spid channel route) s = execDoorbellStart port spid channel route s := rfl
@[simp] theorem exec_doorbellMark (port : Port) (spid : Option (BitVec 12)) (channel : Fin 64) (mark : Word) :
    exec (.doorbellMark port spid channel mark) s = execDoorbellMark port spid channel mark s := rfl
@[simp] theorem exec_doorbellResume (port : Port) (spid : Option (BitVec 12)) (channel : Fin 64) :
    exec (.doorbellResume port spid channel) s = execDoorbellResume port spid channel s := rfl
@[simp] theorem exec_doorbellSkip (port : Port) (spid : Option (BitVec 12)) (channel : Fin 64) :
    exec (.doorbellSkip port spid channel) s = execDoorbellSkip port spid channel s := rfl
@[simp] theorem exec_doorbellAbort (port : Port) (spid : Option (BitVec 12)) (channel : Fin 64) :
    exec (.doorbellAbort port spid channel) s = execDoorbellAbort port spid channel s := rfl
@[simp] theorem exec_doorbellNop (port : Port) (spid : Option (BitVec 12)) (channel : Fin 64) :
    exec (.doorbellNop port spid channel) s = execDoorbellNop port spid channel s := rfl
@[simp] theorem exec_doorbellBadCmd (port : Port) (spid : Option (BitVec 12)) (channel : Fin 64) (cmd : Byte) :
    exec (.doorbellBadCmd port spid channel cmd) s = execDoorbellBadCmd port spid channel cmd s := rfl
@[simp] theorem exec_routeHeaderLoaded (channel : Fin 64) (again : Reread) :
    exec (.routeHeaderLoaded channel again) s = execRouteHeaderLoaded channel again s := rfl
@[simp] theorem exec_legFetch (channel : Fin 64) (again : Reread) : exec (.legFetch channel again) s = execLegFetch channel again s := rfl
@[simp] theorem exec_fetchTile (channel : Fin 64) (read : TileRead) (moves : List (Fin 64 × Carry)) :
    exec (.fetchTile channel read moves) s = execFetchTile channel read moves s := rfl
@[simp] theorem exec_writebackTile (channel : Fin 64) (outcome : PackOutcome) :
    exec (.writebackTile channel outcome) s = execWritebackTile channel outcome s := rfl
@[simp] theorem exec_copyTile (channel : Fin 64) (read : TileRead) (again : Reread) (outcome : PackOutcome) (moves : List (Fin 64 × Carry)) :
    exec (.copyTile channel read again outcome moves) s = execCopyTile channel read again outcome moves s := rfl
@[simp] theorem exec_fillTile (channel : Fin 64) (moves : List (Fin 64 × Carry)) :
    exec (.fillTile channel moves) s = execFillTile channel moves s := rfl
@[simp] theorem exec_verifyTile (channel : Fin 64) (read : TileRead) (again : Reread) :
    exec (.verifyTile channel read again) s = execVerifyTile channel read again s := rfl
@[simp] theorem exec_streamFill (channel : Fin 64) (read : TileRead) (moves : List (Fin 64 × Carry)) :
    exec (.streamFill channel read moves) s = execStreamFill channel read moves s := rfl
@[simp] theorem exec_stallCleared (channel : Fin 64) : exec (.stallCleared channel) s = execStallCleared channel s := rfl
@[simp] theorem exec_ferryStallTimeout (channel : Fin 64) : exec (.ferryStallTimeout channel) s = execFerryStallTimeout channel s := rfl
@[simp] theorem exec_abortComplete (channel : Fin 64) : exec (.abortComplete channel) s = execAbortComplete channel s := rfl
@[simp] theorem exec_channelParked (channel : Fin 64) : exec (.channelParked channel) s = execChannelParked channel s := rfl
@[simp] theorem exec_demandFetchDone (tile : Nat) (read : TileRead) : exec (.demandFetchDone tile read) s = execDemandFetchDone tile read s := rfl
@[simp] theorem exec_gateReloadDone (gate : Fin 5) : exec (.gateReloadDone gate) s = execGateReloadDone gate s := rfl
@[simp] theorem exec_bypassRead (index : Nat) (read : TileRead) : exec (.bypassRead index read) s = execBypassRead index read s := rfl
@[simp] theorem exec_queuedStoreInstall (tile : Nat) : exec (.queuedStoreInstall tile) s = execQueuedStoreInstall tile s := rfl
@[simp] theorem exec_recordPacked (slot : Nat) (outcome : PackOutcome) : exec (.recordPacked slot outcome) s = execRecordPacked slot outcome s := rfl
@[simp] theorem exec_pageProgram (cls : Fin 8) (page : Nat) (outcome : ProgramOutcome) :
    exec (.pageProgram cls page outcome) s = execPageProgram cls page outcome s := rfl
@[simp] theorem exec_pageProgramRetry (cls : Fin 8) (page : Nat) (outcome : ProgramOutcome) :
    exec (.pageProgramRetry cls page outcome) s = execPageProgramRetry cls page outcome s := rfl
@[simp] theorem exec_pagePreset (page : Nat) (outcome : PresetOutcome) : exec (.pagePreset page outcome) s = execPagePreset page outcome s := rfl
@[simp] theorem exec_writeBackCommit (tile : Nat) : exec (.writeBackCommit tile) s = execWriteBackCommit tile s := rfl
@[simp] theorem exec_reclaim (page : Nat) (reads : List (Nat × PageRead)) : exec (.reclaim page reads) s = execReclaim page reads s := rfl
@[simp] theorem exec_relocation (reads : List (Nat × PageRead)) (target : Nat) (outcome : ProgramOutcome) :
    exec (.relocation reads target outcome) s = execRelocation reads target outcome s := rfl
@[simp] theorem exec_gapMoveT2 (bank : Nat) (region : Fin 8) (read : PageRead) (outcome : ProgramOutcome) :
    exec (.gapMoveT2 bank region read outcome) s = execGapMoveT2 bank region read outcome s := rfl
@[simp] theorem exec_t1WriteProgram (index : Nat) (flips : List (Fin 64 × Fin 13)) (tries : Tries) (xtsOk : Bool) :
    exec (.t1WriteProgram index flips tries xtsOk) s = execT1WriteProgram index flips tries xtsOk s := rfl
@[simp] theorem exec_gapMoveT1 (group : Nat) (flips : List (Fin 64 × Fin 13)) (tries : Tries) :
    exec (.gapMoveT1 group flips tries) s = execGapMoveT1 group flips tries s := rfl
@[simp] theorem exec_verifyLaneCheck (tries : Tries) : exec (.verifyLaneCheck tries) s = execVerifyLaneCheck tries s := rfl
@[simp] theorem exec_correctionWriteBack (stillWrong : List (Fin 64)) :
    exec (.correctionWriteBack stillWrong) s = execCorrectionWriteBack stillWrong s := rfl
@[simp] theorem exec_traverseT1Read (again : Reread) (witnessLeft : List (List (Fin 4096))) :
    exec (.traverseT1Read again witnessLeft) s = execTraverseT1Read again witnessLeft s := rfl
@[simp] theorem exec_traverseT2Read (page : PageRead) (witnessLeft : List (List (Fin 4096))) :
    exec (.traverseT2Read page witnessLeft) s = execTraverseT2Read page witnessLeft s := rfl
@[simp] theorem exec_traverseLate (tier : Tier) : exec (.traverseLate tier) s = execTraverseLate tier s := rfl
@[simp] theorem exec_traverseSave : exec .traverseSave s = execTraverseSave s := rfl
@[simp] theorem exec_wearPersist : exec .wearPersist s = execWearPersist s := rfl
@[simp] theorem exec_trimAdjust (bank : Fin 512) : exec (.trimAdjust bank) s = execTrimAdjust bank s := rfl
@[simp] theorem exec_tempSample (dies : List Int) : exec (.tempSample dies) s = execTempSample dies s := rfl
@[simp] theorem exec_compassSample (s0 s1 s2 : Axes) : exec (.compassSample s0 s1 s2) s = execCompassSample s0 s1 s2 s := rfl
@[simp] theorem exec_coilCheck (sensor : Fin 3) (change : Axes) : exec (.coilCheck sensor change) s = execCoilCheck sensor change s := rfl
@[simp] theorem exec_tideMeasurement (millivolts : Nat) (slopeDiff : Int) :
    exec (.tideMeasurement millivolts slopeDiff) s = execTideMeasurement millivolts slopeDiff s := rfl
@[simp] theorem exec_tideResample (millivolts : Nat) : exec (.tideResample millivolts) s = execTideResample millivolts s := rfl
@[simp] theorem exec_commitValidated : exec .commitValidated s = execCommitValidated s := rfl
@[simp] theorem exec_commitEpoch : exec .commitEpoch s = execCommitEpoch s := rfl
@[simp] theorem exec_commitReport : exec .commitReport s = execCommitReport s := rfl
@[simp] theorem exec_pd0PowerOn : exec .pd0PowerOn s = execPd0PowerOn s := rfl
@[simp] theorem exec_strapLatch (msel scanmode : Bool) (saddr : BitVec 3) :
    exec (.strapLatch msel scanmode saddr) s = execStrapLatch msel scanmode saddr s := rfl
@[simp] theorem exec_suppliesGood : exec .suppliesGood s = execSuppliesGood s := rfl
@[simp] theorem exec_pllLock : exec .pllLock s = execPllLock s := rfl
@[simp] theorem exec_domainRampDone (domain : Fin 8) : exec (.domainRampDone domain) s = execDomainRampDone domain s := rfl
@[simp] theorem exec_vaonLoss : exec .vaonLoss s = execVaonLoss s := rfl
@[simp] theorem exec_pfailNAssert : exec .pfailNAssert s = execPfailNAssert s := rfl
@[simp] theorem exec_pfailNDeassert : exec .pfailNDeassert s = execPfailNDeassert s := rfl
@[simp] theorem exec_musterFall : exec .musterFall s = execMusterFall s := rfl
@[simp] theorem exec_dormantWake (source : WakeSource) : exec (.dormantWake source) s = execDormantWake source s := rfl
@[simp] theorem exec_powerDownDone : exec .powerDownDone s = execPowerDownDone s := rfl
@[simp] theorem exec_storeRecallDone (damagedWords : List (Nat × Bool)) (factoryBad : Bool) :
    exec (.storeRecallDone damagedWords factoryBad) s = execStoreRecallDone damagedWords factoryBad s := rfl
@[simp] theorem exec_bootDone (bch0 bch1 : List (Fin 3 × Nat)) (unread : BitVec 4) :
    exec (.bootDone bch0 bch1 unread) s = execBootDone bch0 bch1 unread s := rfl
@[simp] theorem exec_selftestDone (faults : List EngineFault) : exec (.selftestDone faults) s = execSelftestDone faults s := rfl
@[simp] theorem exec_senseDone (c0 c1 c2 s0 s1 s2 : Axes) : exec (.senseDone c0 c1 c2 s0 s1 s2) s = execSenseDone c0 c1 c2 s0 s1 s2 s := rfl
@[simp] theorem exec_witnessCheckDone (flipped : List (List (Fin 4096))) : exec (.witnessCheckDone flipped) s = execWitnessCheckDone flipped s := rfl
@[simp] theorem exec_reloadDone (unread commitUnread : BitVec 4) :
    exec (.reloadDone unread commitUnread) s = execReloadDone unread commitUnread s := rfl
@[simp] theorem exec_replayDone (flips : ReadFlips) (tries : WriteTries) (retireFlips : List (Fin 64 × Fin 13)) (retireTries : Tries) :
    exec (.replayDone flips tries retireFlips retireTries) s = execReplayDone flips tries retireFlips retireTries s := rfl
@[simp] theorem exec_recallResume : exec .recallResume s = execRecallResume s := rfl
@[simp] theorem exec_causewayPortClose : exec .causewayPortClose s = execCausewayPortClose s := rfl
@[simp] theorem exec_drainCopyDone (flips : ReadFlips) (tries : WriteTries) :
    exec (.drainCopyDone flips tries) s = execDrainCopyDone flips tries s := rfl
@[simp] theorem exec_drainVerifyDone : exec .drainVerifyDone s = execDrainVerifyDone s := rfl
@[simp] theorem exec_drainWitnessDone (left : List (List (Fin 4096))) : exec (.drainWitnessDone left) s = execDrainWitnessDone left s := rfl
@[simp] theorem exec_drainCompleteMark (flips : List (Fin 64 × Fin 13)) (tries : Tries) :
    exec (.drainCompleteMark flips tries) s = execDrainCompleteMark flips tries s := rfl
@[simp] theorem exec_drainPd7Off : exec .drainPd7Off s = execDrainPd7Off s := rfl
@[simp] theorem exec_drainComplete : exec .drainComplete s = execDrainComplete s := rfl
@[simp] theorem exec_settleWritesDone : exec .settleWritesDone s = execSettleWritesDone s := rfl
@[simp] theorem exec_settleWritebackDone : exec .settleWritebackDone s = execSettleWritebackDone s := rfl
@[simp] theorem exec_settleDrainDone (flips : ReadFlips) (tries : WriteTries) :
    exec (.settleDrainDone flips tries) s = execSettleDrainDone flips tries s := rfl
@[simp] theorem exec_settleVerifyDone : exec .settleVerifyDone s = execSettleVerifyDone s := rfl
@[simp] theorem exec_settleSaveDone : exec .settleSaveDone s = execSettleSaveDone s := rfl
@[simp] theorem exec_settleWitnessDone (left : List (List (Fin 4096))) : exec (.settleWitnessDone left) s = execSettleWitnessDone left s := rfl
@[simp] theorem exec_settleMarkerDone : exec .settleMarkerDone s = execSettleMarkerDone s := rfl
@[simp] theorem exec_stewardFetchTrap (address : Word) : exec (.stewardFetchTrap address) s = execStewardFetchTrap address s := rfl
@[simp] theorem exec_stewardRestartDone : exec .stewardRestartDone s = execStewardRestartDone s := rfl
@[simp] theorem exec_stagingData : exec .stagingData s = execStagingData s := rfl
@[simp] theorem exec_stagingEnd : exec .stagingEnd s = execStagingEnd s := rfl
@[simp] theorem exec_stagingAbort : exec .stagingAbort s = execStagingAbort s := rfl
@[simp] theorem exec_stagingActivateOnline : exec .stagingActivateOnline s = execStagingActivateOnline s := rfl
@[simp] theorem exec_stagingActivateRecall : exec .stagingActivateRecall s = execStagingActivateRecall s := rfl
@[simp] theorem exec_stagedImageWrite : exec .stagedImageWrite s = execStagedImageWrite s := rfl
@[simp] theorem exec_eventLogAppend (failingWord : Option (Fin 128)) : exec (.eventLogAppend failingWord) s = execEventLogAppend failingWord s := rfl
@[simp] theorem exec_counterUpdate (failingWord : Option (Fin 128)) : exec (.counterUpdate failingWord) s = execCounterUpdate failingWord s := rfl
@[simp] theorem exec_paramPageUpdate (failingWord : Option (Fin 128)) :
    exec (.paramPageUpdate failingWord) s = execParamPageUpdate failingWord s := rfl
@[simp] theorem exec_traceSave (failingWord : Option (Fin 256)) : exec (.traceSave failingWord) s = execTraceSave failingWord s := rfl
@[simp] theorem exec_traceSetPreset : exec .traceSetPreset s = execTraceSetPreset s := rfl
@[simp] theorem exec_healthTestFail (test : HealthTest) : exec (.healthTestFail test) s = execHealthTestFail test s := rfl
@[simp] theorem exec_startupTestDone (passes : Bool) : exec (.startupTestDone passes) s = execStartupTestDone passes s := rfl
@[simp] theorem exec_conditioningBlockDone (raw : BitVec 1024) : exec (.conditioningBlockDone raw) s = execConditioningBlockDone raw s := rfl
@[simp] theorem exec_drbgReseed : exec .drbgReseed s = execDrbgReseed s := rfl
@[simp] theorem exec_seedReplace : exec .seedReplace s = execSeedReplace s := rfl
@[simp] theorem exec_timestampEra : exec .timestampEra s = execTimestampEra s := rfl
@[simp] theorem exec_cxlEventLogPlace : exec .cxlEventLogPlace s = execCxlEventLogPlace s := rfl
@[simp] theorem exec_faultTokenRefill : exec .faultTokenRefill s = execFaultTokenRefill s := rfl
@[simp] theorem exec_tapReset : exec .tapReset s = execTapReset s := rfl
@[simp] theorem exec_extest (drive : BitVec 18) : exec (.extest drive) s = execExtest drive s := rfl
@[simp] theorem exec_samplePreload (balls : BitVec 18) : exec (.samplePreload balls) s = execSamplePreload balls s := rfl
@[simp] theorem exec_idcode : exec .idcode s = execIdcode s := rfl
@[simp] theorem exec_clamp : exec .clamp s = execClamp s := rfl
@[simp] theorem exec_highz : exec .highz s = execHighz s := rfl
@[simp] theorem exec_bypass (code : BitVec 4) : exec (.bypass code) s = execBypass code s := rfl
@[simp] theorem exec_straitWriteFrame (bytes : List Byte) : exec (.straitWriteFrame bytes) s = execStraitWriteFrame bytes s := rfl
@[simp] theorem exec_tblCmdWrite (path : Path) : exec (.tblCmdWrite path) s = execTblCmdWrite path s := rfl
@[simp] theorem exec_supplyNotGood (supply : Supply) : exec (.supplyNotGood supply) s = execSupplyNotGood supply s := rfl
@[simp] theorem exec_bankWaitStall (channel : Fin 64) : exec (.bankWaitStall channel) s = execBankWaitStall channel s := rfl
@[simp] theorem exec_traverseEscalated (tier : Tier) : exec (.traverseEscalated tier) s = execTraverseEscalated tier s := rfl
@[simp] theorem exec_i3cProtocolError : exec .i3cProtocolError s = execI3cProtocolError s := rfl

theorem step_cons {c : Instr} {r : List Instr} (h : s.pending = c :: r) : step s = exec c { s with pending := r } := by
  simp [step, h]
theorem step_idle (h : s.pending = []) : step s = .next s.tick := by simp [step, h]

end Sys2Proof.Machine
end

