-- ==== Sys2Proof/Laws/State.lean ====
section
/-! SUPPORT. What the named updates of the state leave as it was, one lemma per update and field, and what they change. -/

namespace Sys2Proof.Machine

open Sys2Proof

variable (s : State)


/-! ### fresh -/
@[simp] theorem fresh_fuse : s.fresh.fuse = s.fuse := rfl
@[simp] theorem fresh_strap : s.fresh.strap = s.strap := rfl
@[simp] theorem fresh_clk : s.fresh.clk = s.clk := rfl
@[simp] theorem fresh_pwr : s.fresh.pwr = s.pwr := rfl
@[simp] theorem fresh_md : s.fresh.md = s.md := rfl
@[simp] theorem fresh_pin : s.fresh.pin = s.pin := rfl
@[simp] theorem fresh_rcl : s.fresh.rcl = s.rcl := rfl
@[simp] theorem fresh_evt : s.fresh.evt = s.evt := rfl
@[simp] theorem fresh_elog : s.fresh.elog = s.elog := rfl
@[simp] theorem fresh_lh : s.fresh.lh = s.lh := rfl
@[simp] theorem fresh_own : s.fresh.own = s.own := rfl
@[simp] theorem fresh_tbl : s.fresh.tbl = s.tbl := rfl
@[simp] theorem fresh_strait : s.fresh.strait = s.strait := rfl
@[simp] theorem fresh_i3c : s.fresh.i3c = s.i3c := rfl
@[simp] theorem fresh_link : s.fresh.link = s.link := rfl
@[simp] theorem fresh_mbox : s.fresh.mbox = s.mbox := rfl
@[simp] theorem fresh_cad : s.fresh.cad = s.cad := rfl
@[simp] theorem fresh_plan : s.fresh.plan = s.plan := rfl
@[simp] theorem fresh_commit : s.fresh.commit = s.commit := rfl
@[simp] theorem fresh_ferry : s.fresh.ferry = s.ferry := rfl
@[simp] theorem fresh_t0 : s.fresh.t0 = s.t0 := rfl
@[simp] theorem fresh_t1 : s.fresh.t1 = s.t1 := rfl
@[simp] theorem fresh_t2 : s.fresh.t2 = s.t2 := rfl
@[simp] theorem fresh_tide : s.fresh.tide = s.tide := rfl
@[simp] theorem fresh_comp : s.fresh.comp = s.comp := rfl
@[simp] theorem fresh_trav : s.fresh.trav = s.trav := rfl
@[simp] theorem fresh_store : s.fresh.store = s.store := rfl
@[simp] theorem fresh_ent : s.fresh.ent = s.ent := rfl
@[simp] theorem fresh_keys : s.fresh.keys = s.keys := rfl
@[simp] theorem fresh_stew : s.fresh.stew = s.stew := rfl
@[simp] theorem fresh_drain : s.fresh.drain = s.drain := rfl
@[simp] theorem fresh_err : s.fresh.err = s.err := rfl
@[simp] theorem fresh_arb : s.fresh.arb = s.arb := rfl
@[simp] theorem fresh_jtag : s.fresh.jtag = s.jtag := rfl
@[simp] theorem fresh_free : s.fresh.free = s.free := rfl
@[simp] theorem fresh_pending : s.fresh.pending = s.pending := rfl

/-! ### respond -/
@[simp] theorem respond_fuse (r : Resp) : (s.respond r).fuse = s.fuse := rfl
@[simp] theorem respond_strap (r : Resp) : (s.respond r).strap = s.strap := rfl
@[simp] theorem respond_clk (r : Resp) : (s.respond r).clk = s.clk := rfl
@[simp] theorem respond_pwr (r : Resp) : (s.respond r).pwr = s.pwr := rfl
@[simp] theorem respond_md (r : Resp) : (s.respond r).md = s.md := rfl
@[simp] theorem respond_pin (r : Resp) : (s.respond r).pin = s.pin := rfl
@[simp] theorem respond_rcl (r : Resp) : (s.respond r).rcl = s.rcl := rfl
@[simp] theorem respond_evt (r : Resp) : (s.respond r).evt = s.evt := rfl
@[simp] theorem respond_elog (r : Resp) : (s.respond r).elog = s.elog := rfl
@[simp] theorem respond_lh (r : Resp) : (s.respond r).lh = s.lh := rfl
@[simp] theorem respond_own (r : Resp) : (s.respond r).own = s.own := rfl
@[simp] theorem respond_tbl (r : Resp) : (s.respond r).tbl = s.tbl := rfl
@[simp] theorem respond_strait (r : Resp) : (s.respond r).strait = s.strait := rfl
@[simp] theorem respond_i3c (r : Resp) : (s.respond r).i3c = s.i3c := rfl
@[simp] theorem respond_link (r : Resp) : (s.respond r).link = s.link := rfl
@[simp] theorem respond_mbox (r : Resp) : (s.respond r).mbox = s.mbox := rfl
@[simp] theorem respond_cad (r : Resp) : (s.respond r).cad = s.cad := rfl
@[simp] theorem respond_plan (r : Resp) : (s.respond r).plan = s.plan := rfl
@[simp] theorem respond_commit (r : Resp) : (s.respond r).commit = s.commit := rfl
@[simp] theorem respond_ferry (r : Resp) : (s.respond r).ferry = s.ferry := rfl
@[simp] theorem respond_t0 (r : Resp) : (s.respond r).t0 = s.t0 := rfl
@[simp] theorem respond_t1 (r : Resp) : (s.respond r).t1 = s.t1 := rfl
@[simp] theorem respond_t2 (r : Resp) : (s.respond r).t2 = s.t2 := rfl
@[simp] theorem respond_tide (r : Resp) : (s.respond r).tide = s.tide := rfl
@[simp] theorem respond_comp (r : Resp) : (s.respond r).comp = s.comp := rfl
@[simp] theorem respond_trav (r : Resp) : (s.respond r).trav = s.trav := rfl
@[simp] theorem respond_store (r : Resp) : (s.respond r).store = s.store := rfl
@[simp] theorem respond_ent (r : Resp) : (s.respond r).ent = s.ent := rfl
@[simp] theorem respond_keys (r : Resp) : (s.respond r).keys = s.keys := rfl
@[simp] theorem respond_stew (r : Resp) : (s.respond r).stew = s.stew := rfl
@[simp] theorem respond_drain (r : Resp) : (s.respond r).drain = s.drain := rfl
@[simp] theorem respond_err (r : Resp) : (s.respond r).err = s.err := rfl
@[simp] theorem respond_arb (r : Resp) : (s.respond r).arb = s.arb := rfl
@[simp] theorem respond_jtag (r : Resp) : (s.respond r).jtag = s.jtag := rfl
@[simp] theorem respond_free (r : Resp) : (s.respond r).free = s.free := rfl
@[simp] theorem respond_pending (r : Resp) : (s.respond r).pending = s.pending := rfl

/-! ### flagHit -/
@[simp] theorem flagHit_fuse (b : Fin 24) : (s.flagHit b).fuse = s.fuse := rfl
@[simp] theorem flagHit_strap (b : Fin 24) : (s.flagHit b).strap = s.strap := rfl
@[simp] theorem flagHit_clk (b : Fin 24) : (s.flagHit b).clk = s.clk := rfl
@[simp] theorem flagHit_pwr (b : Fin 24) : (s.flagHit b).pwr = s.pwr := rfl
@[simp] theorem flagHit_md (b : Fin 24) : (s.flagHit b).md = s.md := rfl
@[simp] theorem flagHit_pin (b : Fin 24) : (s.flagHit b).pin = s.pin := rfl
@[simp] theorem flagHit_rcl (b : Fin 24) : (s.flagHit b).rcl = s.rcl := rfl
@[simp] theorem flagHit_elog (b : Fin 24) : (s.flagHit b).elog = s.elog := rfl
@[simp] theorem flagHit_lh (b : Fin 24) : (s.flagHit b).lh = s.lh := rfl
@[simp] theorem flagHit_own (b : Fin 24) : (s.flagHit b).own = s.own := rfl
@[simp] theorem flagHit_tbl (b : Fin 24) : (s.flagHit b).tbl = s.tbl := rfl
@[simp] theorem flagHit_strait (b : Fin 24) : (s.flagHit b).strait = s.strait := rfl
@[simp] theorem flagHit_i3c (b : Fin 24) : (s.flagHit b).i3c = s.i3c := rfl
@[simp] theorem flagHit_link (b : Fin 24) : (s.flagHit b).link = s.link := rfl
@[simp] theorem flagHit_mbox (b : Fin 24) : (s.flagHit b).mbox = s.mbox := rfl
@[simp] theorem flagHit_cad (b : Fin 24) : (s.flagHit b).cad = s.cad := rfl
@[simp] theorem flagHit_plan (b : Fin 24) : (s.flagHit b).plan = s.plan := rfl
@[simp] theorem flagHit_commit (b : Fin 24) : (s.flagHit b).commit = s.commit := rfl
@[simp] theorem flagHit_ferry (b : Fin 24) : (s.flagHit b).ferry = s.ferry := rfl
@[simp] theorem flagHit_t0 (b : Fin 24) : (s.flagHit b).t0 = s.t0 := rfl
@[simp] theorem flagHit_t1 (b : Fin 24) : (s.flagHit b).t1 = s.t1 := rfl
@[simp] theorem flagHit_t2 (b : Fin 24) : (s.flagHit b).t2 = s.t2 := rfl
@[simp] theorem flagHit_tide (b : Fin 24) : (s.flagHit b).tide = s.tide := rfl
@[simp] theorem flagHit_comp (b : Fin 24) : (s.flagHit b).comp = s.comp := rfl
@[simp] theorem flagHit_trav (b : Fin 24) : (s.flagHit b).trav = s.trav := rfl
@[simp] theorem flagHit_store (b : Fin 24) : (s.flagHit b).store = s.store := rfl
@[simp] theorem flagHit_ent (b : Fin 24) : (s.flagHit b).ent = s.ent := rfl
@[simp] theorem flagHit_keys (b : Fin 24) : (s.flagHit b).keys = s.keys := rfl
@[simp] theorem flagHit_stew (b : Fin 24) : (s.flagHit b).stew = s.stew := rfl
@[simp] theorem flagHit_drain (b : Fin 24) : (s.flagHit b).drain = s.drain := rfl
@[simp] theorem flagHit_err (b : Fin 24) : (s.flagHit b).err = s.err := rfl
@[simp] theorem flagHit_arb (b : Fin 24) : (s.flagHit b).arb = s.arb := rfl
@[simp] theorem flagHit_jtag (b : Fin 24) : (s.flagHit b).jtag = s.jtag := rfl
@[simp] theorem flagHit_free (b : Fin 24) : (s.flagHit b).free = s.free := rfl
@[simp] theorem flagHit_resp (b : Fin 24) : (s.flagHit b).resp = s.resp := rfl
@[simp] theorem flagHit_pending (b : Fin 24) : (s.flagHit b).pending = s.pending := rfl

/-! ### addEvent -/
@[simp] theorem addEvent_fuse (bit : Option (Fin 24)) (code : Byte) (source : BitVec 16) (payload : BitVec 96) (rise : Bool) (forced : Bool) :
    (s.addEvent bit code source payload rise forced).fuse = s.fuse := rfl
@[simp] theorem addEvent_strap (bit : Option (Fin 24)) (code : Byte) (source : BitVec 16) (payload : BitVec 96) (rise : Bool) (forced : Bool) :
    (s.addEvent bit code source payload rise forced).strap = s.strap := rfl
@[simp] theorem addEvent_clk (bit : Option (Fin 24)) (code : Byte) (source : BitVec 16) (payload : BitVec 96) (rise : Bool) (forced : Bool) :
    (s.addEvent bit code source payload rise forced).clk = s.clk := rfl
@[simp] theorem addEvent_pwr (bit : Option (Fin 24)) (code : Byte) (source : BitVec 16) (payload : BitVec 96) (rise : Bool) (forced : Bool) :
    (s.addEvent bit code source payload rise forced).pwr = s.pwr := rfl
@[simp] theorem addEvent_md (bit : Option (Fin 24)) (code : Byte) (source : BitVec 16) (payload : BitVec 96) (rise : Bool) (forced : Bool) :
    (s.addEvent bit code source payload rise forced).md = s.md := rfl
@[simp] theorem addEvent_pin (bit : Option (Fin 24)) (code : Byte) (source : BitVec 16) (payload : BitVec 96) (rise : Bool) (forced : Bool) :
    (s.addEvent bit code source payload rise forced).pin = s.pin := rfl
@[simp] theorem addEvent_rcl (bit : Option (Fin 24)) (code : Byte) (source : BitVec 16) (payload : BitVec 96) (rise : Bool) (forced : Bool) :
    (s.addEvent bit code source payload rise forced).rcl = s.rcl := rfl
@[simp] theorem addEvent_elog (bit : Option (Fin 24)) (code : Byte) (source : BitVec 16) (payload : BitVec 96) (rise : Bool) (forced : Bool) :
    (s.addEvent bit code source payload rise forced).elog = s.elog := rfl
@[simp] theorem addEvent_lh (bit : Option (Fin 24)) (code : Byte) (source : BitVec 16) (payload : BitVec 96) (rise : Bool) (forced : Bool) :
    (s.addEvent bit code source payload rise forced).lh = s.lh := rfl
@[simp] theorem addEvent_own (bit : Option (Fin 24)) (code : Byte) (source : BitVec 16) (payload : BitVec 96) (rise : Bool) (forced : Bool) :
    (s.addEvent bit code source payload rise forced).own = s.own := rfl
@[simp] theorem addEvent_tbl (bit : Option (Fin 24)) (code : Byte) (source : BitVec 16) (payload : BitVec 96) (rise : Bool) (forced : Bool) :
    (s.addEvent bit code source payload rise forced).tbl = s.tbl := rfl
@[simp] theorem addEvent_strait (bit : Option (Fin 24)) (code : Byte) (source : BitVec 16) (payload : BitVec 96) (rise : Bool) (forced : Bool) :
    (s.addEvent bit code source payload rise forced).strait = s.strait := rfl
@[simp] theorem addEvent_i3c (bit : Option (Fin 24)) (code : Byte) (source : BitVec 16) (payload : BitVec 96) (rise : Bool) (forced : Bool) :
    (s.addEvent bit code source payload rise forced).i3c = s.i3c := rfl
@[simp] theorem addEvent_link (bit : Option (Fin 24)) (code : Byte) (source : BitVec 16) (payload : BitVec 96) (rise : Bool) (forced : Bool) :
    (s.addEvent bit code source payload rise forced).link = s.link := rfl
@[simp] theorem addEvent_mbox (bit : Option (Fin 24)) (code : Byte) (source : BitVec 16) (payload : BitVec 96) (rise : Bool) (forced : Bool) :
    (s.addEvent bit code source payload rise forced).mbox = s.mbox := rfl
@[simp] theorem addEvent_cad (bit : Option (Fin 24)) (code : Byte) (source : BitVec 16) (payload : BitVec 96) (rise : Bool) (forced : Bool) :
    (s.addEvent bit code source payload rise forced).cad = s.cad := rfl
@[simp] theorem addEvent_plan (bit : Option (Fin 24)) (code : Byte) (source : BitVec 16) (payload : BitVec 96) (rise : Bool) (forced : Bool) :
    (s.addEvent bit code source payload rise forced).plan = s.plan := rfl
@[simp] theorem addEvent_commit (bit : Option (Fin 24)) (code : Byte) (source : BitVec 16) (payload : BitVec 96) (rise : Bool) (forced : Bool) :
    (s.addEvent bit code source payload rise forced).commit = s.commit := rfl
@[simp] theorem addEvent_ferry (bit : Option (Fin 24)) (code : Byte) (source : BitVec 16) (payload : BitVec 96) (rise : Bool) (forced : Bool) :
    (s.addEvent bit code source payload rise forced).ferry = s.ferry := rfl
@[simp] theorem addEvent_t0 (bit : Option (Fin 24)) (code : Byte) (source : BitVec 16) (payload : BitVec 96) (rise : Bool) (forced : Bool) :
    (s.addEvent bit code source payload rise forced).t0 = s.t0 := rfl
@[simp] theorem addEvent_t1 (bit : Option (Fin 24)) (code : Byte) (source : BitVec 16) (payload : BitVec 96) (rise : Bool) (forced : Bool) :
    (s.addEvent bit code source payload rise forced).t1 = s.t1 := rfl
@[simp] theorem addEvent_t2 (bit : Option (Fin 24)) (code : Byte) (source : BitVec 16) (payload : BitVec 96) (rise : Bool) (forced : Bool) :
    (s.addEvent bit code source payload rise forced).t2 = s.t2 := rfl
@[simp] theorem addEvent_tide (bit : Option (Fin 24)) (code : Byte) (source : BitVec 16) (payload : BitVec 96) (rise : Bool) (forced : Bool) :
    (s.addEvent bit code source payload rise forced).tide = s.tide := rfl
@[simp] theorem addEvent_comp (bit : Option (Fin 24)) (code : Byte) (source : BitVec 16) (payload : BitVec 96) (rise : Bool) (forced : Bool) :
    (s.addEvent bit code source payload rise forced).comp = s.comp := rfl
@[simp] theorem addEvent_trav (bit : Option (Fin 24)) (code : Byte) (source : BitVec 16) (payload : BitVec 96) (rise : Bool) (forced : Bool) :
    (s.addEvent bit code source payload rise forced).trav = s.trav := rfl
@[simp] theorem addEvent_store (bit : Option (Fin 24)) (code : Byte) (source : BitVec 16) (payload : BitVec 96) (rise : Bool) (forced : Bool) :
    (s.addEvent bit code source payload rise forced).store = s.store := rfl
@[simp] theorem addEvent_ent (bit : Option (Fin 24)) (code : Byte) (source : BitVec 16) (payload : BitVec 96) (rise : Bool) (forced : Bool) :
    (s.addEvent bit code source payload rise forced).ent = s.ent := rfl
@[simp] theorem addEvent_keys (bit : Option (Fin 24)) (code : Byte) (source : BitVec 16) (payload : BitVec 96) (rise : Bool) (forced : Bool) :
    (s.addEvent bit code source payload rise forced).keys = s.keys := rfl
@[simp] theorem addEvent_stew (bit : Option (Fin 24)) (code : Byte) (source : BitVec 16) (payload : BitVec 96) (rise : Bool) (forced : Bool) :
    (s.addEvent bit code source payload rise forced).stew = s.stew := rfl
@[simp] theorem addEvent_drain (bit : Option (Fin 24)) (code : Byte) (source : BitVec 16) (payload : BitVec 96) (rise : Bool) (forced : Bool) :
    (s.addEvent bit code source payload rise forced).drain = s.drain := rfl
@[simp] theorem addEvent_err (bit : Option (Fin 24)) (code : Byte) (source : BitVec 16) (payload : BitVec 96) (rise : Bool) (forced : Bool) :
    (s.addEvent bit code source payload rise forced).err = s.err := rfl
@[simp] theorem addEvent_arb (bit : Option (Fin 24)) (code : Byte) (source : BitVec 16) (payload : BitVec 96) (rise : Bool) (forced : Bool) :
    (s.addEvent bit code source payload rise forced).arb = s.arb := rfl
@[simp] theorem addEvent_jtag (bit : Option (Fin 24)) (code : Byte) (source : BitVec 16) (payload : BitVec 96) (rise : Bool) (forced : Bool) :
    (s.addEvent bit code source payload rise forced).jtag = s.jtag := rfl
@[simp] theorem addEvent_free (bit : Option (Fin 24)) (code : Byte) (source : BitVec 16) (payload : BitVec 96) (rise : Bool) (forced : Bool) :
    (s.addEvent bit code source payload rise forced).free = s.free := rfl
@[simp] theorem addEvent_resp (bit : Option (Fin 24)) (code : Byte) (source : BitVec 16) (payload : BitVec 96) (rise : Bool) (forced : Bool) :
    (s.addEvent bit code source payload rise forced).resp = s.resp := rfl
@[simp] theorem addEvent_pending (bit : Option (Fin 24)) (code : Byte) (source : BitVec 16) (payload : BitVec 96) (rise : Bool) (forced : Bool) :
    (s.addEvent bit code source payload rise forced).pending = s.pending := rfl

/-! ### raise -/
@[simp] theorem raise_fuse (b : Fin 24) (code : Byte) (source : BitVec 16) (payload : BitVec 96) :
    (s.raise b code source payload).fuse = s.fuse := rfl
@[simp] theorem raise_strap (b : Fin 24) (code : Byte) (source : BitVec 16) (payload : BitVec 96) :
    (s.raise b code source payload).strap = s.strap := rfl
@[simp] theorem raise_clk (b : Fin 24) (code : Byte) (source : BitVec 16) (payload : BitVec 96) : (s.raise b code source payload).clk = s.clk := rfl
@[simp] theorem raise_pwr (b : Fin 24) (code : Byte) (source : BitVec 16) (payload : BitVec 96) : (s.raise b code source payload).pwr = s.pwr := rfl
@[simp] theorem raise_md (b : Fin 24) (code : Byte) (source : BitVec 16) (payload : BitVec 96) : (s.raise b code source payload).md = s.md := rfl
@[simp] theorem raise_pin (b : Fin 24) (code : Byte) (source : BitVec 16) (payload : BitVec 96) : (s.raise b code source payload).pin = s.pin := rfl
@[simp] theorem raise_rcl (b : Fin 24) (code : Byte) (source : BitVec 16) (payload : BitVec 96) : (s.raise b code source payload).rcl = s.rcl := rfl
@[simp] theorem raise_elog (b : Fin 24) (code : Byte) (source : BitVec 16) (payload : BitVec 96) :
    (s.raise b code source payload).elog = s.elog := rfl
@[simp] theorem raise_lh (b : Fin 24) (code : Byte) (source : BitVec 16) (payload : BitVec 96) : (s.raise b code source payload).lh = s.lh := rfl
@[simp] theorem raise_own (b : Fin 24) (code : Byte) (source : BitVec 16) (payload : BitVec 96) : (s.raise b code source payload).own = s.own := rfl
@[simp] theorem raise_tbl (b : Fin 24) (code : Byte) (source : BitVec 16) (payload : BitVec 96) : (s.raise b code source payload).tbl = s.tbl := rfl
@[simp] theorem raise_strait (b : Fin 24) (code : Byte) (source : BitVec 16) (payload : BitVec 96) :
    (s.raise b code source payload).strait = s.strait := rfl
@[simp] theorem raise_i3c (b : Fin 24) (code : Byte) (source : BitVec 16) (payload : BitVec 96) : (s.raise b code source payload).i3c = s.i3c := rfl
@[simp] theorem raise_link (b : Fin 24) (code : Byte) (source : BitVec 16) (payload : BitVec 96) :
    (s.raise b code source payload).link = s.link := rfl
@[simp] theorem raise_mbox (b : Fin 24) (code : Byte) (source : BitVec 16) (payload : BitVec 96) :
    (s.raise b code source payload).mbox = s.mbox := rfl
@[simp] theorem raise_cad (b : Fin 24) (code : Byte) (source : BitVec 16) (payload : BitVec 96) : (s.raise b code source payload).cad = s.cad := rfl
@[simp] theorem raise_plan (b : Fin 24) (code : Byte) (source : BitVec 16) (payload : BitVec 96) :
    (s.raise b code source payload).plan = s.plan := rfl
@[simp] theorem raise_commit (b : Fin 24) (code : Byte) (source : BitVec 16) (payload : BitVec 96) :
    (s.raise b code source payload).commit = s.commit := rfl
@[simp] theorem raise_ferry (b : Fin 24) (code : Byte) (source : BitVec 16) (payload : BitVec 96) :
    (s.raise b code source payload).ferry = s.ferry := rfl
@[simp] theorem raise_t0 (b : Fin 24) (code : Byte) (source : BitVec 16) (payload : BitVec 96) : (s.raise b code source payload).t0 = s.t0 := rfl
@[simp] theorem raise_t1 (b : Fin 24) (code : Byte) (source : BitVec 16) (payload : BitVec 96) : (s.raise b code source payload).t1 = s.t1 := rfl
@[simp] theorem raise_t2 (b : Fin 24) (code : Byte) (source : BitVec 16) (payload : BitVec 96) : (s.raise b code source payload).t2 = s.t2 := rfl
@[simp] theorem raise_tide (b : Fin 24) (code : Byte) (source : BitVec 16) (payload : BitVec 96) :
    (s.raise b code source payload).tide = s.tide := rfl
@[simp] theorem raise_comp (b : Fin 24) (code : Byte) (source : BitVec 16) (payload : BitVec 96) :
    (s.raise b code source payload).comp = s.comp := rfl
@[simp] theorem raise_trav (b : Fin 24) (code : Byte) (source : BitVec 16) (payload : BitVec 96) :
    (s.raise b code source payload).trav = s.trav := rfl
@[simp] theorem raise_store (b : Fin 24) (code : Byte) (source : BitVec 16) (payload : BitVec 96) :
    (s.raise b code source payload).store = s.store := rfl
@[simp] theorem raise_ent (b : Fin 24) (code : Byte) (source : BitVec 16) (payload : BitVec 96) : (s.raise b code source payload).ent = s.ent := rfl
@[simp] theorem raise_keys (b : Fin 24) (code : Byte) (source : BitVec 16) (payload : BitVec 96) :
    (s.raise b code source payload).keys = s.keys := rfl
@[simp] theorem raise_stew (b : Fin 24) (code : Byte) (source : BitVec 16) (payload : BitVec 96) :
    (s.raise b code source payload).stew = s.stew := rfl
@[simp] theorem raise_drain (b : Fin 24) (code : Byte) (source : BitVec 16) (payload : BitVec 96) :
    (s.raise b code source payload).drain = s.drain := rfl
@[simp] theorem raise_err (b : Fin 24) (code : Byte) (source : BitVec 16) (payload : BitVec 96) : (s.raise b code source payload).err = s.err := rfl
@[simp] theorem raise_arb (b : Fin 24) (code : Byte) (source : BitVec 16) (payload : BitVec 96) : (s.raise b code source payload).arb = s.arb := rfl
@[simp] theorem raise_jtag (b : Fin 24) (code : Byte) (source : BitVec 16) (payload : BitVec 96) :
    (s.raise b code source payload).jtag = s.jtag := rfl
@[simp] theorem raise_free (b : Fin 24) (code : Byte) (source : BitVec 16) (payload : BitVec 96) :
    (s.raise b code source payload).free = s.free := rfl
@[simp] theorem raise_resp (b : Fin 24) (code : Byte) (source : BitVec 16) (payload : BitVec 96) :
    (s.raise b code source payload).resp = s.resp := rfl
@[simp] theorem raise_pending (b : Fin 24) (code : Byte) (source : BitVec 16) (payload : BitVec 96) :
    (s.raise b code source payload).pending = s.pending := rfl

/-! ### note -/
@[simp] theorem note_fuse (code : Byte) (source : BitVec 16) (payload : BitVec 96) : (s.note code source payload).fuse = s.fuse := rfl
@[simp] theorem note_strap (code : Byte) (source : BitVec 16) (payload : BitVec 96) : (s.note code source payload).strap = s.strap := rfl
@[simp] theorem note_clk (code : Byte) (source : BitVec 16) (payload : BitVec 96) : (s.note code source payload).clk = s.clk := rfl
@[simp] theorem note_pwr (code : Byte) (source : BitVec 16) (payload : BitVec 96) : (s.note code source payload).pwr = s.pwr := rfl
@[simp] theorem note_md (code : Byte) (source : BitVec 16) (payload : BitVec 96) : (s.note code source payload).md = s.md := rfl
@[simp] theorem note_pin (code : Byte) (source : BitVec 16) (payload : BitVec 96) : (s.note code source payload).pin = s.pin := rfl
@[simp] theorem note_rcl (code : Byte) (source : BitVec 16) (payload : BitVec 96) : (s.note code source payload).rcl = s.rcl := rfl
@[simp] theorem note_elog (code : Byte) (source : BitVec 16) (payload : BitVec 96) : (s.note code source payload).elog = s.elog := rfl
@[simp] theorem note_lh (code : Byte) (source : BitVec 16) (payload : BitVec 96) : (s.note code source payload).lh = s.lh := rfl
@[simp] theorem note_own (code : Byte) (source : BitVec 16) (payload : BitVec 96) : (s.note code source payload).own = s.own := rfl
@[simp] theorem note_tbl (code : Byte) (source : BitVec 16) (payload : BitVec 96) : (s.note code source payload).tbl = s.tbl := rfl
@[simp] theorem note_strait (code : Byte) (source : BitVec 16) (payload : BitVec 96) : (s.note code source payload).strait = s.strait := rfl
@[simp] theorem note_i3c (code : Byte) (source : BitVec 16) (payload : BitVec 96) : (s.note code source payload).i3c = s.i3c := rfl
@[simp] theorem note_link (code : Byte) (source : BitVec 16) (payload : BitVec 96) : (s.note code source payload).link = s.link := rfl
@[simp] theorem note_mbox (code : Byte) (source : BitVec 16) (payload : BitVec 96) : (s.note code source payload).mbox = s.mbox := rfl
@[simp] theorem note_cad (code : Byte) (source : BitVec 16) (payload : BitVec 96) : (s.note code source payload).cad = s.cad := rfl
@[simp] theorem note_plan (code : Byte) (source : BitVec 16) (payload : BitVec 96) : (s.note code source payload).plan = s.plan := rfl
@[simp] theorem note_commit (code : Byte) (source : BitVec 16) (payload : BitVec 96) : (s.note code source payload).commit = s.commit := rfl
@[simp] theorem note_ferry (code : Byte) (source : BitVec 16) (payload : BitVec 96) : (s.note code source payload).ferry = s.ferry := rfl
@[simp] theorem note_t0 (code : Byte) (source : BitVec 16) (payload : BitVec 96) : (s.note code source payload).t0 = s.t0 := rfl
@[simp] theorem note_t1 (code : Byte) (source : BitVec 16) (payload : BitVec 96) : (s.note code source payload).t1 = s.t1 := rfl
@[simp] theorem note_t2 (code : Byte) (source : BitVec 16) (payload : BitVec 96) : (s.note code source payload).t2 = s.t2 := rfl
@[simp] theorem note_tide (code : Byte) (source : BitVec 16) (payload : BitVec 96) : (s.note code source payload).tide = s.tide := rfl
@[simp] theorem note_comp (code : Byte) (source : BitVec 16) (payload : BitVec 96) : (s.note code source payload).comp = s.comp := rfl
@[simp] theorem note_trav (code : Byte) (source : BitVec 16) (payload : BitVec 96) : (s.note code source payload).trav = s.trav := rfl
@[simp] theorem note_store (code : Byte) (source : BitVec 16) (payload : BitVec 96) : (s.note code source payload).store = s.store := rfl
@[simp] theorem note_ent (code : Byte) (source : BitVec 16) (payload : BitVec 96) : (s.note code source payload).ent = s.ent := rfl
@[simp] theorem note_keys (code : Byte) (source : BitVec 16) (payload : BitVec 96) : (s.note code source payload).keys = s.keys := rfl
@[simp] theorem note_stew (code : Byte) (source : BitVec 16) (payload : BitVec 96) : (s.note code source payload).stew = s.stew := rfl
@[simp] theorem note_drain (code : Byte) (source : BitVec 16) (payload : BitVec 96) : (s.note code source payload).drain = s.drain := rfl
@[simp] theorem note_err (code : Byte) (source : BitVec 16) (payload : BitVec 96) : (s.note code source payload).err = s.err := rfl
@[simp] theorem note_arb (code : Byte) (source : BitVec 16) (payload : BitVec 96) : (s.note code source payload).arb = s.arb := rfl
@[simp] theorem note_jtag (code : Byte) (source : BitVec 16) (payload : BitVec 96) : (s.note code source payload).jtag = s.jtag := rfl
@[simp] theorem note_free (code : Byte) (source : BitVec 16) (payload : BitVec 96) : (s.note code source payload).free = s.free := rfl
@[simp] theorem note_resp (code : Byte) (source : BitVec 16) (payload : BitVec 96) : (s.note code source payload).resp = s.resp := rfl
@[simp] theorem note_pending (code : Byte) (source : BitVec 16) (payload : BitVec 96) : (s.note code source payload).pending = s.pending := rfl

/-! ### force -/
@[simp] theorem force_fuse (b : Fin 24) (source : BitVec 16) : (s.force b source).fuse = s.fuse := rfl
@[simp] theorem force_strap (b : Fin 24) (source : BitVec 16) : (s.force b source).strap = s.strap := rfl
@[simp] theorem force_clk (b : Fin 24) (source : BitVec 16) : (s.force b source).clk = s.clk := rfl
@[simp] theorem force_pwr (b : Fin 24) (source : BitVec 16) : (s.force b source).pwr = s.pwr := rfl
@[simp] theorem force_md (b : Fin 24) (source : BitVec 16) : (s.force b source).md = s.md := rfl
@[simp] theorem force_pin (b : Fin 24) (source : BitVec 16) : (s.force b source).pin = s.pin := rfl
@[simp] theorem force_rcl (b : Fin 24) (source : BitVec 16) : (s.force b source).rcl = s.rcl := rfl
@[simp] theorem force_elog (b : Fin 24) (source : BitVec 16) : (s.force b source).elog = s.elog := rfl
@[simp] theorem force_lh (b : Fin 24) (source : BitVec 16) : (s.force b source).lh = s.lh := rfl
@[simp] theorem force_own (b : Fin 24) (source : BitVec 16) : (s.force b source).own = s.own := rfl
@[simp] theorem force_tbl (b : Fin 24) (source : BitVec 16) : (s.force b source).tbl = s.tbl := rfl
@[simp] theorem force_strait (b : Fin 24) (source : BitVec 16) : (s.force b source).strait = s.strait := rfl
@[simp] theorem force_i3c (b : Fin 24) (source : BitVec 16) : (s.force b source).i3c = s.i3c := rfl
@[simp] theorem force_link (b : Fin 24) (source : BitVec 16) : (s.force b source).link = s.link := rfl
@[simp] theorem force_mbox (b : Fin 24) (source : BitVec 16) : (s.force b source).mbox = s.mbox := rfl
@[simp] theorem force_cad (b : Fin 24) (source : BitVec 16) : (s.force b source).cad = s.cad := rfl
@[simp] theorem force_plan (b : Fin 24) (source : BitVec 16) : (s.force b source).plan = s.plan := rfl
@[simp] theorem force_commit (b : Fin 24) (source : BitVec 16) : (s.force b source).commit = s.commit := rfl
@[simp] theorem force_ferry (b : Fin 24) (source : BitVec 16) : (s.force b source).ferry = s.ferry := rfl
@[simp] theorem force_t0 (b : Fin 24) (source : BitVec 16) : (s.force b source).t0 = s.t0 := rfl
@[simp] theorem force_t1 (b : Fin 24) (source : BitVec 16) : (s.force b source).t1 = s.t1 := rfl
@[simp] theorem force_t2 (b : Fin 24) (source : BitVec 16) : (s.force b source).t2 = s.t2 := rfl
@[simp] theorem force_tide (b : Fin 24) (source : BitVec 16) : (s.force b source).tide = s.tide := rfl
@[simp] theorem force_comp (b : Fin 24) (source : BitVec 16) : (s.force b source).comp = s.comp := rfl
@[simp] theorem force_trav (b : Fin 24) (source : BitVec 16) : (s.force b source).trav = s.trav := rfl
@[simp] theorem force_store (b : Fin 24) (source : BitVec 16) : (s.force b source).store = s.store := rfl
@[simp] theorem force_ent (b : Fin 24) (source : BitVec 16) : (s.force b source).ent = s.ent := rfl
@[simp] theorem force_keys (b : Fin 24) (source : BitVec 16) : (s.force b source).keys = s.keys := rfl
@[simp] theorem force_stew (b : Fin 24) (source : BitVec 16) : (s.force b source).stew = s.stew := rfl
@[simp] theorem force_drain (b : Fin 24) (source : BitVec 16) : (s.force b source).drain = s.drain := rfl
@[simp] theorem force_err (b : Fin 24) (source : BitVec 16) : (s.force b source).err = s.err := rfl
@[simp] theorem force_arb (b : Fin 24) (source : BitVec 16) : (s.force b source).arb = s.arb := rfl
@[simp] theorem force_jtag (b : Fin 24) (source : BitVec 16) : (s.force b source).jtag = s.jtag := rfl
@[simp] theorem force_free (b : Fin 24) (source : BitVec 16) : (s.force b source).free = s.free := rfl
@[simp] theorem force_resp (b : Fin 24) (source : BitVec 16) : (s.force b source).resp = s.resp := rfl
@[simp] theorem force_pending (b : Fin 24) (source : BitVec 16) : (s.force b source).pending = s.pending := rfl

/-! ### addTrace -/
@[simp] theorem addTrace_fuse (type : Byte) (source : BitVec 16) (payload : BitVec 128) : (s.addTrace type source payload).fuse = s.fuse := rfl
@[simp] theorem addTrace_strap (type : Byte) (source : BitVec 16) (payload : BitVec 128) : (s.addTrace type source payload).strap = s.strap := rfl
@[simp] theorem addTrace_clk (type : Byte) (source : BitVec 16) (payload : BitVec 128) : (s.addTrace type source payload).clk = s.clk := rfl
@[simp] theorem addTrace_pwr (type : Byte) (source : BitVec 16) (payload : BitVec 128) : (s.addTrace type source payload).pwr = s.pwr := rfl
@[simp] theorem addTrace_md (type : Byte) (source : BitVec 16) (payload : BitVec 128) : (s.addTrace type source payload).md = s.md := rfl
@[simp] theorem addTrace_pin (type : Byte) (source : BitVec 16) (payload : BitVec 128) : (s.addTrace type source payload).pin = s.pin := rfl
@[simp] theorem addTrace_rcl (type : Byte) (source : BitVec 16) (payload : BitVec 128) : (s.addTrace type source payload).rcl = s.rcl := rfl
@[simp] theorem addTrace_elog (type : Byte) (source : BitVec 16) (payload : BitVec 128) : (s.addTrace type source payload).elog = s.elog := rfl
@[simp] theorem addTrace_lh (type : Byte) (source : BitVec 16) (payload : BitVec 128) : (s.addTrace type source payload).lh = s.lh := rfl
@[simp] theorem addTrace_own (type : Byte) (source : BitVec 16) (payload : BitVec 128) : (s.addTrace type source payload).own = s.own := rfl
@[simp] theorem addTrace_tbl (type : Byte) (source : BitVec 16) (payload : BitVec 128) : (s.addTrace type source payload).tbl = s.tbl := rfl
@[simp] theorem addTrace_strait (type : Byte) (source : BitVec 16) (payload : BitVec 128) : (s.addTrace type source payload).strait = s.strait := rfl
@[simp] theorem addTrace_i3c (type : Byte) (source : BitVec 16) (payload : BitVec 128) : (s.addTrace type source payload).i3c = s.i3c := rfl
@[simp] theorem addTrace_link (type : Byte) (source : BitVec 16) (payload : BitVec 128) : (s.addTrace type source payload).link = s.link := rfl
@[simp] theorem addTrace_mbox (type : Byte) (source : BitVec 16) (payload : BitVec 128) : (s.addTrace type source payload).mbox = s.mbox := rfl
@[simp] theorem addTrace_cad (type : Byte) (source : BitVec 16) (payload : BitVec 128) : (s.addTrace type source payload).cad = s.cad := rfl
@[simp] theorem addTrace_plan (type : Byte) (source : BitVec 16) (payload : BitVec 128) : (s.addTrace type source payload).plan = s.plan := rfl
@[simp] theorem addTrace_commit (type : Byte) (source : BitVec 16) (payload : BitVec 128) : (s.addTrace type source payload).commit = s.commit := rfl
@[simp] theorem addTrace_ferry (type : Byte) (source : BitVec 16) (payload : BitVec 128) : (s.addTrace type source payload).ferry = s.ferry := rfl
@[simp] theorem addTrace_t0 (type : Byte) (source : BitVec 16) (payload : BitVec 128) : (s.addTrace type source payload).t0 = s.t0 := rfl
@[simp] theorem addTrace_t1 (type : Byte) (source : BitVec 16) (payload : BitVec 128) : (s.addTrace type source payload).t1 = s.t1 := rfl
@[simp] theorem addTrace_t2 (type : Byte) (source : BitVec 16) (payload : BitVec 128) : (s.addTrace type source payload).t2 = s.t2 := rfl
@[simp] theorem addTrace_tide (type : Byte) (source : BitVec 16) (payload : BitVec 128) : (s.addTrace type source payload).tide = s.tide := rfl
@[simp] theorem addTrace_comp (type : Byte) (source : BitVec 16) (payload : BitVec 128) : (s.addTrace type source payload).comp = s.comp := rfl
@[simp] theorem addTrace_trav (type : Byte) (source : BitVec 16) (payload : BitVec 128) : (s.addTrace type source payload).trav = s.trav := rfl
@[simp] theorem addTrace_store (type : Byte) (source : BitVec 16) (payload : BitVec 128) : (s.addTrace type source payload).store = s.store := rfl
@[simp] theorem addTrace_ent (type : Byte) (source : BitVec 16) (payload : BitVec 128) : (s.addTrace type source payload).ent = s.ent := rfl
@[simp] theorem addTrace_keys (type : Byte) (source : BitVec 16) (payload : BitVec 128) : (s.addTrace type source payload).keys = s.keys := rfl
@[simp] theorem addTrace_stew (type : Byte) (source : BitVec 16) (payload : BitVec 128) : (s.addTrace type source payload).stew = s.stew := rfl
@[simp] theorem addTrace_drain (type : Byte) (source : BitVec 16) (payload : BitVec 128) : (s.addTrace type source payload).drain = s.drain := rfl
@[simp] theorem addTrace_err (type : Byte) (source : BitVec 16) (payload : BitVec 128) : (s.addTrace type source payload).err = s.err := rfl
@[simp] theorem addTrace_arb (type : Byte) (source : BitVec 16) (payload : BitVec 128) : (s.addTrace type source payload).arb = s.arb := rfl
@[simp] theorem addTrace_jtag (type : Byte) (source : BitVec 16) (payload : BitVec 128) : (s.addTrace type source payload).jtag = s.jtag := rfl
@[simp] theorem addTrace_free (type : Byte) (source : BitVec 16) (payload : BitVec 128) : (s.addTrace type source payload).free = s.free := rfl
@[simp] theorem addTrace_resp (type : Byte) (source : BitVec 16) (payload : BitVec 128) : (s.addTrace type source payload).resp = s.resp := rfl
@[simp] theorem addTrace_pending (type : Byte) (source : BitVec 16) (payload : BitVec 128) :
    (s.addTrace type source payload).pending = s.pending := rfl

/-! ### bumpFree -/
@[simp] theorem bumpFree_fuse : s.bumpFree.fuse = s.fuse := rfl
@[simp] theorem bumpFree_strap : s.bumpFree.strap = s.strap := rfl
@[simp] theorem bumpFree_clk : s.bumpFree.clk = s.clk := rfl
@[simp] theorem bumpFree_pwr : s.bumpFree.pwr = s.pwr := rfl
@[simp] theorem bumpFree_md : s.bumpFree.md = s.md := rfl
@[simp] theorem bumpFree_pin : s.bumpFree.pin = s.pin := rfl
@[simp] theorem bumpFree_rcl : s.bumpFree.rcl = s.rcl := rfl
@[simp] theorem bumpFree_evt : s.bumpFree.evt = s.evt := rfl
@[simp] theorem bumpFree_elog : s.bumpFree.elog = s.elog := rfl
@[simp] theorem bumpFree_lh : s.bumpFree.lh = s.lh := rfl
@[simp] theorem bumpFree_own : s.bumpFree.own = s.own := rfl
@[simp] theorem bumpFree_tbl : s.bumpFree.tbl = s.tbl := rfl
@[simp] theorem bumpFree_strait : s.bumpFree.strait = s.strait := rfl
@[simp] theorem bumpFree_i3c : s.bumpFree.i3c = s.i3c := rfl
@[simp] theorem bumpFree_link : s.bumpFree.link = s.link := rfl
@[simp] theorem bumpFree_mbox : s.bumpFree.mbox = s.mbox := rfl
@[simp] theorem bumpFree_cad : s.bumpFree.cad = s.cad := rfl
@[simp] theorem bumpFree_plan : s.bumpFree.plan = s.plan := rfl
@[simp] theorem bumpFree_commit : s.bumpFree.commit = s.commit := rfl
@[simp] theorem bumpFree_ferry : s.bumpFree.ferry = s.ferry := rfl
@[simp] theorem bumpFree_t0 : s.bumpFree.t0 = s.t0 := rfl
@[simp] theorem bumpFree_t1 : s.bumpFree.t1 = s.t1 := rfl
@[simp] theorem bumpFree_t2 : s.bumpFree.t2 = s.t2 := rfl
@[simp] theorem bumpFree_tide : s.bumpFree.tide = s.tide := rfl
@[simp] theorem bumpFree_comp : s.bumpFree.comp = s.comp := rfl
@[simp] theorem bumpFree_trav : s.bumpFree.trav = s.trav := rfl
@[simp] theorem bumpFree_store : s.bumpFree.store = s.store := rfl
@[simp] theorem bumpFree_ent : s.bumpFree.ent = s.ent := rfl
@[simp] theorem bumpFree_keys : s.bumpFree.keys = s.keys := rfl
@[simp] theorem bumpFree_stew : s.bumpFree.stew = s.stew := rfl
@[simp] theorem bumpFree_drain : s.bumpFree.drain = s.drain := rfl
@[simp] theorem bumpFree_err : s.bumpFree.err = s.err := rfl
@[simp] theorem bumpFree_arb : s.bumpFree.arb = s.arb := rfl
@[simp] theorem bumpFree_jtag : s.bumpFree.jtag = s.jtag := rfl
@[simp] theorem bumpFree_resp : s.bumpFree.resp = s.resp := rfl
@[simp] theorem bumpFree_pending : s.bumpFree.pending = s.pending := rfl

/-! ### setPort -/
@[simp] theorem setPort_fuse (p : Port) (x : PortSt) : (s.setPort p x).fuse = s.fuse := rfl
@[simp] theorem setPort_strap (p : Port) (x : PortSt) : (s.setPort p x).strap = s.strap := rfl
@[simp] theorem setPort_clk (p : Port) (x : PortSt) : (s.setPort p x).clk = s.clk := rfl
@[simp] theorem setPort_pwr (p : Port) (x : PortSt) : (s.setPort p x).pwr = s.pwr := rfl
@[simp] theorem setPort_md (p : Port) (x : PortSt) : (s.setPort p x).md = s.md := rfl
@[simp] theorem setPort_pin (p : Port) (x : PortSt) : (s.setPort p x).pin = s.pin := rfl
@[simp] theorem setPort_rcl (p : Port) (x : PortSt) : (s.setPort p x).rcl = s.rcl := rfl
@[simp] theorem setPort_evt (p : Port) (x : PortSt) : (s.setPort p x).evt = s.evt := rfl
@[simp] theorem setPort_elog (p : Port) (x : PortSt) : (s.setPort p x).elog = s.elog := rfl
@[simp] theorem setPort_lh (p : Port) (x : PortSt) : (s.setPort p x).lh = s.lh := rfl
@[simp] theorem setPort_own (p : Port) (x : PortSt) : (s.setPort p x).own = s.own := rfl
@[simp] theorem setPort_tbl (p : Port) (x : PortSt) : (s.setPort p x).tbl = s.tbl := rfl
@[simp] theorem setPort_strait (p : Port) (x : PortSt) : (s.setPort p x).strait = s.strait := rfl
@[simp] theorem setPort_i3c (p : Port) (x : PortSt) : (s.setPort p x).i3c = s.i3c := rfl
@[simp] theorem setPort_mbox (p : Port) (x : PortSt) : (s.setPort p x).mbox = s.mbox := rfl
@[simp] theorem setPort_cad (p : Port) (x : PortSt) : (s.setPort p x).cad = s.cad := rfl
@[simp] theorem setPort_plan (p : Port) (x : PortSt) : (s.setPort p x).plan = s.plan := rfl
@[simp] theorem setPort_commit (p : Port) (x : PortSt) : (s.setPort p x).commit = s.commit := rfl
@[simp] theorem setPort_ferry (p : Port) (x : PortSt) : (s.setPort p x).ferry = s.ferry := rfl
@[simp] theorem setPort_t0 (p : Port) (x : PortSt) : (s.setPort p x).t0 = s.t0 := rfl
@[simp] theorem setPort_t1 (p : Port) (x : PortSt) : (s.setPort p x).t1 = s.t1 := rfl
@[simp] theorem setPort_t2 (p : Port) (x : PortSt) : (s.setPort p x).t2 = s.t2 := rfl
@[simp] theorem setPort_tide (p : Port) (x : PortSt) : (s.setPort p x).tide = s.tide := rfl
@[simp] theorem setPort_comp (p : Port) (x : PortSt) : (s.setPort p x).comp = s.comp := rfl
@[simp] theorem setPort_trav (p : Port) (x : PortSt) : (s.setPort p x).trav = s.trav := rfl
@[simp] theorem setPort_store (p : Port) (x : PortSt) : (s.setPort p x).store = s.store := rfl
@[simp] theorem setPort_ent (p : Port) (x : PortSt) : (s.setPort p x).ent = s.ent := rfl
@[simp] theorem setPort_keys (p : Port) (x : PortSt) : (s.setPort p x).keys = s.keys := rfl
@[simp] theorem setPort_stew (p : Port) (x : PortSt) : (s.setPort p x).stew = s.stew := rfl
@[simp] theorem setPort_drain (p : Port) (x : PortSt) : (s.setPort p x).drain = s.drain := rfl
@[simp] theorem setPort_err (p : Port) (x : PortSt) : (s.setPort p x).err = s.err := rfl
@[simp] theorem setPort_arb (p : Port) (x : PortSt) : (s.setPort p x).arb = s.arb := rfl
@[simp] theorem setPort_jtag (p : Port) (x : PortSt) : (s.setPort p x).jtag = s.jtag := rfl
@[simp] theorem setPort_free (p : Port) (x : PortSt) : (s.setPort p x).free = s.free := rfl
@[simp] theorem setPort_resp (p : Port) (x : PortSt) : (s.setPort p x).resp = s.resp := rfl
@[simp] theorem setPort_pending (p : Port) (x : PortSt) : (s.setPort p x).pending = s.pending := rfl

/-! ### setChan -/
@[simp] theorem setChan_fuse (c : Nat) (x : Chan) : (s.setChan c x).fuse = s.fuse := rfl
@[simp] theorem setChan_strap (c : Nat) (x : Chan) : (s.setChan c x).strap = s.strap := rfl
@[simp] theorem setChan_clk (c : Nat) (x : Chan) : (s.setChan c x).clk = s.clk := rfl
@[simp] theorem setChan_pwr (c : Nat) (x : Chan) : (s.setChan c x).pwr = s.pwr := rfl
@[simp] theorem setChan_md (c : Nat) (x : Chan) : (s.setChan c x).md = s.md := rfl
@[simp] theorem setChan_pin (c : Nat) (x : Chan) : (s.setChan c x).pin = s.pin := rfl
@[simp] theorem setChan_rcl (c : Nat) (x : Chan) : (s.setChan c x).rcl = s.rcl := rfl
@[simp] theorem setChan_evt (c : Nat) (x : Chan) : (s.setChan c x).evt = s.evt := rfl
@[simp] theorem setChan_elog (c : Nat) (x : Chan) : (s.setChan c x).elog = s.elog := rfl
@[simp] theorem setChan_lh (c : Nat) (x : Chan) : (s.setChan c x).lh = s.lh := rfl
@[simp] theorem setChan_own (c : Nat) (x : Chan) : (s.setChan c x).own = s.own := rfl
@[simp] theorem setChan_tbl (c : Nat) (x : Chan) : (s.setChan c x).tbl = s.tbl := rfl
@[simp] theorem setChan_strait (c : Nat) (x : Chan) : (s.setChan c x).strait = s.strait := rfl
@[simp] theorem setChan_i3c (c : Nat) (x : Chan) : (s.setChan c x).i3c = s.i3c := rfl
@[simp] theorem setChan_link (c : Nat) (x : Chan) : (s.setChan c x).link = s.link := rfl
@[simp] theorem setChan_mbox (c : Nat) (x : Chan) : (s.setChan c x).mbox = s.mbox := rfl
@[simp] theorem setChan_cad (c : Nat) (x : Chan) : (s.setChan c x).cad = s.cad := rfl
@[simp] theorem setChan_plan (c : Nat) (x : Chan) : (s.setChan c x).plan = s.plan := rfl
@[simp] theorem setChan_commit (c : Nat) (x : Chan) : (s.setChan c x).commit = s.commit := rfl
@[simp] theorem setChan_t0 (c : Nat) (x : Chan) : (s.setChan c x).t0 = s.t0 := rfl
@[simp] theorem setChan_t1 (c : Nat) (x : Chan) : (s.setChan c x).t1 = s.t1 := rfl
@[simp] theorem setChan_t2 (c : Nat) (x : Chan) : (s.setChan c x).t2 = s.t2 := rfl
@[simp] theorem setChan_tide (c : Nat) (x : Chan) : (s.setChan c x).tide = s.tide := rfl
@[simp] theorem setChan_comp (c : Nat) (x : Chan) : (s.setChan c x).comp = s.comp := rfl
@[simp] theorem setChan_trav (c : Nat) (x : Chan) : (s.setChan c x).trav = s.trav := rfl
@[simp] theorem setChan_store (c : Nat) (x : Chan) : (s.setChan c x).store = s.store := rfl
@[simp] theorem setChan_ent (c : Nat) (x : Chan) : (s.setChan c x).ent = s.ent := rfl
@[simp] theorem setChan_keys (c : Nat) (x : Chan) : (s.setChan c x).keys = s.keys := rfl
@[simp] theorem setChan_stew (c : Nat) (x : Chan) : (s.setChan c x).stew = s.stew := rfl
@[simp] theorem setChan_drain (c : Nat) (x : Chan) : (s.setChan c x).drain = s.drain := rfl
@[simp] theorem setChan_err (c : Nat) (x : Chan) : (s.setChan c x).err = s.err := rfl
@[simp] theorem setChan_arb (c : Nat) (x : Chan) : (s.setChan c x).arb = s.arb := rfl
@[simp] theorem setChan_jtag (c : Nat) (x : Chan) : (s.setChan c x).jtag = s.jtag := rfl
@[simp] theorem setChan_free (c : Nat) (x : Chan) : (s.setChan c x).free = s.free := rfl
@[simp] theorem setChan_resp (c : Nat) (x : Chan) : (s.setChan c x).resp = s.resp := rfl
@[simp] theorem setChan_pending (c : Nat) (x : Chan) : (s.setChan c x).pending = s.pending := rfl

/-! ### setSlot -/
@[simp] theorem setSlot_fuse (x : Slot) : (s.setSlot x).fuse = s.fuse := rfl
@[simp] theorem setSlot_strap (x : Slot) : (s.setSlot x).strap = s.strap := rfl
@[simp] theorem setSlot_clk (x : Slot) : (s.setSlot x).clk = s.clk := rfl
@[simp] theorem setSlot_pwr (x : Slot) : (s.setSlot x).pwr = s.pwr := rfl
@[simp] theorem setSlot_md (x : Slot) : (s.setSlot x).md = s.md := rfl
@[simp] theorem setSlot_pin (x : Slot) : (s.setSlot x).pin = s.pin := rfl
@[simp] theorem setSlot_rcl (x : Slot) : (s.setSlot x).rcl = s.rcl := rfl
@[simp] theorem setSlot_evt (x : Slot) : (s.setSlot x).evt = s.evt := rfl
@[simp] theorem setSlot_elog (x : Slot) : (s.setSlot x).elog = s.elog := rfl
@[simp] theorem setSlot_lh (x : Slot) : (s.setSlot x).lh = s.lh := rfl
@[simp] theorem setSlot_own (x : Slot) : (s.setSlot x).own = s.own := rfl
@[simp] theorem setSlot_tbl (x : Slot) : (s.setSlot x).tbl = s.tbl := rfl
@[simp] theorem setSlot_strait (x : Slot) : (s.setSlot x).strait = s.strait := rfl
@[simp] theorem setSlot_i3c (x : Slot) : (s.setSlot x).i3c = s.i3c := rfl
@[simp] theorem setSlot_link (x : Slot) : (s.setSlot x).link = s.link := rfl
@[simp] theorem setSlot_mbox (x : Slot) : (s.setSlot x).mbox = s.mbox := rfl
@[simp] theorem setSlot_cad (x : Slot) : (s.setSlot x).cad = s.cad := rfl
@[simp] theorem setSlot_plan (x : Slot) : (s.setSlot x).plan = s.plan := rfl
@[simp] theorem setSlot_commit (x : Slot) : (s.setSlot x).commit = s.commit := rfl
@[simp] theorem setSlot_ferry (x : Slot) : (s.setSlot x).ferry = s.ferry := rfl
@[simp] theorem setSlot_t1 (x : Slot) : (s.setSlot x).t1 = s.t1 := rfl
@[simp] theorem setSlot_t2 (x : Slot) : (s.setSlot x).t2 = s.t2 := rfl
@[simp] theorem setSlot_tide (x : Slot) : (s.setSlot x).tide = s.tide := rfl
@[simp] theorem setSlot_comp (x : Slot) : (s.setSlot x).comp = s.comp := rfl
@[simp] theorem setSlot_trav (x : Slot) : (s.setSlot x).trav = s.trav := rfl
@[simp] theorem setSlot_store (x : Slot) : (s.setSlot x).store = s.store := rfl
@[simp] theorem setSlot_ent (x : Slot) : (s.setSlot x).ent = s.ent := rfl
@[simp] theorem setSlot_keys (x : Slot) : (s.setSlot x).keys = s.keys := rfl
@[simp] theorem setSlot_stew (x : Slot) : (s.setSlot x).stew = s.stew := rfl
@[simp] theorem setSlot_drain (x : Slot) : (s.setSlot x).drain = s.drain := rfl
@[simp] theorem setSlot_err (x : Slot) : (s.setSlot x).err = s.err := rfl
@[simp] theorem setSlot_arb (x : Slot) : (s.setSlot x).arb = s.arb := rfl
@[simp] theorem setSlot_jtag (x : Slot) : (s.setSlot x).jtag = s.jtag := rfl
@[simp] theorem setSlot_free (x : Slot) : (s.setSlot x).free = s.free := rfl
@[simp] theorem setSlot_resp (x : Slot) : (s.setSlot x).resp = s.resp := rfl
@[simp] theorem setSlot_pending (x : Slot) : (s.setSlot x).pending = s.pending := rfl

/-! ### freeSlot -/
@[simp] theorem freeSlot_fuse (idx : Nat) : (s.freeSlot idx).fuse = s.fuse := rfl
@[simp] theorem freeSlot_strap (idx : Nat) : (s.freeSlot idx).strap = s.strap := rfl
@[simp] theorem freeSlot_clk (idx : Nat) : (s.freeSlot idx).clk = s.clk := rfl
@[simp] theorem freeSlot_pwr (idx : Nat) : (s.freeSlot idx).pwr = s.pwr := rfl
@[simp] theorem freeSlot_md (idx : Nat) : (s.freeSlot idx).md = s.md := rfl
@[simp] theorem freeSlot_pin (idx : Nat) : (s.freeSlot idx).pin = s.pin := rfl
@[simp] theorem freeSlot_rcl (idx : Nat) : (s.freeSlot idx).rcl = s.rcl := rfl
@[simp] theorem freeSlot_evt (idx : Nat) : (s.freeSlot idx).evt = s.evt := rfl
@[simp] theorem freeSlot_elog (idx : Nat) : (s.freeSlot idx).elog = s.elog := rfl
@[simp] theorem freeSlot_lh (idx : Nat) : (s.freeSlot idx).lh = s.lh := rfl
@[simp] theorem freeSlot_own (idx : Nat) : (s.freeSlot idx).own = s.own := rfl
@[simp] theorem freeSlot_tbl (idx : Nat) : (s.freeSlot idx).tbl = s.tbl := rfl
@[simp] theorem freeSlot_strait (idx : Nat) : (s.freeSlot idx).strait = s.strait := rfl
@[simp] theorem freeSlot_i3c (idx : Nat) : (s.freeSlot idx).i3c = s.i3c := rfl
@[simp] theorem freeSlot_link (idx : Nat) : (s.freeSlot idx).link = s.link := rfl
@[simp] theorem freeSlot_mbox (idx : Nat) : (s.freeSlot idx).mbox = s.mbox := rfl
@[simp] theorem freeSlot_cad (idx : Nat) : (s.freeSlot idx).cad = s.cad := rfl
@[simp] theorem freeSlot_plan (idx : Nat) : (s.freeSlot idx).plan = s.plan := rfl
@[simp] theorem freeSlot_commit (idx : Nat) : (s.freeSlot idx).commit = s.commit := rfl
@[simp] theorem freeSlot_ferry (idx : Nat) : (s.freeSlot idx).ferry = s.ferry := rfl
@[simp] theorem freeSlot_t1 (idx : Nat) : (s.freeSlot idx).t1 = s.t1 := rfl
@[simp] theorem freeSlot_t2 (idx : Nat) : (s.freeSlot idx).t2 = s.t2 := rfl
@[simp] theorem freeSlot_tide (idx : Nat) : (s.freeSlot idx).tide = s.tide := rfl
@[simp] theorem freeSlot_comp (idx : Nat) : (s.freeSlot idx).comp = s.comp := rfl
@[simp] theorem freeSlot_trav (idx : Nat) : (s.freeSlot idx).trav = s.trav := rfl
@[simp] theorem freeSlot_store (idx : Nat) : (s.freeSlot idx).store = s.store := rfl
@[simp] theorem freeSlot_ent (idx : Nat) : (s.freeSlot idx).ent = s.ent := rfl
@[simp] theorem freeSlot_keys (idx : Nat) : (s.freeSlot idx).keys = s.keys := rfl
@[simp] theorem freeSlot_stew (idx : Nat) : (s.freeSlot idx).stew = s.stew := rfl
@[simp] theorem freeSlot_drain (idx : Nat) : (s.freeSlot idx).drain = s.drain := rfl
@[simp] theorem freeSlot_err (idx : Nat) : (s.freeSlot idx).err = s.err := rfl
@[simp] theorem freeSlot_arb (idx : Nat) : (s.freeSlot idx).arb = s.arb := rfl
@[simp] theorem freeSlot_jtag (idx : Nat) : (s.freeSlot idx).jtag = s.jtag := rfl
@[simp] theorem freeSlot_free (idx : Nat) : (s.freeSlot idx).free = s.free := rfl
@[simp] theorem freeSlot_resp (idx : Nat) : (s.freeSlot idx).resp = s.resp := rfl
@[simp] theorem freeSlot_pending (idx : Nat) : (s.freeSlot idx).pending = s.pending := rfl

/-! ### setBank -/
@[simp] theorem setBank_fuse (b : Nat) (f : BankErr → BankErr) : (s.setBank b f).fuse = s.fuse := rfl
@[simp] theorem setBank_strap (b : Nat) (f : BankErr → BankErr) : (s.setBank b f).strap = s.strap := rfl
@[simp] theorem setBank_clk (b : Nat) (f : BankErr → BankErr) : (s.setBank b f).clk = s.clk := rfl
@[simp] theorem setBank_pwr (b : Nat) (f : BankErr → BankErr) : (s.setBank b f).pwr = s.pwr := rfl
@[simp] theorem setBank_md (b : Nat) (f : BankErr → BankErr) : (s.setBank b f).md = s.md := rfl
@[simp] theorem setBank_pin (b : Nat) (f : BankErr → BankErr) : (s.setBank b f).pin = s.pin := rfl
@[simp] theorem setBank_rcl (b : Nat) (f : BankErr → BankErr) : (s.setBank b f).rcl = s.rcl := rfl
@[simp] theorem setBank_elog (b : Nat) (f : BankErr → BankErr) : (s.setBank b f).elog = s.elog := rfl
@[simp] theorem setBank_lh (b : Nat) (f : BankErr → BankErr) : (s.setBank b f).lh = s.lh := rfl
@[simp] theorem setBank_own (b : Nat) (f : BankErr → BankErr) : (s.setBank b f).own = s.own := rfl
@[simp] theorem setBank_tbl (b : Nat) (f : BankErr → BankErr) : (s.setBank b f).tbl = s.tbl := rfl
@[simp] theorem setBank_strait (b : Nat) (f : BankErr → BankErr) : (s.setBank b f).strait = s.strait := rfl
@[simp] theorem setBank_i3c (b : Nat) (f : BankErr → BankErr) : (s.setBank b f).i3c = s.i3c := rfl
@[simp] theorem setBank_link (b : Nat) (f : BankErr → BankErr) : (s.setBank b f).link = s.link := rfl
@[simp] theorem setBank_mbox (b : Nat) (f : BankErr → BankErr) : (s.setBank b f).mbox = s.mbox := rfl
@[simp] theorem setBank_cad (b : Nat) (f : BankErr → BankErr) : (s.setBank b f).cad = s.cad := rfl
@[simp] theorem setBank_plan (b : Nat) (f : BankErr → BankErr) : (s.setBank b f).plan = s.plan := rfl
@[simp] theorem setBank_commit (b : Nat) (f : BankErr → BankErr) : (s.setBank b f).commit = s.commit := rfl
@[simp] theorem setBank_ferry (b : Nat) (f : BankErr → BankErr) : (s.setBank b f).ferry = s.ferry := rfl
@[simp] theorem setBank_t0 (b : Nat) (f : BankErr → BankErr) : (s.setBank b f).t0 = s.t0 := rfl
@[simp] theorem setBank_t1 (b : Nat) (f : BankErr → BankErr) : (s.setBank b f).t1 = s.t1 := rfl
@[simp] theorem setBank_t2 (b : Nat) (f : BankErr → BankErr) : (s.setBank b f).t2 = s.t2 := rfl
@[simp] theorem setBank_tide (b : Nat) (f : BankErr → BankErr) : (s.setBank b f).tide = s.tide := rfl
@[simp] theorem setBank_comp (b : Nat) (f : BankErr → BankErr) : (s.setBank b f).comp = s.comp := rfl
@[simp] theorem setBank_trav (b : Nat) (f : BankErr → BankErr) : (s.setBank b f).trav = s.trav := rfl
@[simp] theorem setBank_store (b : Nat) (f : BankErr → BankErr) : (s.setBank b f).store = s.store := rfl
@[simp] theorem setBank_ent (b : Nat) (f : BankErr → BankErr) : (s.setBank b f).ent = s.ent := rfl
@[simp] theorem setBank_keys (b : Nat) (f : BankErr → BankErr) : (s.setBank b f).keys = s.keys := rfl
@[simp] theorem setBank_stew (b : Nat) (f : BankErr → BankErr) : (s.setBank b f).stew = s.stew := rfl
@[simp] theorem setBank_drain (b : Nat) (f : BankErr → BankErr) : (s.setBank b f).drain = s.drain := rfl
@[simp] theorem setBank_arb (b : Nat) (f : BankErr → BankErr) : (s.setBank b f).arb = s.arb := rfl
@[simp] theorem setBank_jtag (b : Nat) (f : BankErr → BankErr) : (s.setBank b f).jtag = s.jtag := rfl
@[simp] theorem setBank_free (b : Nat) (f : BankErr → BankErr) : (s.setBank b f).free = s.free := rfl
@[simp] theorem setBank_resp (b : Nat) (f : BankErr → BankErr) : (s.setBank b f).resp = s.resp := rfl
@[simp] theorem setBank_pending (b : Nat) (f : BankErr → BankErr) : (s.setBank b f).pending = s.pending := rfl

/-! ### setWear -/
@[simp] theorem setWear_fuse (b : Nat) (f : WearCnt → WearCnt) : (s.setWear b f).fuse = s.fuse := rfl
@[simp] theorem setWear_strap (b : Nat) (f : WearCnt → WearCnt) : (s.setWear b f).strap = s.strap := rfl
@[simp] theorem setWear_clk (b : Nat) (f : WearCnt → WearCnt) : (s.setWear b f).clk = s.clk := rfl
@[simp] theorem setWear_pwr (b : Nat) (f : WearCnt → WearCnt) : (s.setWear b f).pwr = s.pwr := rfl
@[simp] theorem setWear_md (b : Nat) (f : WearCnt → WearCnt) : (s.setWear b f).md = s.md := rfl
@[simp] theorem setWear_pin (b : Nat) (f : WearCnt → WearCnt) : (s.setWear b f).pin = s.pin := rfl
@[simp] theorem setWear_rcl (b : Nat) (f : WearCnt → WearCnt) : (s.setWear b f).rcl = s.rcl := rfl
@[simp] theorem setWear_evt (b : Nat) (f : WearCnt → WearCnt) : (s.setWear b f).evt = s.evt := rfl
@[simp] theorem setWear_elog (b : Nat) (f : WearCnt → WearCnt) : (s.setWear b f).elog = s.elog := rfl
@[simp] theorem setWear_lh (b : Nat) (f : WearCnt → WearCnt) : (s.setWear b f).lh = s.lh := rfl
@[simp] theorem setWear_own (b : Nat) (f : WearCnt → WearCnt) : (s.setWear b f).own = s.own := rfl
@[simp] theorem setWear_tbl (b : Nat) (f : WearCnt → WearCnt) : (s.setWear b f).tbl = s.tbl := rfl
@[simp] theorem setWear_strait (b : Nat) (f : WearCnt → WearCnt) : (s.setWear b f).strait = s.strait := rfl
@[simp] theorem setWear_i3c (b : Nat) (f : WearCnt → WearCnt) : (s.setWear b f).i3c = s.i3c := rfl
@[simp] theorem setWear_link (b : Nat) (f : WearCnt → WearCnt) : (s.setWear b f).link = s.link := rfl
@[simp] theorem setWear_mbox (b : Nat) (f : WearCnt → WearCnt) : (s.setWear b f).mbox = s.mbox := rfl
@[simp] theorem setWear_cad (b : Nat) (f : WearCnt → WearCnt) : (s.setWear b f).cad = s.cad := rfl
@[simp] theorem setWear_plan (b : Nat) (f : WearCnt → WearCnt) : (s.setWear b f).plan = s.plan := rfl
@[simp] theorem setWear_commit (b : Nat) (f : WearCnt → WearCnt) : (s.setWear b f).commit = s.commit := rfl
@[simp] theorem setWear_ferry (b : Nat) (f : WearCnt → WearCnt) : (s.setWear b f).ferry = s.ferry := rfl
@[simp] theorem setWear_t0 (b : Nat) (f : WearCnt → WearCnt) : (s.setWear b f).t0 = s.t0 := rfl
@[simp] theorem setWear_t1 (b : Nat) (f : WearCnt → WearCnt) : (s.setWear b f).t1 = s.t1 := rfl
@[simp] theorem setWear_t2 (b : Nat) (f : WearCnt → WearCnt) : (s.setWear b f).t2 = s.t2 := rfl
@[simp] theorem setWear_tide (b : Nat) (f : WearCnt → WearCnt) : (s.setWear b f).tide = s.tide := rfl
@[simp] theorem setWear_comp (b : Nat) (f : WearCnt → WearCnt) : (s.setWear b f).comp = s.comp := rfl
@[simp] theorem setWear_trav (b : Nat) (f : WearCnt → WearCnt) : (s.setWear b f).trav = s.trav := rfl
@[simp] theorem setWear_store (b : Nat) (f : WearCnt → WearCnt) : (s.setWear b f).store = s.store := rfl
@[simp] theorem setWear_ent (b : Nat) (f : WearCnt → WearCnt) : (s.setWear b f).ent = s.ent := rfl
@[simp] theorem setWear_keys (b : Nat) (f : WearCnt → WearCnt) : (s.setWear b f).keys = s.keys := rfl
@[simp] theorem setWear_stew (b : Nat) (f : WearCnt → WearCnt) : (s.setWear b f).stew = s.stew := rfl
@[simp] theorem setWear_drain (b : Nat) (f : WearCnt → WearCnt) : (s.setWear b f).drain = s.drain := rfl
@[simp] theorem setWear_arb (b : Nat) (f : WearCnt → WearCnt) : (s.setWear b f).arb = s.arb := rfl
@[simp] theorem setWear_jtag (b : Nat) (f : WearCnt → WearCnt) : (s.setWear b f).jtag = s.jtag := rfl
@[simp] theorem setWear_free (b : Nat) (f : WearCnt → WearCnt) : (s.setWear b f).free = s.free := rfl
@[simp] theorem setWear_resp (b : Nat) (f : WearCnt → WearCnt) : (s.setWear b f).resp = s.resp := rfl
@[simp] theorem setWear_pending (b : Nat) (f : WearCnt → WearCnt) : (s.setWear b f).pending = s.pending := rfl

/-! ### custody -/
@[simp] theorem custody_fuse (hop : Nat) (source : BitVec 16) (dpa : Nat) (h : Holder) : (s.custody hop source dpa h).fuse = s.fuse := rfl
@[simp] theorem custody_strap (hop : Nat) (source : BitVec 16) (dpa : Nat) (h : Holder) : (s.custody hop source dpa h).strap = s.strap := rfl
@[simp] theorem custody_clk (hop : Nat) (source : BitVec 16) (dpa : Nat) (h : Holder) : (s.custody hop source dpa h).clk = s.clk := rfl
@[simp] theorem custody_pwr (hop : Nat) (source : BitVec 16) (dpa : Nat) (h : Holder) : (s.custody hop source dpa h).pwr = s.pwr := rfl
@[simp] theorem custody_md (hop : Nat) (source : BitVec 16) (dpa : Nat) (h : Holder) : (s.custody hop source dpa h).md = s.md := rfl
@[simp] theorem custody_pin (hop : Nat) (source : BitVec 16) (dpa : Nat) (h : Holder) : (s.custody hop source dpa h).pin = s.pin := rfl
@[simp] theorem custody_rcl (hop : Nat) (source : BitVec 16) (dpa : Nat) (h : Holder) : (s.custody hop source dpa h).rcl = s.rcl := rfl
@[simp] theorem custody_elog (hop : Nat) (source : BitVec 16) (dpa : Nat) (h : Holder) : (s.custody hop source dpa h).elog = s.elog := rfl
@[simp] theorem custody_lh (hop : Nat) (source : BitVec 16) (dpa : Nat) (h : Holder) : (s.custody hop source dpa h).lh = s.lh := rfl
@[simp] theorem custody_own (hop : Nat) (source : BitVec 16) (dpa : Nat) (h : Holder) : (s.custody hop source dpa h).own = s.own := rfl
@[simp] theorem custody_tbl (hop : Nat) (source : BitVec 16) (dpa : Nat) (h : Holder) : (s.custody hop source dpa h).tbl = s.tbl := rfl
@[simp] theorem custody_strait (hop : Nat) (source : BitVec 16) (dpa : Nat) (h : Holder) : (s.custody hop source dpa h).strait = s.strait := rfl
@[simp] theorem custody_i3c (hop : Nat) (source : BitVec 16) (dpa : Nat) (h : Holder) : (s.custody hop source dpa h).i3c = s.i3c := rfl
@[simp] theorem custody_link (hop : Nat) (source : BitVec 16) (dpa : Nat) (h : Holder) : (s.custody hop source dpa h).link = s.link := rfl
@[simp] theorem custody_mbox (hop : Nat) (source : BitVec 16) (dpa : Nat) (h : Holder) : (s.custody hop source dpa h).mbox = s.mbox := rfl
@[simp] theorem custody_cad (hop : Nat) (source : BitVec 16) (dpa : Nat) (h : Holder) : (s.custody hop source dpa h).cad = s.cad := rfl
@[simp] theorem custody_plan (hop : Nat) (source : BitVec 16) (dpa : Nat) (h : Holder) : (s.custody hop source dpa h).plan = s.plan := rfl
@[simp] theorem custody_commit (hop : Nat) (source : BitVec 16) (dpa : Nat) (h : Holder) : (s.custody hop source dpa h).commit = s.commit := rfl
@[simp] theorem custody_ferry (hop : Nat) (source : BitVec 16) (dpa : Nat) (h : Holder) : (s.custody hop source dpa h).ferry = s.ferry := rfl
@[simp] theorem custody_t0 (hop : Nat) (source : BitVec 16) (dpa : Nat) (h : Holder) : (s.custody hop source dpa h).t0 = s.t0 := rfl
@[simp] theorem custody_t1 (hop : Nat) (source : BitVec 16) (dpa : Nat) (h : Holder) : (s.custody hop source dpa h).t1 = s.t1 := rfl
@[simp] theorem custody_t2 (hop : Nat) (source : BitVec 16) (dpa : Nat) (h : Holder) : (s.custody hop source dpa h).t2 = s.t2 := rfl
@[simp] theorem custody_tide (hop : Nat) (source : BitVec 16) (dpa : Nat) (h : Holder) : (s.custody hop source dpa h).tide = s.tide := rfl
@[simp] theorem custody_comp (hop : Nat) (source : BitVec 16) (dpa : Nat) (h : Holder) : (s.custody hop source dpa h).comp = s.comp := rfl
@[simp] theorem custody_trav (hop : Nat) (source : BitVec 16) (dpa : Nat) (h : Holder) : (s.custody hop source dpa h).trav = s.trav := rfl
@[simp] theorem custody_store (hop : Nat) (source : BitVec 16) (dpa : Nat) (h : Holder) : (s.custody hop source dpa h).store = s.store := rfl
@[simp] theorem custody_ent (hop : Nat) (source : BitVec 16) (dpa : Nat) (h : Holder) : (s.custody hop source dpa h).ent = s.ent := rfl
@[simp] theorem custody_keys (hop : Nat) (source : BitVec 16) (dpa : Nat) (h : Holder) : (s.custody hop source dpa h).keys = s.keys := rfl
@[simp] theorem custody_stew (hop : Nat) (source : BitVec 16) (dpa : Nat) (h : Holder) : (s.custody hop source dpa h).stew = s.stew := rfl
@[simp] theorem custody_drain (hop : Nat) (source : BitVec 16) (dpa : Nat) (h : Holder) : (s.custody hop source dpa h).drain = s.drain := rfl
@[simp] theorem custody_err (hop : Nat) (source : BitVec 16) (dpa : Nat) (h : Holder) : (s.custody hop source dpa h).err = s.err := rfl
@[simp] theorem custody_arb (hop : Nat) (source : BitVec 16) (dpa : Nat) (h : Holder) : (s.custody hop source dpa h).arb = s.arb := rfl
@[simp] theorem custody_jtag (hop : Nat) (source : BitVec 16) (dpa : Nat) (h : Holder) : (s.custody hop source dpa h).jtag = s.jtag := rfl
@[simp] theorem custody_free (hop : Nat) (source : BitVec 16) (dpa : Nat) (h : Holder) : (s.custody hop source dpa h).free = s.free := rfl
@[simp] theorem custody_resp (hop : Nat) (source : BitVec 16) (dpa : Nat) (h : Holder) : (s.custody hop source dpa h).resp = s.resp := rfl
@[simp] theorem custody_pending (hop : Nat) (source : BitVec 16) (dpa : Nat) (h : Holder) : (s.custody hop source dpa h).pending = s.pending := rfl

/-! ### custodyTile -/
@[simp] theorem custodyTile_fuse (hop : Nat) (source : BitVec 16) (tile : Nat) (h : Holder) : (s.custodyTile hop source tile h).fuse = s.fuse := rfl
@[simp] theorem custodyTile_strap (hop : Nat) (source : BitVec 16) (tile : Nat) (h : Holder) :
    (s.custodyTile hop source tile h).strap = s.strap := rfl
@[simp] theorem custodyTile_clk (hop : Nat) (source : BitVec 16) (tile : Nat) (h : Holder) : (s.custodyTile hop source tile h).clk = s.clk := rfl
@[simp] theorem custodyTile_pwr (hop : Nat) (source : BitVec 16) (tile : Nat) (h : Holder) : (s.custodyTile hop source tile h).pwr = s.pwr := rfl
@[simp] theorem custodyTile_md (hop : Nat) (source : BitVec 16) (tile : Nat) (h : Holder) : (s.custodyTile hop source tile h).md = s.md := rfl
@[simp] theorem custodyTile_pin (hop : Nat) (source : BitVec 16) (tile : Nat) (h : Holder) : (s.custodyTile hop source tile h).pin = s.pin := rfl
@[simp] theorem custodyTile_rcl (hop : Nat) (source : BitVec 16) (tile : Nat) (h : Holder) : (s.custodyTile hop source tile h).rcl = s.rcl := rfl
@[simp] theorem custodyTile_elog (hop : Nat) (source : BitVec 16) (tile : Nat) (h : Holder) : (s.custodyTile hop source tile h).elog = s.elog := rfl
@[simp] theorem custodyTile_lh (hop : Nat) (source : BitVec 16) (tile : Nat) (h : Holder) : (s.custodyTile hop source tile h).lh = s.lh := rfl
@[simp] theorem custodyTile_own (hop : Nat) (source : BitVec 16) (tile : Nat) (h : Holder) : (s.custodyTile hop source tile h).own = s.own := rfl
@[simp] theorem custodyTile_tbl (hop : Nat) (source : BitVec 16) (tile : Nat) (h : Holder) : (s.custodyTile hop source tile h).tbl = s.tbl := rfl
@[simp] theorem custodyTile_strait (hop : Nat) (source : BitVec 16) (tile : Nat) (h : Holder) :
    (s.custodyTile hop source tile h).strait = s.strait := rfl
@[simp] theorem custodyTile_i3c (hop : Nat) (source : BitVec 16) (tile : Nat) (h : Holder) : (s.custodyTile hop source tile h).i3c = s.i3c := rfl
@[simp] theorem custodyTile_link (hop : Nat) (source : BitVec 16) (tile : Nat) (h : Holder) : (s.custodyTile hop source tile h).link = s.link := rfl
@[simp] theorem custodyTile_mbox (hop : Nat) (source : BitVec 16) (tile : Nat) (h : Holder) : (s.custodyTile hop source tile h).mbox = s.mbox := rfl
@[simp] theorem custodyTile_cad (hop : Nat) (source : BitVec 16) (tile : Nat) (h : Holder) : (s.custodyTile hop source tile h).cad = s.cad := rfl
@[simp] theorem custodyTile_plan (hop : Nat) (source : BitVec 16) (tile : Nat) (h : Holder) : (s.custodyTile hop source tile h).plan = s.plan := rfl
@[simp] theorem custodyTile_commit (hop : Nat) (source : BitVec 16) (tile : Nat) (h : Holder) :
    (s.custodyTile hop source tile h).commit = s.commit := rfl
@[simp] theorem custodyTile_ferry (hop : Nat) (source : BitVec 16) (tile : Nat) (h : Holder) :
    (s.custodyTile hop source tile h).ferry = s.ferry := rfl
@[simp] theorem custodyTile_t0 (hop : Nat) (source : BitVec 16) (tile : Nat) (h : Holder) : (s.custodyTile hop source tile h).t0 = s.t0 := rfl
@[simp] theorem custodyTile_t1 (hop : Nat) (source : BitVec 16) (tile : Nat) (h : Holder) : (s.custodyTile hop source tile h).t1 = s.t1 := rfl
@[simp] theorem custodyTile_t2 (hop : Nat) (source : BitVec 16) (tile : Nat) (h : Holder) : (s.custodyTile hop source tile h).t2 = s.t2 := rfl
@[simp] theorem custodyTile_tide (hop : Nat) (source : BitVec 16) (tile : Nat) (h : Holder) : (s.custodyTile hop source tile h).tide = s.tide := rfl
@[simp] theorem custodyTile_comp (hop : Nat) (source : BitVec 16) (tile : Nat) (h : Holder) : (s.custodyTile hop source tile h).comp = s.comp := rfl
@[simp] theorem custodyTile_trav (hop : Nat) (source : BitVec 16) (tile : Nat) (h : Holder) : (s.custodyTile hop source tile h).trav = s.trav := rfl
@[simp] theorem custodyTile_store (hop : Nat) (source : BitVec 16) (tile : Nat) (h : Holder) :
    (s.custodyTile hop source tile h).store = s.store := rfl
@[simp] theorem custodyTile_ent (hop : Nat) (source : BitVec 16) (tile : Nat) (h : Holder) : (s.custodyTile hop source tile h).ent = s.ent := rfl
@[simp] theorem custodyTile_keys (hop : Nat) (source : BitVec 16) (tile : Nat) (h : Holder) : (s.custodyTile hop source tile h).keys = s.keys := rfl
@[simp] theorem custodyTile_stew (hop : Nat) (source : BitVec 16) (tile : Nat) (h : Holder) : (s.custodyTile hop source tile h).stew = s.stew := rfl
@[simp] theorem custodyTile_drain (hop : Nat) (source : BitVec 16) (tile : Nat) (h : Holder) :
    (s.custodyTile hop source tile h).drain = s.drain := rfl
@[simp] theorem custodyTile_err (hop : Nat) (source : BitVec 16) (tile : Nat) (h : Holder) : (s.custodyTile hop source tile h).err = s.err := rfl
@[simp] theorem custodyTile_arb (hop : Nat) (source : BitVec 16) (tile : Nat) (h : Holder) : (s.custodyTile hop source tile h).arb = s.arb := rfl
@[simp] theorem custodyTile_jtag (hop : Nat) (source : BitVec 16) (tile : Nat) (h : Holder) : (s.custodyTile hop source tile h).jtag = s.jtag := rfl
@[simp] theorem custodyTile_free (hop : Nat) (source : BitVec 16) (tile : Nat) (h : Holder) : (s.custodyTile hop source tile h).free = s.free := rfl
@[simp] theorem custodyTile_resp (hop : Nat) (source : BitVec 16) (tile : Nat) (h : Holder) : (s.custodyTile hop source tile h).resp = s.resp := rfl
@[simp] theorem custodyTile_pending (hop : Nat) (source : BitVec 16) (tile : Nat) (h : Holder) :
    (s.custodyTile hop source tile h).pending = s.pending := rfl

/-! ### eccUe -/
@[simp] theorem eccUe_fuse (kind : Nat) (source : BitVec 16) (x : Nat) : (s.eccUe kind source x).fuse = s.fuse := rfl
@[simp] theorem eccUe_strap (kind : Nat) (source : BitVec 16) (x : Nat) : (s.eccUe kind source x).strap = s.strap := rfl
@[simp] theorem eccUe_clk (kind : Nat) (source : BitVec 16) (x : Nat) : (s.eccUe kind source x).clk = s.clk := rfl
@[simp] theorem eccUe_pwr (kind : Nat) (source : BitVec 16) (x : Nat) : (s.eccUe kind source x).pwr = s.pwr := rfl
@[simp] theorem eccUe_md (kind : Nat) (source : BitVec 16) (x : Nat) : (s.eccUe kind source x).md = s.md := rfl
@[simp] theorem eccUe_pin (kind : Nat) (source : BitVec 16) (x : Nat) : (s.eccUe kind source x).pin = s.pin := rfl
@[simp] theorem eccUe_rcl (kind : Nat) (source : BitVec 16) (x : Nat) : (s.eccUe kind source x).rcl = s.rcl := rfl
@[simp] theorem eccUe_elog (kind : Nat) (source : BitVec 16) (x : Nat) : (s.eccUe kind source x).elog = s.elog := rfl
@[simp] theorem eccUe_lh (kind : Nat) (source : BitVec 16) (x : Nat) : (s.eccUe kind source x).lh = s.lh := rfl
@[simp] theorem eccUe_own (kind : Nat) (source : BitVec 16) (x : Nat) : (s.eccUe kind source x).own = s.own := rfl
@[simp] theorem eccUe_tbl (kind : Nat) (source : BitVec 16) (x : Nat) : (s.eccUe kind source x).tbl = s.tbl := rfl
@[simp] theorem eccUe_strait (kind : Nat) (source : BitVec 16) (x : Nat) : (s.eccUe kind source x).strait = s.strait := rfl
@[simp] theorem eccUe_i3c (kind : Nat) (source : BitVec 16) (x : Nat) : (s.eccUe kind source x).i3c = s.i3c := rfl
@[simp] theorem eccUe_link (kind : Nat) (source : BitVec 16) (x : Nat) : (s.eccUe kind source x).link = s.link := rfl
@[simp] theorem eccUe_mbox (kind : Nat) (source : BitVec 16) (x : Nat) : (s.eccUe kind source x).mbox = s.mbox := rfl
@[simp] theorem eccUe_cad (kind : Nat) (source : BitVec 16) (x : Nat) : (s.eccUe kind source x).cad = s.cad := rfl
@[simp] theorem eccUe_plan (kind : Nat) (source : BitVec 16) (x : Nat) : (s.eccUe kind source x).plan = s.plan := rfl
@[simp] theorem eccUe_commit (kind : Nat) (source : BitVec 16) (x : Nat) : (s.eccUe kind source x).commit = s.commit := rfl
@[simp] theorem eccUe_ferry (kind : Nat) (source : BitVec 16) (x : Nat) : (s.eccUe kind source x).ferry = s.ferry := rfl
@[simp] theorem eccUe_t0 (kind : Nat) (source : BitVec 16) (x : Nat) : (s.eccUe kind source x).t0 = s.t0 := rfl
@[simp] theorem eccUe_t1 (kind : Nat) (source : BitVec 16) (x : Nat) : (s.eccUe kind source x).t1 = s.t1 := rfl
@[simp] theorem eccUe_t2 (kind : Nat) (source : BitVec 16) (x : Nat) : (s.eccUe kind source x).t2 = s.t2 := rfl
@[simp] theorem eccUe_tide (kind : Nat) (source : BitVec 16) (x : Nat) : (s.eccUe kind source x).tide = s.tide := rfl
@[simp] theorem eccUe_comp (kind : Nat) (source : BitVec 16) (x : Nat) : (s.eccUe kind source x).comp = s.comp := rfl
@[simp] theorem eccUe_trav (kind : Nat) (source : BitVec 16) (x : Nat) : (s.eccUe kind source x).trav = s.trav := rfl
@[simp] theorem eccUe_store (kind : Nat) (source : BitVec 16) (x : Nat) : (s.eccUe kind source x).store = s.store := rfl
@[simp] theorem eccUe_ent (kind : Nat) (source : BitVec 16) (x : Nat) : (s.eccUe kind source x).ent = s.ent := rfl
@[simp] theorem eccUe_keys (kind : Nat) (source : BitVec 16) (x : Nat) : (s.eccUe kind source x).keys = s.keys := rfl
@[simp] theorem eccUe_stew (kind : Nat) (source : BitVec 16) (x : Nat) : (s.eccUe kind source x).stew = s.stew := rfl
@[simp] theorem eccUe_drain (kind : Nat) (source : BitVec 16) (x : Nat) : (s.eccUe kind source x).drain = s.drain := rfl
@[simp] theorem eccUe_err (kind : Nat) (source : BitVec 16) (x : Nat) : (s.eccUe kind source x).err = s.err := rfl
@[simp] theorem eccUe_arb (kind : Nat) (source : BitVec 16) (x : Nat) : (s.eccUe kind source x).arb = s.arb := rfl
@[simp] theorem eccUe_jtag (kind : Nat) (source : BitVec 16) (x : Nat) : (s.eccUe kind source x).jtag = s.jtag := rfl
@[simp] theorem eccUe_free (kind : Nat) (source : BitVec 16) (x : Nat) : (s.eccUe kind source x).free = s.free := rfl
@[simp] theorem eccUe_resp (kind : Nat) (source : BitVec 16) (x : Nat) : (s.eccUe kind source x).resp = s.resp := rfl
@[simp] theorem eccUe_pending (kind : Nat) (source : BitVec 16) (x : Nat) : (s.eccUe kind source x).pending = s.pending := rfl

/-! ### absentHit -/
@[simp] theorem absentHit_fuse (k : Byte) : (s.absentHit k).fuse = s.fuse := rfl
@[simp] theorem absentHit_strap (k : Byte) : (s.absentHit k).strap = s.strap := rfl
@[simp] theorem absentHit_clk (k : Byte) : (s.absentHit k).clk = s.clk := rfl
@[simp] theorem absentHit_pwr (k : Byte) : (s.absentHit k).pwr = s.pwr := rfl
@[simp] theorem absentHit_md (k : Byte) : (s.absentHit k).md = s.md := rfl
@[simp] theorem absentHit_pin (k : Byte) : (s.absentHit k).pin = s.pin := rfl
@[simp] theorem absentHit_rcl (k : Byte) : (s.absentHit k).rcl = s.rcl := rfl
@[simp] theorem absentHit_evt (k : Byte) : (s.absentHit k).evt = s.evt := rfl
@[simp] theorem absentHit_elog (k : Byte) : (s.absentHit k).elog = s.elog := rfl
@[simp] theorem absentHit_lh (k : Byte) : (s.absentHit k).lh = s.lh := rfl
@[simp] theorem absentHit_own (k : Byte) : (s.absentHit k).own = s.own := rfl
@[simp] theorem absentHit_tbl (k : Byte) : (s.absentHit k).tbl = s.tbl := rfl
@[simp] theorem absentHit_strait (k : Byte) : (s.absentHit k).strait = s.strait := rfl
@[simp] theorem absentHit_i3c (k : Byte) : (s.absentHit k).i3c = s.i3c := rfl
@[simp] theorem absentHit_link (k : Byte) : (s.absentHit k).link = s.link := rfl
@[simp] theorem absentHit_mbox (k : Byte) : (s.absentHit k).mbox = s.mbox := rfl
@[simp] theorem absentHit_cad (k : Byte) : (s.absentHit k).cad = s.cad := rfl
@[simp] theorem absentHit_plan (k : Byte) : (s.absentHit k).plan = s.plan := rfl
@[simp] theorem absentHit_commit (k : Byte) : (s.absentHit k).commit = s.commit := rfl
@[simp] theorem absentHit_ferry (k : Byte) : (s.absentHit k).ferry = s.ferry := rfl
@[simp] theorem absentHit_t0 (k : Byte) : (s.absentHit k).t0 = s.t0 := rfl
@[simp] theorem absentHit_t1 (k : Byte) : (s.absentHit k).t1 = s.t1 := rfl
@[simp] theorem absentHit_t2 (k : Byte) : (s.absentHit k).t2 = s.t2 := rfl
@[simp] theorem absentHit_tide (k : Byte) : (s.absentHit k).tide = s.tide := rfl
@[simp] theorem absentHit_comp (k : Byte) : (s.absentHit k).comp = s.comp := rfl
@[simp] theorem absentHit_trav (k : Byte) : (s.absentHit k).trav = s.trav := rfl
@[simp] theorem absentHit_store (k : Byte) : (s.absentHit k).store = s.store := rfl
@[simp] theorem absentHit_ent (k : Byte) : (s.absentHit k).ent = s.ent := rfl
@[simp] theorem absentHit_stew (k : Byte) : (s.absentHit k).stew = s.stew := rfl
@[simp] theorem absentHit_drain (k : Byte) : (s.absentHit k).drain = s.drain := rfl
@[simp] theorem absentHit_err (k : Byte) : (s.absentHit k).err = s.err := rfl
@[simp] theorem absentHit_arb (k : Byte) : (s.absentHit k).arb = s.arb := rfl
@[simp] theorem absentHit_jtag (k : Byte) : (s.absentHit k).jtag = s.jtag := rfl
@[simp] theorem absentHit_free (k : Byte) : (s.absentHit k).free = s.free := rfl
@[simp] theorem absentHit_resp (k : Byte) : (s.absentHit k).resp = s.resp := rfl
@[simp] theorem absentHit_pending (k : Byte) : (s.absentHit k).pending = s.pending := rfl

/-! ### queueCounter -/
@[simp] theorem queueCounter_fuse (i : Nat) (v : Nat) (causeway : Bool) : (s.queueCounter i v causeway).fuse = s.fuse := rfl
@[simp] theorem queueCounter_strap (i : Nat) (v : Nat) (causeway : Bool) : (s.queueCounter i v causeway).strap = s.strap := rfl
@[simp] theorem queueCounter_clk (i : Nat) (v : Nat) (causeway : Bool) : (s.queueCounter i v causeway).clk = s.clk := rfl
@[simp] theorem queueCounter_pwr (i : Nat) (v : Nat) (causeway : Bool) : (s.queueCounter i v causeway).pwr = s.pwr := rfl
@[simp] theorem queueCounter_md (i : Nat) (v : Nat) (causeway : Bool) : (s.queueCounter i v causeway).md = s.md := rfl
@[simp] theorem queueCounter_pin (i : Nat) (v : Nat) (causeway : Bool) : (s.queueCounter i v causeway).pin = s.pin := rfl
@[simp] theorem queueCounter_rcl (i : Nat) (v : Nat) (causeway : Bool) : (s.queueCounter i v causeway).rcl = s.rcl := rfl
@[simp] theorem queueCounter_evt (i : Nat) (v : Nat) (causeway : Bool) : (s.queueCounter i v causeway).evt = s.evt := rfl
@[simp] theorem queueCounter_elog (i : Nat) (v : Nat) (causeway : Bool) : (s.queueCounter i v causeway).elog = s.elog := rfl
@[simp] theorem queueCounter_lh (i : Nat) (v : Nat) (causeway : Bool) : (s.queueCounter i v causeway).lh = s.lh := rfl
@[simp] theorem queueCounter_own (i : Nat) (v : Nat) (causeway : Bool) : (s.queueCounter i v causeway).own = s.own := rfl
@[simp] theorem queueCounter_tbl (i : Nat) (v : Nat) (causeway : Bool) : (s.queueCounter i v causeway).tbl = s.tbl := rfl
@[simp] theorem queueCounter_strait (i : Nat) (v : Nat) (causeway : Bool) : (s.queueCounter i v causeway).strait = s.strait := rfl
@[simp] theorem queueCounter_i3c (i : Nat) (v : Nat) (causeway : Bool) : (s.queueCounter i v causeway).i3c = s.i3c := rfl
@[simp] theorem queueCounter_link (i : Nat) (v : Nat) (causeway : Bool) : (s.queueCounter i v causeway).link = s.link := rfl
@[simp] theorem queueCounter_mbox (i : Nat) (v : Nat) (causeway : Bool) : (s.queueCounter i v causeway).mbox = s.mbox := rfl
@[simp] theorem queueCounter_cad (i : Nat) (v : Nat) (causeway : Bool) : (s.queueCounter i v causeway).cad = s.cad := rfl
@[simp] theorem queueCounter_plan (i : Nat) (v : Nat) (causeway : Bool) : (s.queueCounter i v causeway).plan = s.plan := rfl
@[simp] theorem queueCounter_commit (i : Nat) (v : Nat) (causeway : Bool) : (s.queueCounter i v causeway).commit = s.commit := rfl
@[simp] theorem queueCounter_ferry (i : Nat) (v : Nat) (causeway : Bool) : (s.queueCounter i v causeway).ferry = s.ferry := rfl
@[simp] theorem queueCounter_t0 (i : Nat) (v : Nat) (causeway : Bool) : (s.queueCounter i v causeway).t0 = s.t0 := rfl
@[simp] theorem queueCounter_t1 (i : Nat) (v : Nat) (causeway : Bool) : (s.queueCounter i v causeway).t1 = s.t1 := rfl
@[simp] theorem queueCounter_t2 (i : Nat) (v : Nat) (causeway : Bool) : (s.queueCounter i v causeway).t2 = s.t2 := rfl
@[simp] theorem queueCounter_tide (i : Nat) (v : Nat) (causeway : Bool) : (s.queueCounter i v causeway).tide = s.tide := rfl
@[simp] theorem queueCounter_comp (i : Nat) (v : Nat) (causeway : Bool) : (s.queueCounter i v causeway).comp = s.comp := rfl
@[simp] theorem queueCounter_trav (i : Nat) (v : Nat) (causeway : Bool) : (s.queueCounter i v causeway).trav = s.trav := rfl
@[simp] theorem queueCounter_ent (i : Nat) (v : Nat) (causeway : Bool) : (s.queueCounter i v causeway).ent = s.ent := rfl
@[simp] theorem queueCounter_keys (i : Nat) (v : Nat) (causeway : Bool) : (s.queueCounter i v causeway).keys = s.keys := rfl
@[simp] theorem queueCounter_stew (i : Nat) (v : Nat) (causeway : Bool) : (s.queueCounter i v causeway).stew = s.stew := rfl
@[simp] theorem queueCounter_drain (i : Nat) (v : Nat) (causeway : Bool) : (s.queueCounter i v causeway).drain = s.drain := rfl
@[simp] theorem queueCounter_err (i : Nat) (v : Nat) (causeway : Bool) : (s.queueCounter i v causeway).err = s.err := rfl
@[simp] theorem queueCounter_arb (i : Nat) (v : Nat) (causeway : Bool) : (s.queueCounter i v causeway).arb = s.arb := rfl
@[simp] theorem queueCounter_jtag (i : Nat) (v : Nat) (causeway : Bool) : (s.queueCounter i v causeway).jtag = s.jtag := rfl
@[simp] theorem queueCounter_free (i : Nat) (v : Nat) (causeway : Bool) : (s.queueCounter i v causeway).free = s.free := rfl
@[simp] theorem queueCounter_resp (i : Nat) (v : Nat) (causeway : Bool) : (s.queueCounter i v causeway).resp = s.resp := rfl
@[simp] theorem queueCounter_pending (i : Nat) (v : Nat) (causeway : Bool) : (s.queueCounter i v causeway).pending = s.pending := rfl

/-! ### modeEpoch -/
@[simp] theorem modeEpoch_fuse (m : Mode) (cause : BitVec 4) : (s.modeEpoch m cause).fuse = s.fuse := rfl
@[simp] theorem modeEpoch_strap (m : Mode) (cause : BitVec 4) : (s.modeEpoch m cause).strap = s.strap := rfl
@[simp] theorem modeEpoch_clk (m : Mode) (cause : BitVec 4) : (s.modeEpoch m cause).clk = s.clk := rfl
@[simp] theorem modeEpoch_pwr (m : Mode) (cause : BitVec 4) : (s.modeEpoch m cause).pwr = s.pwr := rfl
@[simp] theorem modeEpoch_pin (m : Mode) (cause : BitVec 4) : (s.modeEpoch m cause).pin = s.pin := rfl
@[simp] theorem modeEpoch_rcl (m : Mode) (cause : BitVec 4) : (s.modeEpoch m cause).rcl = s.rcl := rfl
@[simp] theorem modeEpoch_elog (m : Mode) (cause : BitVec 4) : (s.modeEpoch m cause).elog = s.elog := rfl
@[simp] theorem modeEpoch_lh (m : Mode) (cause : BitVec 4) : (s.modeEpoch m cause).lh = s.lh := rfl
@[simp] theorem modeEpoch_own (m : Mode) (cause : BitVec 4) : (s.modeEpoch m cause).own = s.own := rfl
@[simp] theorem modeEpoch_tbl (m : Mode) (cause : BitVec 4) : (s.modeEpoch m cause).tbl = s.tbl := rfl
@[simp] theorem modeEpoch_strait (m : Mode) (cause : BitVec 4) : (s.modeEpoch m cause).strait = s.strait := rfl
@[simp] theorem modeEpoch_i3c (m : Mode) (cause : BitVec 4) : (s.modeEpoch m cause).i3c = s.i3c := rfl
@[simp] theorem modeEpoch_link (m : Mode) (cause : BitVec 4) : (s.modeEpoch m cause).link = s.link := rfl
@[simp] theorem modeEpoch_mbox (m : Mode) (cause : BitVec 4) : (s.modeEpoch m cause).mbox = s.mbox := rfl
@[simp] theorem modeEpoch_cad (m : Mode) (cause : BitVec 4) : (s.modeEpoch m cause).cad = s.cad := rfl
@[simp] theorem modeEpoch_plan (m : Mode) (cause : BitVec 4) : (s.modeEpoch m cause).plan = s.plan := rfl
@[simp] theorem modeEpoch_commit (m : Mode) (cause : BitVec 4) : (s.modeEpoch m cause).commit = s.commit := rfl
@[simp] theorem modeEpoch_ferry (m : Mode) (cause : BitVec 4) : (s.modeEpoch m cause).ferry = s.ferry := rfl
@[simp] theorem modeEpoch_t0 (m : Mode) (cause : BitVec 4) : (s.modeEpoch m cause).t0 = s.t0 := rfl
@[simp] theorem modeEpoch_t1 (m : Mode) (cause : BitVec 4) : (s.modeEpoch m cause).t1 = s.t1 := rfl
@[simp] theorem modeEpoch_t2 (m : Mode) (cause : BitVec 4) : (s.modeEpoch m cause).t2 = s.t2 := rfl
@[simp] theorem modeEpoch_tide (m : Mode) (cause : BitVec 4) : (s.modeEpoch m cause).tide = s.tide := rfl
@[simp] theorem modeEpoch_comp (m : Mode) (cause : BitVec 4) : (s.modeEpoch m cause).comp = s.comp := rfl
@[simp] theorem modeEpoch_trav (m : Mode) (cause : BitVec 4) : (s.modeEpoch m cause).trav = s.trav := rfl
@[simp] theorem modeEpoch_store (m : Mode) (cause : BitVec 4) : (s.modeEpoch m cause).store = s.store := rfl
@[simp] theorem modeEpoch_ent (m : Mode) (cause : BitVec 4) : (s.modeEpoch m cause).ent = s.ent := rfl
@[simp] theorem modeEpoch_keys (m : Mode) (cause : BitVec 4) : (s.modeEpoch m cause).keys = s.keys := rfl
@[simp] theorem modeEpoch_stew (m : Mode) (cause : BitVec 4) : (s.modeEpoch m cause).stew = s.stew := rfl
@[simp] theorem modeEpoch_drain (m : Mode) (cause : BitVec 4) : (s.modeEpoch m cause).drain = s.drain := rfl
@[simp] theorem modeEpoch_err (m : Mode) (cause : BitVec 4) : (s.modeEpoch m cause).err = s.err := rfl
@[simp] theorem modeEpoch_arb (m : Mode) (cause : BitVec 4) : (s.modeEpoch m cause).arb = s.arb := rfl
@[simp] theorem modeEpoch_jtag (m : Mode) (cause : BitVec 4) : (s.modeEpoch m cause).jtag = s.jtag := rfl
@[simp] theorem modeEpoch_free (m : Mode) (cause : BitVec 4) : (s.modeEpoch m cause).free = s.free := rfl
@[simp] theorem modeEpoch_resp (m : Mode) (cause : BitVec 4) : (s.modeEpoch m cause).resp = s.resp := rfl
@[simp] theorem modeEpoch_pending (m : Mode) (cause : BitVec 4) : (s.modeEpoch m cause).pending = s.pending := rfl

/-! ### beginStage -/
@[simp] theorem beginStage_fuse (n : Nat) : (s.beginStage n).fuse = s.fuse := rfl
@[simp] theorem beginStage_strap (n : Nat) : (s.beginStage n).strap = s.strap := rfl
@[simp] theorem beginStage_clk (n : Nat) : (s.beginStage n).clk = s.clk := rfl
@[simp] theorem beginStage_pwr (n : Nat) : (s.beginStage n).pwr = s.pwr := rfl
@[simp] theorem beginStage_md (n : Nat) : (s.beginStage n).md = s.md := rfl
@[simp] theorem beginStage_pin (n : Nat) : (s.beginStage n).pin = s.pin := rfl
@[simp] theorem beginStage_elog (n : Nat) : (s.beginStage n).elog = s.elog := rfl
@[simp] theorem beginStage_lh (n : Nat) : (s.beginStage n).lh = s.lh := rfl
@[simp] theorem beginStage_own (n : Nat) : (s.beginStage n).own = s.own := rfl
@[simp] theorem beginStage_tbl (n : Nat) : (s.beginStage n).tbl = s.tbl := rfl
@[simp] theorem beginStage_strait (n : Nat) : (s.beginStage n).strait = s.strait := rfl
@[simp] theorem beginStage_i3c (n : Nat) : (s.beginStage n).i3c = s.i3c := rfl
@[simp] theorem beginStage_link (n : Nat) : (s.beginStage n).link = s.link := rfl
@[simp] theorem beginStage_mbox (n : Nat) : (s.beginStage n).mbox = s.mbox := rfl
@[simp] theorem beginStage_cad (n : Nat) : (s.beginStage n).cad = s.cad := rfl
@[simp] theorem beginStage_plan (n : Nat) : (s.beginStage n).plan = s.plan := rfl
@[simp] theorem beginStage_commit (n : Nat) : (s.beginStage n).commit = s.commit := rfl
@[simp] theorem beginStage_ferry (n : Nat) : (s.beginStage n).ferry = s.ferry := rfl
@[simp] theorem beginStage_t0 (n : Nat) : (s.beginStage n).t0 = s.t0 := rfl
@[simp] theorem beginStage_t1 (n : Nat) : (s.beginStage n).t1 = s.t1 := rfl
@[simp] theorem beginStage_t2 (n : Nat) : (s.beginStage n).t2 = s.t2 := rfl
@[simp] theorem beginStage_tide (n : Nat) : (s.beginStage n).tide = s.tide := rfl
@[simp] theorem beginStage_comp (n : Nat) : (s.beginStage n).comp = s.comp := rfl
@[simp] theorem beginStage_trav (n : Nat) : (s.beginStage n).trav = s.trav := rfl
@[simp] theorem beginStage_store (n : Nat) : (s.beginStage n).store = s.store := rfl
@[simp] theorem beginStage_ent (n : Nat) : (s.beginStage n).ent = s.ent := rfl
@[simp] theorem beginStage_keys (n : Nat) : (s.beginStage n).keys = s.keys := rfl
@[simp] theorem beginStage_stew (n : Nat) : (s.beginStage n).stew = s.stew := rfl
@[simp] theorem beginStage_drain (n : Nat) : (s.beginStage n).drain = s.drain := rfl
@[simp] theorem beginStage_err (n : Nat) : (s.beginStage n).err = s.err := rfl
@[simp] theorem beginStage_arb (n : Nat) : (s.beginStage n).arb = s.arb := rfl
@[simp] theorem beginStage_jtag (n : Nat) : (s.beginStage n).jtag = s.jtag := rfl
@[simp] theorem beginStage_free (n : Nat) : (s.beginStage n).free = s.free := rfl
@[simp] theorem beginStage_resp (n : Nat) : (s.beginStage n).resp = s.resp := rfl
@[simp] theorem beginStage_pending (n : Nat) : (s.beginStage n).pending = s.pending := rfl

/-! ### haltChan -/
@[simp] theorem haltChan_fuse (c cause : Nat) : (s.haltChan c cause).fuse = s.fuse := rfl
@[simp] theorem haltChan_strap (c cause : Nat) : (s.haltChan c cause).strap = s.strap := rfl
@[simp] theorem haltChan_clk (c cause : Nat) : (s.haltChan c cause).clk = s.clk := rfl
@[simp] theorem haltChan_pwr (c cause : Nat) : (s.haltChan c cause).pwr = s.pwr := rfl
@[simp] theorem haltChan_md (c cause : Nat) : (s.haltChan c cause).md = s.md := rfl
@[simp] theorem haltChan_pin (c cause : Nat) : (s.haltChan c cause).pin = s.pin := rfl
@[simp] theorem haltChan_rcl (c cause : Nat) : (s.haltChan c cause).rcl = s.rcl := rfl
@[simp] theorem haltChan_elog (c cause : Nat) : (s.haltChan c cause).elog = s.elog := rfl
@[simp] theorem haltChan_lh (c cause : Nat) : (s.haltChan c cause).lh = s.lh := rfl
@[simp] theorem haltChan_own (c cause : Nat) : (s.haltChan c cause).own = s.own := rfl
@[simp] theorem haltChan_tbl (c cause : Nat) : (s.haltChan c cause).tbl = s.tbl := rfl
@[simp] theorem haltChan_strait (c cause : Nat) : (s.haltChan c cause).strait = s.strait := rfl
@[simp] theorem haltChan_i3c (c cause : Nat) : (s.haltChan c cause).i3c = s.i3c := rfl
@[simp] theorem haltChan_link (c cause : Nat) : (s.haltChan c cause).link = s.link := rfl
@[simp] theorem haltChan_mbox (c cause : Nat) : (s.haltChan c cause).mbox = s.mbox := rfl
@[simp] theorem haltChan_cad (c cause : Nat) : (s.haltChan c cause).cad = s.cad := rfl
@[simp] theorem haltChan_plan (c cause : Nat) : (s.haltChan c cause).plan = s.plan := rfl
@[simp] theorem haltChan_commit (c cause : Nat) : (s.haltChan c cause).commit = s.commit := rfl
@[simp] theorem haltChan_t0 (c cause : Nat) : (s.haltChan c cause).t0 = s.t0 := rfl
@[simp] theorem haltChan_t1 (c cause : Nat) : (s.haltChan c cause).t1 = s.t1 := rfl
@[simp] theorem haltChan_t2 (c cause : Nat) : (s.haltChan c cause).t2 = s.t2 := rfl
@[simp] theorem haltChan_tide (c cause : Nat) : (s.haltChan c cause).tide = s.tide := rfl
@[simp] theorem haltChan_comp (c cause : Nat) : (s.haltChan c cause).comp = s.comp := rfl
@[simp] theorem haltChan_trav (c cause : Nat) : (s.haltChan c cause).trav = s.trav := rfl
@[simp] theorem haltChan_store (c cause : Nat) : (s.haltChan c cause).store = s.store := rfl
@[simp] theorem haltChan_ent (c cause : Nat) : (s.haltChan c cause).ent = s.ent := rfl
@[simp] theorem haltChan_keys (c cause : Nat) : (s.haltChan c cause).keys = s.keys := rfl
@[simp] theorem haltChan_stew (c cause : Nat) : (s.haltChan c cause).stew = s.stew := rfl
@[simp] theorem haltChan_drain (c cause : Nat) : (s.haltChan c cause).drain = s.drain := rfl
@[simp] theorem haltChan_err (c cause : Nat) : (s.haltChan c cause).err = s.err := rfl
@[simp] theorem haltChan_arb (c cause : Nat) : (s.haltChan c cause).arb = s.arb := rfl
@[simp] theorem haltChan_jtag (c cause : Nat) : (s.haltChan c cause).jtag = s.jtag := rfl
@[simp] theorem haltChan_free (c cause : Nat) : (s.haltChan c cause).free = s.free := rfl
@[simp] theorem haltChan_resp (c cause : Nat) : (s.haltChan c cause).resp = s.resp := rfl
@[simp] theorem haltChan_pending (c cause : Nat) : (s.haltChan c cause).pending = s.pending := rfl

/-! ### bellRefuse -/
@[simp] theorem bellRefuse_fuse (c cmd result : Nat) : (s.bellRefuse c cmd result).fuse = s.fuse := rfl
@[simp] theorem bellRefuse_strap (c cmd result : Nat) : (s.bellRefuse c cmd result).strap = s.strap := rfl
@[simp] theorem bellRefuse_clk (c cmd result : Nat) : (s.bellRefuse c cmd result).clk = s.clk := rfl
@[simp] theorem bellRefuse_pwr (c cmd result : Nat) : (s.bellRefuse c cmd result).pwr = s.pwr := rfl
@[simp] theorem bellRefuse_md (c cmd result : Nat) : (s.bellRefuse c cmd result).md = s.md := rfl
@[simp] theorem bellRefuse_pin (c cmd result : Nat) : (s.bellRefuse c cmd result).pin = s.pin := rfl
@[simp] theorem bellRefuse_rcl (c cmd result : Nat) : (s.bellRefuse c cmd result).rcl = s.rcl := rfl
@[simp] theorem bellRefuse_elog (c cmd result : Nat) : (s.bellRefuse c cmd result).elog = s.elog := rfl
@[simp] theorem bellRefuse_lh (c cmd result : Nat) : (s.bellRefuse c cmd result).lh = s.lh := rfl
@[simp] theorem bellRefuse_own (c cmd result : Nat) : (s.bellRefuse c cmd result).own = s.own := rfl
@[simp] theorem bellRefuse_tbl (c cmd result : Nat) : (s.bellRefuse c cmd result).tbl = s.tbl := rfl
@[simp] theorem bellRefuse_strait (c cmd result : Nat) : (s.bellRefuse c cmd result).strait = s.strait := rfl
@[simp] theorem bellRefuse_i3c (c cmd result : Nat) : (s.bellRefuse c cmd result).i3c = s.i3c := rfl
@[simp] theorem bellRefuse_link (c cmd result : Nat) : (s.bellRefuse c cmd result).link = s.link := rfl
@[simp] theorem bellRefuse_mbox (c cmd result : Nat) : (s.bellRefuse c cmd result).mbox = s.mbox := rfl
@[simp] theorem bellRefuse_cad (c cmd result : Nat) : (s.bellRefuse c cmd result).cad = s.cad := rfl
@[simp] theorem bellRefuse_plan (c cmd result : Nat) : (s.bellRefuse c cmd result).plan = s.plan := rfl
@[simp] theorem bellRefuse_commit (c cmd result : Nat) : (s.bellRefuse c cmd result).commit = s.commit := rfl
@[simp] theorem bellRefuse_t0 (c cmd result : Nat) : (s.bellRefuse c cmd result).t0 = s.t0 := rfl
@[simp] theorem bellRefuse_t1 (c cmd result : Nat) : (s.bellRefuse c cmd result).t1 = s.t1 := rfl
@[simp] theorem bellRefuse_t2 (c cmd result : Nat) : (s.bellRefuse c cmd result).t2 = s.t2 := rfl
@[simp] theorem bellRefuse_tide (c cmd result : Nat) : (s.bellRefuse c cmd result).tide = s.tide := rfl
@[simp] theorem bellRefuse_comp (c cmd result : Nat) : (s.bellRefuse c cmd result).comp = s.comp := rfl
@[simp] theorem bellRefuse_trav (c cmd result : Nat) : (s.bellRefuse c cmd result).trav = s.trav := rfl
@[simp] theorem bellRefuse_store (c cmd result : Nat) : (s.bellRefuse c cmd result).store = s.store := rfl
@[simp] theorem bellRefuse_ent (c cmd result : Nat) : (s.bellRefuse c cmd result).ent = s.ent := rfl
@[simp] theorem bellRefuse_keys (c cmd result : Nat) : (s.bellRefuse c cmd result).keys = s.keys := rfl
@[simp] theorem bellRefuse_stew (c cmd result : Nat) : (s.bellRefuse c cmd result).stew = s.stew := rfl
@[simp] theorem bellRefuse_drain (c cmd result : Nat) : (s.bellRefuse c cmd result).drain = s.drain := rfl
@[simp] theorem bellRefuse_err (c cmd result : Nat) : (s.bellRefuse c cmd result).err = s.err := rfl
@[simp] theorem bellRefuse_arb (c cmd result : Nat) : (s.bellRefuse c cmd result).arb = s.arb := rfl
@[simp] theorem bellRefuse_jtag (c cmd result : Nat) : (s.bellRefuse c cmd result).jtag = s.jtag := rfl
@[simp] theorem bellRefuse_free (c cmd result : Nat) : (s.bellRefuse c cmd result).free = s.free := rfl
@[simp] theorem bellRefuse_resp (c cmd result : Nat) : (s.bellRefuse c cmd result).resp = s.resp := rfl
@[simp] theorem bellRefuse_pending (c cmd result : Nat) : (s.bellRefuse c cmd result).pending = s.pending := rfl

/-! ### abortChan -/
@[simp] theorem abortChan_fuse (c : Nat) : (s.abortChan c).fuse = s.fuse := rfl
@[simp] theorem abortChan_strap (c : Nat) : (s.abortChan c).strap = s.strap := rfl
@[simp] theorem abortChan_clk (c : Nat) : (s.abortChan c).clk = s.clk := rfl
@[simp] theorem abortChan_pwr (c : Nat) : (s.abortChan c).pwr = s.pwr := rfl
@[simp] theorem abortChan_md (c : Nat) : (s.abortChan c).md = s.md := rfl
@[simp] theorem abortChan_pin (c : Nat) : (s.abortChan c).pin = s.pin := rfl
@[simp] theorem abortChan_rcl (c : Nat) : (s.abortChan c).rcl = s.rcl := rfl
@[simp] theorem abortChan_evt (c : Nat) : (s.abortChan c).evt = s.evt := rfl
@[simp] theorem abortChan_elog (c : Nat) : (s.abortChan c).elog = s.elog := rfl
@[simp] theorem abortChan_lh (c : Nat) : (s.abortChan c).lh = s.lh := rfl
@[simp] theorem abortChan_own (c : Nat) : (s.abortChan c).own = s.own := rfl
@[simp] theorem abortChan_tbl (c : Nat) : (s.abortChan c).tbl = s.tbl := rfl
@[simp] theorem abortChan_strait (c : Nat) : (s.abortChan c).strait = s.strait := rfl
@[simp] theorem abortChan_i3c (c : Nat) : (s.abortChan c).i3c = s.i3c := rfl
@[simp] theorem abortChan_link (c : Nat) : (s.abortChan c).link = s.link := rfl
@[simp] theorem abortChan_mbox (c : Nat) : (s.abortChan c).mbox = s.mbox := rfl
@[simp] theorem abortChan_cad (c : Nat) : (s.abortChan c).cad = s.cad := rfl
@[simp] theorem abortChan_plan (c : Nat) : (s.abortChan c).plan = s.plan := rfl
@[simp] theorem abortChan_commit (c : Nat) : (s.abortChan c).commit = s.commit := rfl
@[simp] theorem abortChan_t0 (c : Nat) : (s.abortChan c).t0 = s.t0 := rfl
@[simp] theorem abortChan_t1 (c : Nat) : (s.abortChan c).t1 = s.t1 := rfl
@[simp] theorem abortChan_t2 (c : Nat) : (s.abortChan c).t2 = s.t2 := rfl
@[simp] theorem abortChan_tide (c : Nat) : (s.abortChan c).tide = s.tide := rfl
@[simp] theorem abortChan_comp (c : Nat) : (s.abortChan c).comp = s.comp := rfl
@[simp] theorem abortChan_trav (c : Nat) : (s.abortChan c).trav = s.trav := rfl
@[simp] theorem abortChan_store (c : Nat) : (s.abortChan c).store = s.store := rfl
@[simp] theorem abortChan_ent (c : Nat) : (s.abortChan c).ent = s.ent := rfl
@[simp] theorem abortChan_keys (c : Nat) : (s.abortChan c).keys = s.keys := rfl
@[simp] theorem abortChan_stew (c : Nat) : (s.abortChan c).stew = s.stew := rfl
@[simp] theorem abortChan_drain (c : Nat) : (s.abortChan c).drain = s.drain := rfl
@[simp] theorem abortChan_err (c : Nat) : (s.abortChan c).err = s.err := rfl
@[simp] theorem abortChan_arb (c : Nat) : (s.abortChan c).arb = s.arb := rfl
@[simp] theorem abortChan_jtag (c : Nat) : (s.abortChan c).jtag = s.jtag := rfl
@[simp] theorem abortChan_free (c : Nat) : (s.abortChan c).free = s.free := rfl
@[simp] theorem abortChan_resp (c : Nat) : (s.abortChan c).resp = s.resp := rfl
@[simp] theorem abortChan_pending (c : Nat) : (s.abortChan c).pending = s.pending := rfl

/-! ### spendCredit -/
@[simp] theorem spendCredit_fuse (p : Port) : (s.spendCredit p).fuse = s.fuse := rfl
@[simp] theorem spendCredit_strap (p : Port) : (s.spendCredit p).strap = s.strap := rfl
@[simp] theorem spendCredit_clk (p : Port) : (s.spendCredit p).clk = s.clk := rfl
@[simp] theorem spendCredit_pwr (p : Port) : (s.spendCredit p).pwr = s.pwr := rfl
@[simp] theorem spendCredit_md (p : Port) : (s.spendCredit p).md = s.md := rfl
@[simp] theorem spendCredit_pin (p : Port) : (s.spendCredit p).pin = s.pin := rfl
@[simp] theorem spendCredit_rcl (p : Port) : (s.spendCredit p).rcl = s.rcl := rfl
@[simp] theorem spendCredit_evt (p : Port) : (s.spendCredit p).evt = s.evt := rfl
@[simp] theorem spendCredit_elog (p : Port) : (s.spendCredit p).elog = s.elog := rfl
@[simp] theorem spendCredit_lh (p : Port) : (s.spendCredit p).lh = s.lh := rfl
@[simp] theorem spendCredit_own (p : Port) : (s.spendCredit p).own = s.own := rfl
@[simp] theorem spendCredit_tbl (p : Port) : (s.spendCredit p).tbl = s.tbl := rfl
@[simp] theorem spendCredit_strait (p : Port) : (s.spendCredit p).strait = s.strait := rfl
@[simp] theorem spendCredit_i3c (p : Port) : (s.spendCredit p).i3c = s.i3c := rfl
@[simp] theorem spendCredit_mbox (p : Port) : (s.spendCredit p).mbox = s.mbox := rfl
@[simp] theorem spendCredit_cad (p : Port) : (s.spendCredit p).cad = s.cad := rfl
@[simp] theorem spendCredit_plan (p : Port) : (s.spendCredit p).plan = s.plan := rfl
@[simp] theorem spendCredit_commit (p : Port) : (s.spendCredit p).commit = s.commit := rfl
@[simp] theorem spendCredit_ferry (p : Port) : (s.spendCredit p).ferry = s.ferry := rfl
@[simp] theorem spendCredit_t0 (p : Port) : (s.spendCredit p).t0 = s.t0 := rfl
@[simp] theorem spendCredit_t1 (p : Port) : (s.spendCredit p).t1 = s.t1 := rfl
@[simp] theorem spendCredit_t2 (p : Port) : (s.spendCredit p).t2 = s.t2 := rfl
@[simp] theorem spendCredit_tide (p : Port) : (s.spendCredit p).tide = s.tide := rfl
@[simp] theorem spendCredit_comp (p : Port) : (s.spendCredit p).comp = s.comp := rfl
@[simp] theorem spendCredit_trav (p : Port) : (s.spendCredit p).trav = s.trav := rfl
@[simp] theorem spendCredit_store (p : Port) : (s.spendCredit p).store = s.store := rfl
@[simp] theorem spendCredit_ent (p : Port) : (s.spendCredit p).ent = s.ent := rfl
@[simp] theorem spendCredit_keys (p : Port) : (s.spendCredit p).keys = s.keys := rfl
@[simp] theorem spendCredit_stew (p : Port) : (s.spendCredit p).stew = s.stew := rfl
@[simp] theorem spendCredit_drain (p : Port) : (s.spendCredit p).drain = s.drain := rfl
@[simp] theorem spendCredit_err (p : Port) : (s.spendCredit p).err = s.err := rfl
@[simp] theorem spendCredit_arb (p : Port) : (s.spendCredit p).arb = s.arb := rfl
@[simp] theorem spendCredit_jtag (p : Port) : (s.spendCredit p).jtag = s.jtag := rfl
@[simp] theorem spendCredit_free (p : Port) : (s.spendCredit p).free = s.free := rfl
@[simp] theorem spendCredit_resp (p : Port) : (s.spendCredit p).resp = s.resp := rfl
@[simp] theorem spendCredit_pending (p : Port) : (s.spendCredit p).pending = s.pending := rfl

/-! ### returnCredit -/
@[simp] theorem returnCredit_fuse (p : Port) : (s.returnCredit p).fuse = s.fuse := rfl
@[simp] theorem returnCredit_strap (p : Port) : (s.returnCredit p).strap = s.strap := rfl
@[simp] theorem returnCredit_clk (p : Port) : (s.returnCredit p).clk = s.clk := rfl
@[simp] theorem returnCredit_pwr (p : Port) : (s.returnCredit p).pwr = s.pwr := rfl
@[simp] theorem returnCredit_md (p : Port) : (s.returnCredit p).md = s.md := rfl
@[simp] theorem returnCredit_pin (p : Port) : (s.returnCredit p).pin = s.pin := rfl
@[simp] theorem returnCredit_rcl (p : Port) : (s.returnCredit p).rcl = s.rcl := rfl
@[simp] theorem returnCredit_evt (p : Port) : (s.returnCredit p).evt = s.evt := rfl
@[simp] theorem returnCredit_elog (p : Port) : (s.returnCredit p).elog = s.elog := rfl
@[simp] theorem returnCredit_lh (p : Port) : (s.returnCredit p).lh = s.lh := rfl
@[simp] theorem returnCredit_own (p : Port) : (s.returnCredit p).own = s.own := rfl
@[simp] theorem returnCredit_tbl (p : Port) : (s.returnCredit p).tbl = s.tbl := rfl
@[simp] theorem returnCredit_strait (p : Port) : (s.returnCredit p).strait = s.strait := rfl
@[simp] theorem returnCredit_i3c (p : Port) : (s.returnCredit p).i3c = s.i3c := rfl
@[simp] theorem returnCredit_mbox (p : Port) : (s.returnCredit p).mbox = s.mbox := rfl
@[simp] theorem returnCredit_cad (p : Port) : (s.returnCredit p).cad = s.cad := rfl
@[simp] theorem returnCredit_plan (p : Port) : (s.returnCredit p).plan = s.plan := rfl
@[simp] theorem returnCredit_commit (p : Port) : (s.returnCredit p).commit = s.commit := rfl
@[simp] theorem returnCredit_ferry (p : Port) : (s.returnCredit p).ferry = s.ferry := rfl
@[simp] theorem returnCredit_t0 (p : Port) : (s.returnCredit p).t0 = s.t0 := rfl
@[simp] theorem returnCredit_t1 (p : Port) : (s.returnCredit p).t1 = s.t1 := rfl
@[simp] theorem returnCredit_t2 (p : Port) : (s.returnCredit p).t2 = s.t2 := rfl
@[simp] theorem returnCredit_tide (p : Port) : (s.returnCredit p).tide = s.tide := rfl
@[simp] theorem returnCredit_comp (p : Port) : (s.returnCredit p).comp = s.comp := rfl
@[simp] theorem returnCredit_trav (p : Port) : (s.returnCredit p).trav = s.trav := rfl
@[simp] theorem returnCredit_store (p : Port) : (s.returnCredit p).store = s.store := rfl
@[simp] theorem returnCredit_ent (p : Port) : (s.returnCredit p).ent = s.ent := rfl
@[simp] theorem returnCredit_keys (p : Port) : (s.returnCredit p).keys = s.keys := rfl
@[simp] theorem returnCredit_stew (p : Port) : (s.returnCredit p).stew = s.stew := rfl
@[simp] theorem returnCredit_drain (p : Port) : (s.returnCredit p).drain = s.drain := rfl
@[simp] theorem returnCredit_err (p : Port) : (s.returnCredit p).err = s.err := rfl
@[simp] theorem returnCredit_arb (p : Port) : (s.returnCredit p).arb = s.arb := rfl
@[simp] theorem returnCredit_jtag (p : Port) : (s.returnCredit p).jtag = s.jtag := rfl
@[simp] theorem returnCredit_free (p : Port) : (s.returnCredit p).free = s.free := rfl
@[simp] theorem returnCredit_pending (p : Port) : (s.returnCredit p).pending = s.pending := rfl

/-! ### advertise -/
@[simp] theorem advertise_fuse (p : Port) : (s.advertise p).fuse = s.fuse := rfl
@[simp] theorem advertise_strap (p : Port) : (s.advertise p).strap = s.strap := rfl
@[simp] theorem advertise_clk (p : Port) : (s.advertise p).clk = s.clk := rfl
@[simp] theorem advertise_pwr (p : Port) : (s.advertise p).pwr = s.pwr := rfl
@[simp] theorem advertise_md (p : Port) : (s.advertise p).md = s.md := rfl
@[simp] theorem advertise_pin (p : Port) : (s.advertise p).pin = s.pin := rfl
@[simp] theorem advertise_rcl (p : Port) : (s.advertise p).rcl = s.rcl := rfl
@[simp] theorem advertise_evt (p : Port) : (s.advertise p).evt = s.evt := rfl
@[simp] theorem advertise_elog (p : Port) : (s.advertise p).elog = s.elog := rfl
@[simp] theorem advertise_lh (p : Port) : (s.advertise p).lh = s.lh := rfl
@[simp] theorem advertise_own (p : Port) : (s.advertise p).own = s.own := rfl
@[simp] theorem advertise_tbl (p : Port) : (s.advertise p).tbl = s.tbl := rfl
@[simp] theorem advertise_strait (p : Port) : (s.advertise p).strait = s.strait := rfl
@[simp] theorem advertise_i3c (p : Port) : (s.advertise p).i3c = s.i3c := rfl
@[simp] theorem advertise_mbox (p : Port) : (s.advertise p).mbox = s.mbox := rfl
@[simp] theorem advertise_cad (p : Port) : (s.advertise p).cad = s.cad := rfl
@[simp] theorem advertise_plan (p : Port) : (s.advertise p).plan = s.plan := rfl
@[simp] theorem advertise_commit (p : Port) : (s.advertise p).commit = s.commit := rfl
@[simp] theorem advertise_ferry (p : Port) : (s.advertise p).ferry = s.ferry := rfl
@[simp] theorem advertise_t0 (p : Port) : (s.advertise p).t0 = s.t0 := rfl
@[simp] theorem advertise_t1 (p : Port) : (s.advertise p).t1 = s.t1 := rfl
@[simp] theorem advertise_t2 (p : Port) : (s.advertise p).t2 = s.t2 := rfl
@[simp] theorem advertise_tide (p : Port) : (s.advertise p).tide = s.tide := rfl
@[simp] theorem advertise_comp (p : Port) : (s.advertise p).comp = s.comp := rfl
@[simp] theorem advertise_trav (p : Port) : (s.advertise p).trav = s.trav := rfl
@[simp] theorem advertise_store (p : Port) : (s.advertise p).store = s.store := rfl
@[simp] theorem advertise_ent (p : Port) : (s.advertise p).ent = s.ent := rfl
@[simp] theorem advertise_keys (p : Port) : (s.advertise p).keys = s.keys := rfl
@[simp] theorem advertise_stew (p : Port) : (s.advertise p).stew = s.stew := rfl
@[simp] theorem advertise_drain (p : Port) : (s.advertise p).drain = s.drain := rfl
@[simp] theorem advertise_err (p : Port) : (s.advertise p).err = s.err := rfl
@[simp] theorem advertise_arb (p : Port) : (s.advertise p).arb = s.arb := rfl
@[simp] theorem advertise_jtag (p : Port) : (s.advertise p).jtag = s.jtag := rfl
@[simp] theorem advertise_free (p : Port) : (s.advertise p).free = s.free := rfl
@[simp] theorem advertise_resp (p : Port) : (s.advertise p).resp = s.resp := rfl
@[simp] theorem advertise_pending (p : Port) : (s.advertise p).pending = s.pending := rfl

/-! ### takeSlot -/
@[simp] theorem takeSlot_fuse (idx tile : Nat) (h : Holder) (port : Option Port) (chan win : Option Nat) (pos : Nat) :
    (s.takeSlot idx tile h port chan win pos).fuse = s.fuse := rfl
@[simp] theorem takeSlot_strap (idx tile : Nat) (h : Holder) (port : Option Port) (chan win : Option Nat) (pos : Nat) :
    (s.takeSlot idx tile h port chan win pos).strap = s.strap := rfl
@[simp] theorem takeSlot_clk (idx tile : Nat) (h : Holder) (port : Option Port) (chan win : Option Nat) (pos : Nat) :
    (s.takeSlot idx tile h port chan win pos).clk = s.clk := rfl
@[simp] theorem takeSlot_pwr (idx tile : Nat) (h : Holder) (port : Option Port) (chan win : Option Nat) (pos : Nat) :
    (s.takeSlot idx tile h port chan win pos).pwr = s.pwr := rfl
@[simp] theorem takeSlot_md (idx tile : Nat) (h : Holder) (port : Option Port) (chan win : Option Nat) (pos : Nat) :
    (s.takeSlot idx tile h port chan win pos).md = s.md := rfl
@[simp] theorem takeSlot_pin (idx tile : Nat) (h : Holder) (port : Option Port) (chan win : Option Nat) (pos : Nat) :
    (s.takeSlot idx tile h port chan win pos).pin = s.pin := rfl
@[simp] theorem takeSlot_rcl (idx tile : Nat) (h : Holder) (port : Option Port) (chan win : Option Nat) (pos : Nat) :
    (s.takeSlot idx tile h port chan win pos).rcl = s.rcl := rfl
@[simp] theorem takeSlot_evt (idx tile : Nat) (h : Holder) (port : Option Port) (chan win : Option Nat) (pos : Nat) :
    (s.takeSlot idx tile h port chan win pos).evt = s.evt := rfl
@[simp] theorem takeSlot_elog (idx tile : Nat) (h : Holder) (port : Option Port) (chan win : Option Nat) (pos : Nat) :
    (s.takeSlot idx tile h port chan win pos).elog = s.elog := rfl
@[simp] theorem takeSlot_lh (idx tile : Nat) (h : Holder) (port : Option Port) (chan win : Option Nat) (pos : Nat) :
    (s.takeSlot idx tile h port chan win pos).lh = s.lh := rfl
@[simp] theorem takeSlot_own (idx tile : Nat) (h : Holder) (port : Option Port) (chan win : Option Nat) (pos : Nat) :
    (s.takeSlot idx tile h port chan win pos).own = s.own := rfl
@[simp] theorem takeSlot_tbl (idx tile : Nat) (h : Holder) (port : Option Port) (chan win : Option Nat) (pos : Nat) :
    (s.takeSlot idx tile h port chan win pos).tbl = s.tbl := rfl
@[simp] theorem takeSlot_strait (idx tile : Nat) (h : Holder) (port : Option Port) (chan win : Option Nat) (pos : Nat) :
    (s.takeSlot idx tile h port chan win pos).strait = s.strait := rfl
@[simp] theorem takeSlot_i3c (idx tile : Nat) (h : Holder) (port : Option Port) (chan win : Option Nat) (pos : Nat) :
    (s.takeSlot idx tile h port chan win pos).i3c = s.i3c := rfl
@[simp] theorem takeSlot_link (idx tile : Nat) (h : Holder) (port : Option Port) (chan win : Option Nat) (pos : Nat) :
    (s.takeSlot idx tile h port chan win pos).link = s.link := rfl
@[simp] theorem takeSlot_mbox (idx tile : Nat) (h : Holder) (port : Option Port) (chan win : Option Nat) (pos : Nat) :
    (s.takeSlot idx tile h port chan win pos).mbox = s.mbox := rfl
@[simp] theorem takeSlot_cad (idx tile : Nat) (h : Holder) (port : Option Port) (chan win : Option Nat) (pos : Nat) :
    (s.takeSlot idx tile h port chan win pos).cad = s.cad := rfl
@[simp] theorem takeSlot_plan (idx tile : Nat) (h : Holder) (port : Option Port) (chan win : Option Nat) (pos : Nat) :
    (s.takeSlot idx tile h port chan win pos).plan = s.plan := rfl
@[simp] theorem takeSlot_commit (idx tile : Nat) (h : Holder) (port : Option Port) (chan win : Option Nat) (pos : Nat) :
    (s.takeSlot idx tile h port chan win pos).commit = s.commit := rfl
@[simp] theorem takeSlot_ferry (idx tile : Nat) (h : Holder) (port : Option Port) (chan win : Option Nat) (pos : Nat) :
    (s.takeSlot idx tile h port chan win pos).ferry = s.ferry := rfl
@[simp] theorem takeSlot_t2 (idx tile : Nat) (h : Holder) (port : Option Port) (chan win : Option Nat) (pos : Nat) :
    (s.takeSlot idx tile h port chan win pos).t2 = s.t2 := rfl
@[simp] theorem takeSlot_tide (idx tile : Nat) (h : Holder) (port : Option Port) (chan win : Option Nat) (pos : Nat) :
    (s.takeSlot idx tile h port chan win pos).tide = s.tide := rfl
@[simp] theorem takeSlot_comp (idx tile : Nat) (h : Holder) (port : Option Port) (chan win : Option Nat) (pos : Nat) :
    (s.takeSlot idx tile h port chan win pos).comp = s.comp := rfl
@[simp] theorem takeSlot_trav (idx tile : Nat) (h : Holder) (port : Option Port) (chan win : Option Nat) (pos : Nat) :
    (s.takeSlot idx tile h port chan win pos).trav = s.trav := rfl
@[simp] theorem takeSlot_store (idx tile : Nat) (h : Holder) (port : Option Port) (chan win : Option Nat) (pos : Nat) :
    (s.takeSlot idx tile h port chan win pos).store = s.store := rfl
@[simp] theorem takeSlot_ent (idx tile : Nat) (h : Holder) (port : Option Port) (chan win : Option Nat) (pos : Nat) :
    (s.takeSlot idx tile h port chan win pos).ent = s.ent := rfl
@[simp] theorem takeSlot_keys (idx tile : Nat) (h : Holder) (port : Option Port) (chan win : Option Nat) (pos : Nat) :
    (s.takeSlot idx tile h port chan win pos).keys = s.keys := rfl
@[simp] theorem takeSlot_stew (idx tile : Nat) (h : Holder) (port : Option Port) (chan win : Option Nat) (pos : Nat) :
    (s.takeSlot idx tile h port chan win pos).stew = s.stew := rfl
@[simp] theorem takeSlot_drain (idx tile : Nat) (h : Holder) (port : Option Port) (chan win : Option Nat) (pos : Nat) :
    (s.takeSlot idx tile h port chan win pos).drain = s.drain := rfl
@[simp] theorem takeSlot_err (idx tile : Nat) (h : Holder) (port : Option Port) (chan win : Option Nat) (pos : Nat) :
    (s.takeSlot idx tile h port chan win pos).err = s.err := rfl
@[simp] theorem takeSlot_arb (idx tile : Nat) (h : Holder) (port : Option Port) (chan win : Option Nat) (pos : Nat) :
    (s.takeSlot idx tile h port chan win pos).arb = s.arb := rfl
@[simp] theorem takeSlot_jtag (idx tile : Nat) (h : Holder) (port : Option Port) (chan win : Option Nat) (pos : Nat) :
    (s.takeSlot idx tile h port chan win pos).jtag = s.jtag := rfl
@[simp] theorem takeSlot_free (idx tile : Nat) (h : Holder) (port : Option Port) (chan win : Option Nat) (pos : Nat) :
    (s.takeSlot idx tile h port chan win pos).free = s.free := rfl
@[simp] theorem takeSlot_resp (idx tile : Nat) (h : Holder) (port : Option Port) (chan win : Option Nat) (pos : Nat) :
    (s.takeSlot idx tile h port chan win pos).resp = s.resp := rfl
@[simp] theorem takeSlot_pending (idx tile : Nat) (h : Holder) (port : Option Port) (chan win : Option Nat) (pos : Nat) :
    (s.takeSlot idx tile h port chan win pos).pending = s.pending := rfl

/-! ### touch -/
@[simp] theorem touch_fuse (p : Path) : (s.touch p).fuse = s.fuse := by unfold State.touch; split <;> rfl
@[simp] theorem touch_strap (p : Path) : (s.touch p).strap = s.strap := by unfold State.touch; split <;> rfl
@[simp] theorem touch_clk (p : Path) : (s.touch p).clk = s.clk := by unfold State.touch; split <;> rfl
@[simp] theorem touch_pwr (p : Path) : (s.touch p).pwr = s.pwr := by unfold State.touch; split <;> rfl
@[simp] theorem touch_md (p : Path) : (s.touch p).md = s.md := by unfold State.touch; split <;> rfl
@[simp] theorem touch_pin (p : Path) : (s.touch p).pin = s.pin := by unfold State.touch; split <;> rfl
@[simp] theorem touch_rcl (p : Path) : (s.touch p).rcl = s.rcl := by unfold State.touch; split <;> rfl
@[simp] theorem touch_evt (p : Path) : (s.touch p).evt = s.evt := by unfold State.touch; split <;> rfl
@[simp] theorem touch_elog (p : Path) : (s.touch p).elog = s.elog := by unfold State.touch; split <;> rfl
@[simp] theorem touch_lh (p : Path) : (s.touch p).lh = s.lh := by unfold State.touch; split <;> rfl
@[simp] theorem touch_tbl (p : Path) : (s.touch p).tbl = s.tbl := by unfold State.touch; split <;> rfl
@[simp] theorem touch_strait (p : Path) : (s.touch p).strait = s.strait := by unfold State.touch; split <;> rfl
@[simp] theorem touch_i3c (p : Path) : (s.touch p).i3c = s.i3c := by unfold State.touch; split <;> rfl
@[simp] theorem touch_link (p : Path) : (s.touch p).link = s.link := by unfold State.touch; split <;> rfl
@[simp] theorem touch_mbox (p : Path) : (s.touch p).mbox = s.mbox := by unfold State.touch; split <;> rfl
@[simp] theorem touch_cad (p : Path) : (s.touch p).cad = s.cad := by unfold State.touch; split <;> rfl
@[simp] theorem touch_plan (p : Path) : (s.touch p).plan = s.plan := by unfold State.touch; split <;> rfl
@[simp] theorem touch_commit (p : Path) : (s.touch p).commit = s.commit := by unfold State.touch; split <;> rfl
@[simp] theorem touch_ferry (p : Path) : (s.touch p).ferry = s.ferry := by unfold State.touch; split <;> rfl
@[simp] theorem touch_t0 (p : Path) : (s.touch p).t0 = s.t0 := by unfold State.touch; split <;> rfl
@[simp] theorem touch_t1 (p : Path) : (s.touch p).t1 = s.t1 := by unfold State.touch; split <;> rfl
@[simp] theorem touch_t2 (p : Path) : (s.touch p).t2 = s.t2 := by unfold State.touch; split <;> rfl
@[simp] theorem touch_tide (p : Path) : (s.touch p).tide = s.tide := by unfold State.touch; split <;> rfl
@[simp] theorem touch_comp (p : Path) : (s.touch p).comp = s.comp := by unfold State.touch; split <;> rfl
@[simp] theorem touch_trav (p : Path) : (s.touch p).trav = s.trav := by unfold State.touch; split <;> rfl
@[simp] theorem touch_store (p : Path) : (s.touch p).store = s.store := by unfold State.touch; split <;> rfl
@[simp] theorem touch_ent (p : Path) : (s.touch p).ent = s.ent := by unfold State.touch; split <;> rfl
@[simp] theorem touch_keys (p : Path) : (s.touch p).keys = s.keys := by unfold State.touch; split <;> rfl
@[simp] theorem touch_stew (p : Path) : (s.touch p).stew = s.stew := by unfold State.touch; split <;> rfl
@[simp] theorem touch_drain (p : Path) : (s.touch p).drain = s.drain := by unfold State.touch; split <;> rfl
@[simp] theorem touch_err (p : Path) : (s.touch p).err = s.err := by unfold State.touch; split <;> rfl
@[simp] theorem touch_arb (p : Path) : (s.touch p).arb = s.arb := by unfold State.touch; split <;> rfl
@[simp] theorem touch_jtag (p : Path) : (s.touch p).jtag = s.jtag := by unfold State.touch; split <;> rfl
@[simp] theorem touch_free (p : Path) : (s.touch p).free = s.free := by unfold State.touch; split <;> rfl
@[simp] theorem touch_resp (p : Path) : (s.touch p).resp = s.resp := by unfold State.touch; split <;> rfl
@[simp] theorem touch_pending (p : Path) : (s.touch p).pending = s.pending := by unfold State.touch; split <;> rfl

/-! ### setRestrict -/
@[simp] theorem setRestrict_fuse (r : Restrict) : (s.setRestrict r).fuse = s.fuse := by unfold State.setRestrict; split <;> rfl
@[simp] theorem setRestrict_strap (r : Restrict) : (s.setRestrict r).strap = s.strap := by unfold State.setRestrict; split <;> rfl
@[simp] theorem setRestrict_clk (r : Restrict) : (s.setRestrict r).clk = s.clk := by unfold State.setRestrict; split <;> rfl
@[simp] theorem setRestrict_pwr (r : Restrict) : (s.setRestrict r).pwr = s.pwr := by unfold State.setRestrict; split <;> rfl
@[simp] theorem setRestrict_pin (r : Restrict) : (s.setRestrict r).pin = s.pin := by unfold State.setRestrict; split <;> rfl
@[simp] theorem setRestrict_rcl (r : Restrict) : (s.setRestrict r).rcl = s.rcl := by unfold State.setRestrict; split <;> rfl
@[simp] theorem setRestrict_elog (r : Restrict) : (s.setRestrict r).elog = s.elog := by unfold State.setRestrict; split <;> rfl
@[simp] theorem setRestrict_lh (r : Restrict) : (s.setRestrict r).lh = s.lh := by unfold State.setRestrict; split <;> rfl
@[simp] theorem setRestrict_own (r : Restrict) : (s.setRestrict r).own = s.own := by unfold State.setRestrict; split <;> rfl
@[simp] theorem setRestrict_tbl (r : Restrict) : (s.setRestrict r).tbl = s.tbl := by unfold State.setRestrict; split <;> rfl
@[simp] theorem setRestrict_strait (r : Restrict) : (s.setRestrict r).strait = s.strait := by unfold State.setRestrict; split <;> rfl
@[simp] theorem setRestrict_i3c (r : Restrict) : (s.setRestrict r).i3c = s.i3c := by unfold State.setRestrict; split <;> rfl
@[simp] theorem setRestrict_link (r : Restrict) : (s.setRestrict r).link = s.link := by unfold State.setRestrict; split <;> rfl
@[simp] theorem setRestrict_mbox (r : Restrict) : (s.setRestrict r).mbox = s.mbox := by unfold State.setRestrict; split <;> rfl
@[simp] theorem setRestrict_cad (r : Restrict) : (s.setRestrict r).cad = s.cad := by unfold State.setRestrict; split <;> rfl
@[simp] theorem setRestrict_plan (r : Restrict) : (s.setRestrict r).plan = s.plan := by unfold State.setRestrict; split <;> rfl
@[simp] theorem setRestrict_commit (r : Restrict) : (s.setRestrict r).commit = s.commit := by unfold State.setRestrict; split <;> rfl
@[simp] theorem setRestrict_ferry (r : Restrict) : (s.setRestrict r).ferry = s.ferry := by unfold State.setRestrict; split <;> rfl
@[simp] theorem setRestrict_t0 (r : Restrict) : (s.setRestrict r).t0 = s.t0 := by unfold State.setRestrict; split <;> rfl
@[simp] theorem setRestrict_t1 (r : Restrict) : (s.setRestrict r).t1 = s.t1 := by unfold State.setRestrict; split <;> rfl
@[simp] theorem setRestrict_t2 (r : Restrict) : (s.setRestrict r).t2 = s.t2 := by unfold State.setRestrict; split <;> rfl
@[simp] theorem setRestrict_tide (r : Restrict) : (s.setRestrict r).tide = s.tide := by unfold State.setRestrict; split <;> rfl
@[simp] theorem setRestrict_comp (r : Restrict) : (s.setRestrict r).comp = s.comp := by unfold State.setRestrict; split <;> rfl
@[simp] theorem setRestrict_trav (r : Restrict) : (s.setRestrict r).trav = s.trav := by unfold State.setRestrict; split <;> rfl
@[simp] theorem setRestrict_store (r : Restrict) : (s.setRestrict r).store = s.store := by unfold State.setRestrict; split <;> rfl
@[simp] theorem setRestrict_ent (r : Restrict) : (s.setRestrict r).ent = s.ent := by unfold State.setRestrict; split <;> rfl
@[simp] theorem setRestrict_keys (r : Restrict) : (s.setRestrict r).keys = s.keys := by unfold State.setRestrict; split <;> rfl
@[simp] theorem setRestrict_stew (r : Restrict) : (s.setRestrict r).stew = s.stew := by unfold State.setRestrict; split <;> rfl
@[simp] theorem setRestrict_drain (r : Restrict) : (s.setRestrict r).drain = s.drain := by unfold State.setRestrict; split <;> rfl
@[simp] theorem setRestrict_err (r : Restrict) : (s.setRestrict r).err = s.err := by unfold State.setRestrict; split <;> rfl
@[simp] theorem setRestrict_arb (r : Restrict) : (s.setRestrict r).arb = s.arb := by unfold State.setRestrict; split <;> rfl
@[simp] theorem setRestrict_jtag (r : Restrict) : (s.setRestrict r).jtag = s.jtag := by unfold State.setRestrict; split <;> rfl
@[simp] theorem setRestrict_free (r : Restrict) : (s.setRestrict r).free = s.free := by unfold State.setRestrict; split <;> rfl
@[simp] theorem setRestrict_resp (r : Restrict) : (s.setRestrict r).resp = s.resp := by unfold State.setRestrict; split <;> rfl
@[simp] theorem setRestrict_pending (r : Restrict) : (s.setRestrict r).pending = s.pending := by unfold State.setRestrict; split <;> rfl

/-! ### engineFree -/
@[simp] theorem engineFree_fuse : s.engineFree.fuse = s.fuse := rfl
@[simp] theorem engineFree_strap : s.engineFree.strap = s.strap := rfl
@[simp] theorem engineFree_clk : s.engineFree.clk = s.clk := rfl
@[simp] theorem engineFree_pwr : s.engineFree.pwr = s.pwr := rfl
@[simp] theorem engineFree_md : s.engineFree.md = s.md := rfl
@[simp] theorem engineFree_pin : s.engineFree.pin = s.pin := rfl
@[simp] theorem engineFree_rcl : s.engineFree.rcl = s.rcl := rfl
@[simp] theorem engineFree_evt : s.engineFree.evt = s.evt := rfl
@[simp] theorem engineFree_elog : s.engineFree.elog = s.elog := rfl
@[simp] theorem engineFree_lh : s.engineFree.lh = s.lh := rfl
@[simp] theorem engineFree_own : s.engineFree.own = s.own := rfl
@[simp] theorem engineFree_tbl : s.engineFree.tbl = s.tbl := rfl
@[simp] theorem engineFree_strait : s.engineFree.strait = s.strait := rfl
@[simp] theorem engineFree_i3c : s.engineFree.i3c = s.i3c := rfl
@[simp] theorem engineFree_link : s.engineFree.link = s.link := rfl
@[simp] theorem engineFree_mbox : s.engineFree.mbox = s.mbox := rfl
@[simp] theorem engineFree_cad : s.engineFree.cad = s.cad := rfl
@[simp] theorem engineFree_plan : s.engineFree.plan = s.plan := rfl
@[simp] theorem engineFree_commit : s.engineFree.commit = s.commit := rfl
@[simp] theorem engineFree_ferry : s.engineFree.ferry = s.ferry := rfl
@[simp] theorem engineFree_t0 : s.engineFree.t0 = s.t0 := rfl
@[simp] theorem engineFree_t1 : s.engineFree.t1 = s.t1 := rfl
@[simp] theorem engineFree_t2 : s.engineFree.t2 = s.t2 := rfl
@[simp] theorem engineFree_tide : s.engineFree.tide = s.tide := rfl
@[simp] theorem engineFree_comp : s.engineFree.comp = s.comp := rfl
@[simp] theorem engineFree_trav : s.engineFree.trav = s.trav := rfl
@[simp] theorem engineFree_ent : s.engineFree.ent = s.ent := rfl
@[simp] theorem engineFree_keys : s.engineFree.keys = s.keys := rfl
@[simp] theorem engineFree_stew : s.engineFree.stew = s.stew := rfl
@[simp] theorem engineFree_drain : s.engineFree.drain = s.drain := rfl
@[simp] theorem engineFree_err : s.engineFree.err = s.err := rfl
@[simp] theorem engineFree_arb : s.engineFree.arb = s.arb := rfl
@[simp] theorem engineFree_jtag : s.engineFree.jtag = s.jtag := rfl
@[simp] theorem engineFree_free : s.engineFree.free = s.free := rfl
@[simp] theorem engineFree_resp : s.engineFree.resp = s.resp := rfl
@[simp] theorem engineFree_pending : s.engineFree.pending = s.pending := rfl

/-! ### storeBusy -/
@[simp] theorem storeBusy_fuse : s.storeBusy.fuse = s.fuse := rfl
@[simp] theorem storeBusy_strap : s.storeBusy.strap = s.strap := rfl
@[simp] theorem storeBusy_clk : s.storeBusy.clk = s.clk := rfl
@[simp] theorem storeBusy_pwr : s.storeBusy.pwr = s.pwr := rfl
@[simp] theorem storeBusy_md : s.storeBusy.md = s.md := rfl
@[simp] theorem storeBusy_pin : s.storeBusy.pin = s.pin := rfl
@[simp] theorem storeBusy_rcl : s.storeBusy.rcl = s.rcl := rfl
@[simp] theorem storeBusy_evt : s.storeBusy.evt = s.evt := rfl
@[simp] theorem storeBusy_elog : s.storeBusy.elog = s.elog := rfl
@[simp] theorem storeBusy_lh : s.storeBusy.lh = s.lh := rfl
@[simp] theorem storeBusy_own : s.storeBusy.own = s.own := rfl
@[simp] theorem storeBusy_tbl : s.storeBusy.tbl = s.tbl := rfl
@[simp] theorem storeBusy_strait : s.storeBusy.strait = s.strait := rfl
@[simp] theorem storeBusy_i3c : s.storeBusy.i3c = s.i3c := rfl
@[simp] theorem storeBusy_link : s.storeBusy.link = s.link := rfl
@[simp] theorem storeBusy_mbox : s.storeBusy.mbox = s.mbox := rfl
@[simp] theorem storeBusy_cad : s.storeBusy.cad = s.cad := rfl
@[simp] theorem storeBusy_plan : s.storeBusy.plan = s.plan := rfl
@[simp] theorem storeBusy_commit : s.storeBusy.commit = s.commit := rfl
@[simp] theorem storeBusy_ferry : s.storeBusy.ferry = s.ferry := rfl
@[simp] theorem storeBusy_t0 : s.storeBusy.t0 = s.t0 := rfl
@[simp] theorem storeBusy_t1 : s.storeBusy.t1 = s.t1 := rfl
@[simp] theorem storeBusy_t2 : s.storeBusy.t2 = s.t2 := rfl
@[simp] theorem storeBusy_tide : s.storeBusy.tide = s.tide := rfl
@[simp] theorem storeBusy_comp : s.storeBusy.comp = s.comp := rfl
@[simp] theorem storeBusy_trav : s.storeBusy.trav = s.trav := rfl
@[simp] theorem storeBusy_ent : s.storeBusy.ent = s.ent := rfl
@[simp] theorem storeBusy_keys : s.storeBusy.keys = s.keys := rfl
@[simp] theorem storeBusy_stew : s.storeBusy.stew = s.stew := rfl
@[simp] theorem storeBusy_drain : s.storeBusy.drain = s.drain := rfl
@[simp] theorem storeBusy_err : s.storeBusy.err = s.err := rfl
@[simp] theorem storeBusy_arb : s.storeBusy.arb = s.arb := rfl
@[simp] theorem storeBusy_jtag : s.storeBusy.jtag = s.jtag := rfl
@[simp] theorem storeBusy_free : s.storeBusy.free = s.free := rfl
@[simp] theorem storeBusy_resp : s.storeBusy.resp = s.resp := rfl
@[simp] theorem storeBusy_pending : s.storeBusy.pending = s.pending := rfl

/-! ### startOp -/
@[simp] theorem startOp_fuse (op : StoreOp) (w : StoreWait) : (s.startOp op w).fuse = s.fuse := rfl
@[simp] theorem startOp_strap (op : StoreOp) (w : StoreWait) : (s.startOp op w).strap = s.strap := rfl
@[simp] theorem startOp_clk (op : StoreOp) (w : StoreWait) : (s.startOp op w).clk = s.clk := rfl
@[simp] theorem startOp_pwr (op : StoreOp) (w : StoreWait) : (s.startOp op w).pwr = s.pwr := rfl
@[simp] theorem startOp_md (op : StoreOp) (w : StoreWait) : (s.startOp op w).md = s.md := rfl
@[simp] theorem startOp_pin (op : StoreOp) (w : StoreWait) : (s.startOp op w).pin = s.pin := rfl
@[simp] theorem startOp_rcl (op : StoreOp) (w : StoreWait) : (s.startOp op w).rcl = s.rcl := rfl
@[simp] theorem startOp_evt (op : StoreOp) (w : StoreWait) : (s.startOp op w).evt = s.evt := rfl
@[simp] theorem startOp_elog (op : StoreOp) (w : StoreWait) : (s.startOp op w).elog = s.elog := rfl
@[simp] theorem startOp_lh (op : StoreOp) (w : StoreWait) : (s.startOp op w).lh = s.lh := rfl
@[simp] theorem startOp_own (op : StoreOp) (w : StoreWait) : (s.startOp op w).own = s.own := rfl
@[simp] theorem startOp_tbl (op : StoreOp) (w : StoreWait) : (s.startOp op w).tbl = s.tbl := rfl
@[simp] theorem startOp_strait (op : StoreOp) (w : StoreWait) : (s.startOp op w).strait = s.strait := rfl
@[simp] theorem startOp_i3c (op : StoreOp) (w : StoreWait) : (s.startOp op w).i3c = s.i3c := rfl
@[simp] theorem startOp_link (op : StoreOp) (w : StoreWait) : (s.startOp op w).link = s.link := rfl
@[simp] theorem startOp_mbox (op : StoreOp) (w : StoreWait) : (s.startOp op w).mbox = s.mbox := rfl
@[simp] theorem startOp_cad (op : StoreOp) (w : StoreWait) : (s.startOp op w).cad = s.cad := rfl
@[simp] theorem startOp_plan (op : StoreOp) (w : StoreWait) : (s.startOp op w).plan = s.plan := rfl
@[simp] theorem startOp_commit (op : StoreOp) (w : StoreWait) : (s.startOp op w).commit = s.commit := rfl
@[simp] theorem startOp_ferry (op : StoreOp) (w : StoreWait) : (s.startOp op w).ferry = s.ferry := rfl
@[simp] theorem startOp_t0 (op : StoreOp) (w : StoreWait) : (s.startOp op w).t0 = s.t0 := rfl
@[simp] theorem startOp_t1 (op : StoreOp) (w : StoreWait) : (s.startOp op w).t1 = s.t1 := rfl
@[simp] theorem startOp_t2 (op : StoreOp) (w : StoreWait) : (s.startOp op w).t2 = s.t2 := rfl
@[simp] theorem startOp_tide (op : StoreOp) (w : StoreWait) : (s.startOp op w).tide = s.tide := rfl
@[simp] theorem startOp_comp (op : StoreOp) (w : StoreWait) : (s.startOp op w).comp = s.comp := rfl
@[simp] theorem startOp_trav (op : StoreOp) (w : StoreWait) : (s.startOp op w).trav = s.trav := rfl
@[simp] theorem startOp_ent (op : StoreOp) (w : StoreWait) : (s.startOp op w).ent = s.ent := rfl
@[simp] theorem startOp_keys (op : StoreOp) (w : StoreWait) : (s.startOp op w).keys = s.keys := rfl
@[simp] theorem startOp_stew (op : StoreOp) (w : StoreWait) : (s.startOp op w).stew = s.stew := rfl
@[simp] theorem startOp_drain (op : StoreOp) (w : StoreWait) : (s.startOp op w).drain = s.drain := rfl
@[simp] theorem startOp_err (op : StoreOp) (w : StoreWait) : (s.startOp op w).err = s.err := rfl
@[simp] theorem startOp_arb (op : StoreOp) (w : StoreWait) : (s.startOp op w).arb = s.arb := rfl
@[simp] theorem startOp_jtag (op : StoreOp) (w : StoreWait) : (s.startOp op w).jtag = s.jtag := rfl
@[simp] theorem startOp_free (op : StoreOp) (w : StoreWait) : (s.startOp op w).free = s.free := rfl
@[simp] theorem startOp_resp (op : StoreOp) (w : StoreWait) : (s.startOp op w).resp = s.resp := rfl
@[simp] theorem startOp_pending (op : StoreOp) (w : StoreWait) : (s.startOp op w).pending = s.pending := rfl

/-! ### domainsOff -/
@[simp] theorem domainsOff_fuse (m : Byte) : (s.domainsOff m).fuse = s.fuse := rfl
@[simp] theorem domainsOff_strap (m : Byte) : (s.domainsOff m).strap = s.strap := rfl
@[simp] theorem domainsOff_clk (m : Byte) : (s.domainsOff m).clk = s.clk := rfl
@[simp] theorem domainsOff_md (m : Byte) : (s.domainsOff m).md = s.md := rfl
@[simp] theorem domainsOff_pin (m : Byte) : (s.domainsOff m).pin = s.pin := rfl
@[simp] theorem domainsOff_rcl (m : Byte) : (s.domainsOff m).rcl = s.rcl := rfl
@[simp] theorem domainsOff_evt (m : Byte) : (s.domainsOff m).evt = s.evt := rfl
@[simp] theorem domainsOff_elog (m : Byte) : (s.domainsOff m).elog = s.elog := rfl
@[simp] theorem domainsOff_lh (m : Byte) : (s.domainsOff m).lh = s.lh := rfl
@[simp] theorem domainsOff_own (m : Byte) : (s.domainsOff m).own = s.own := rfl
@[simp] theorem domainsOff_tbl (m : Byte) : (s.domainsOff m).tbl = s.tbl := rfl
@[simp] theorem domainsOff_strait (m : Byte) : (s.domainsOff m).strait = s.strait := rfl
@[simp] theorem domainsOff_i3c (m : Byte) : (s.domainsOff m).i3c = s.i3c := rfl
@[simp] theorem domainsOff_link (m : Byte) : (s.domainsOff m).link = s.link := rfl
@[simp] theorem domainsOff_mbox (m : Byte) : (s.domainsOff m).mbox = s.mbox := rfl
@[simp] theorem domainsOff_cad (m : Byte) : (s.domainsOff m).cad = s.cad := rfl
@[simp] theorem domainsOff_plan (m : Byte) : (s.domainsOff m).plan = s.plan := rfl
@[simp] theorem domainsOff_commit (m : Byte) : (s.domainsOff m).commit = s.commit := rfl
@[simp] theorem domainsOff_ferry (m : Byte) : (s.domainsOff m).ferry = s.ferry := rfl
@[simp] theorem domainsOff_t0 (m : Byte) : (s.domainsOff m).t0 = s.t0 := rfl
@[simp] theorem domainsOff_t1 (m : Byte) : (s.domainsOff m).t1 = s.t1 := rfl
@[simp] theorem domainsOff_t2 (m : Byte) : (s.domainsOff m).t2 = s.t2 := rfl
@[simp] theorem domainsOff_tide (m : Byte) : (s.domainsOff m).tide = s.tide := rfl
@[simp] theorem domainsOff_comp (m : Byte) : (s.domainsOff m).comp = s.comp := rfl
@[simp] theorem domainsOff_trav (m : Byte) : (s.domainsOff m).trav = s.trav := rfl
@[simp] theorem domainsOff_store (m : Byte) : (s.domainsOff m).store = s.store := rfl
@[simp] theorem domainsOff_ent (m : Byte) : (s.domainsOff m).ent = s.ent := rfl
@[simp] theorem domainsOff_keys (m : Byte) : (s.domainsOff m).keys = s.keys := rfl
@[simp] theorem domainsOff_stew (m : Byte) : (s.domainsOff m).stew = s.stew := rfl
@[simp] theorem domainsOff_drain (m : Byte) : (s.domainsOff m).drain = s.drain := rfl
@[simp] theorem domainsOff_err (m : Byte) : (s.domainsOff m).err = s.err := rfl
@[simp] theorem domainsOff_arb (m : Byte) : (s.domainsOff m).arb = s.arb := rfl
@[simp] theorem domainsOff_jtag (m : Byte) : (s.domainsOff m).jtag = s.jtag := rfl
@[simp] theorem domainsOff_free (m : Byte) : (s.domainsOff m).free = s.free := rfl
@[simp] theorem domainsOff_resp (m : Byte) : (s.domainsOff m).resp = s.resp := rfl
@[simp] theorem domainsOff_pending (m : Byte) : (s.domainsOff m).pending = s.pending := rfl

/-! ### setDetail -/
@[simp] theorem setDetail_fuse (n : Nat) : (s.setDetail n).fuse = s.fuse := rfl
@[simp] theorem setDetail_strap (n : Nat) : (s.setDetail n).strap = s.strap := rfl
@[simp] theorem setDetail_clk (n : Nat) : (s.setDetail n).clk = s.clk := rfl
@[simp] theorem setDetail_pwr (n : Nat) : (s.setDetail n).pwr = s.pwr := rfl
@[simp] theorem setDetail_md (n : Nat) : (s.setDetail n).md = s.md := rfl
@[simp] theorem setDetail_pin (n : Nat) : (s.setDetail n).pin = s.pin := rfl
@[simp] theorem setDetail_evt (n : Nat) : (s.setDetail n).evt = s.evt := rfl
@[simp] theorem setDetail_elog (n : Nat) : (s.setDetail n).elog = s.elog := rfl
@[simp] theorem setDetail_lh (n : Nat) : (s.setDetail n).lh = s.lh := rfl
@[simp] theorem setDetail_own (n : Nat) : (s.setDetail n).own = s.own := rfl
@[simp] theorem setDetail_tbl (n : Nat) : (s.setDetail n).tbl = s.tbl := rfl
@[simp] theorem setDetail_strait (n : Nat) : (s.setDetail n).strait = s.strait := rfl
@[simp] theorem setDetail_i3c (n : Nat) : (s.setDetail n).i3c = s.i3c := rfl
@[simp] theorem setDetail_link (n : Nat) : (s.setDetail n).link = s.link := rfl
@[simp] theorem setDetail_mbox (n : Nat) : (s.setDetail n).mbox = s.mbox := rfl
@[simp] theorem setDetail_cad (n : Nat) : (s.setDetail n).cad = s.cad := rfl
@[simp] theorem setDetail_plan (n : Nat) : (s.setDetail n).plan = s.plan := rfl
@[simp] theorem setDetail_commit (n : Nat) : (s.setDetail n).commit = s.commit := rfl
@[simp] theorem setDetail_ferry (n : Nat) : (s.setDetail n).ferry = s.ferry := rfl
@[simp] theorem setDetail_t0 (n : Nat) : (s.setDetail n).t0 = s.t0 := rfl
@[simp] theorem setDetail_t1 (n : Nat) : (s.setDetail n).t1 = s.t1 := rfl
@[simp] theorem setDetail_t2 (n : Nat) : (s.setDetail n).t2 = s.t2 := rfl
@[simp] theorem setDetail_tide (n : Nat) : (s.setDetail n).tide = s.tide := rfl
@[simp] theorem setDetail_comp (n : Nat) : (s.setDetail n).comp = s.comp := rfl
@[simp] theorem setDetail_trav (n : Nat) : (s.setDetail n).trav = s.trav := rfl
@[simp] theorem setDetail_store (n : Nat) : (s.setDetail n).store = s.store := rfl
@[simp] theorem setDetail_ent (n : Nat) : (s.setDetail n).ent = s.ent := rfl
@[simp] theorem setDetail_keys (n : Nat) : (s.setDetail n).keys = s.keys := rfl
@[simp] theorem setDetail_stew (n : Nat) : (s.setDetail n).stew = s.stew := rfl
@[simp] theorem setDetail_drain (n : Nat) : (s.setDetail n).drain = s.drain := rfl
@[simp] theorem setDetail_err (n : Nat) : (s.setDetail n).err = s.err := rfl
@[simp] theorem setDetail_arb (n : Nat) : (s.setDetail n).arb = s.arb := rfl
@[simp] theorem setDetail_jtag (n : Nat) : (s.setDetail n).jtag = s.jtag := rfl
@[simp] theorem setDetail_free (n : Nat) : (s.setDetail n).free = s.free := rfl
@[simp] theorem setDetail_resp (n : Nat) : (s.setDetail n).resp = s.resp := rfl
@[simp] theorem setDetail_pending (n : Nat) : (s.setDetail n).pending = s.pending := rfl

/-! ### releaseMuster -/
@[simp] theorem releaseMuster_fuse : s.releaseMuster.fuse = s.fuse := rfl
@[simp] theorem releaseMuster_strap : s.releaseMuster.strap = s.strap := rfl
@[simp] theorem releaseMuster_clk : s.releaseMuster.clk = s.clk := rfl
@[simp] theorem releaseMuster_pwr : s.releaseMuster.pwr = s.pwr := rfl
@[simp] theorem releaseMuster_md : s.releaseMuster.md = s.md := rfl
@[simp] theorem releaseMuster_rcl : s.releaseMuster.rcl = s.rcl := rfl
@[simp] theorem releaseMuster_evt : s.releaseMuster.evt = s.evt := rfl
@[simp] theorem releaseMuster_elog : s.releaseMuster.elog = s.elog := rfl
@[simp] theorem releaseMuster_lh : s.releaseMuster.lh = s.lh := rfl
@[simp] theorem releaseMuster_own : s.releaseMuster.own = s.own := rfl
@[simp] theorem releaseMuster_tbl : s.releaseMuster.tbl = s.tbl := rfl
@[simp] theorem releaseMuster_strait : s.releaseMuster.strait = s.strait := rfl
@[simp] theorem releaseMuster_i3c : s.releaseMuster.i3c = s.i3c := rfl
@[simp] theorem releaseMuster_link : s.releaseMuster.link = s.link := rfl
@[simp] theorem releaseMuster_mbox : s.releaseMuster.mbox = s.mbox := rfl
@[simp] theorem releaseMuster_cad : s.releaseMuster.cad = s.cad := rfl
@[simp] theorem releaseMuster_plan : s.releaseMuster.plan = s.plan := rfl
@[simp] theorem releaseMuster_commit : s.releaseMuster.commit = s.commit := rfl
@[simp] theorem releaseMuster_ferry : s.releaseMuster.ferry = s.ferry := rfl
@[simp] theorem releaseMuster_t0 : s.releaseMuster.t0 = s.t0 := rfl
@[simp] theorem releaseMuster_t1 : s.releaseMuster.t1 = s.t1 := rfl
@[simp] theorem releaseMuster_t2 : s.releaseMuster.t2 = s.t2 := rfl
@[simp] theorem releaseMuster_tide : s.releaseMuster.tide = s.tide := rfl
@[simp] theorem releaseMuster_comp : s.releaseMuster.comp = s.comp := rfl
@[simp] theorem releaseMuster_trav : s.releaseMuster.trav = s.trav := rfl
@[simp] theorem releaseMuster_store : s.releaseMuster.store = s.store := rfl
@[simp] theorem releaseMuster_ent : s.releaseMuster.ent = s.ent := rfl
@[simp] theorem releaseMuster_keys : s.releaseMuster.keys = s.keys := rfl
@[simp] theorem releaseMuster_stew : s.releaseMuster.stew = s.stew := rfl
@[simp] theorem releaseMuster_drain : s.releaseMuster.drain = s.drain := rfl
@[simp] theorem releaseMuster_err : s.releaseMuster.err = s.err := rfl
@[simp] theorem releaseMuster_arb : s.releaseMuster.arb = s.arb := rfl
@[simp] theorem releaseMuster_jtag : s.releaseMuster.jtag = s.jtag := rfl
@[simp] theorem releaseMuster_free : s.releaseMuster.free = s.free := rfl
@[simp] theorem releaseMuster_resp : s.releaseMuster.resp = s.resp := rfl
@[simp] theorem releaseMuster_pending : s.releaseMuster.pending = s.pending := rfl

/-! ### setSettle -/
@[simp] theorem setSettle_fuse (n : Nat) : (s.setSettle n).fuse = s.fuse := rfl
@[simp] theorem setSettle_strap (n : Nat) : (s.setSettle n).strap = s.strap := rfl
@[simp] theorem setSettle_clk (n : Nat) : (s.setSettle n).clk = s.clk := rfl
@[simp] theorem setSettle_pwr (n : Nat) : (s.setSettle n).pwr = s.pwr := rfl
@[simp] theorem setSettle_md (n : Nat) : (s.setSettle n).md = s.md := rfl
@[simp] theorem setSettle_pin (n : Nat) : (s.setSettle n).pin = s.pin := rfl
@[simp] theorem setSettle_rcl (n : Nat) : (s.setSettle n).rcl = s.rcl := rfl
@[simp] theorem setSettle_evt (n : Nat) : (s.setSettle n).evt = s.evt := rfl
@[simp] theorem setSettle_elog (n : Nat) : (s.setSettle n).elog = s.elog := rfl
@[simp] theorem setSettle_lh (n : Nat) : (s.setSettle n).lh = s.lh := rfl
@[simp] theorem setSettle_own (n : Nat) : (s.setSettle n).own = s.own := rfl
@[simp] theorem setSettle_tbl (n : Nat) : (s.setSettle n).tbl = s.tbl := rfl
@[simp] theorem setSettle_strait (n : Nat) : (s.setSettle n).strait = s.strait := rfl
@[simp] theorem setSettle_i3c (n : Nat) : (s.setSettle n).i3c = s.i3c := rfl
@[simp] theorem setSettle_link (n : Nat) : (s.setSettle n).link = s.link := rfl
@[simp] theorem setSettle_mbox (n : Nat) : (s.setSettle n).mbox = s.mbox := rfl
@[simp] theorem setSettle_cad (n : Nat) : (s.setSettle n).cad = s.cad := rfl
@[simp] theorem setSettle_plan (n : Nat) : (s.setSettle n).plan = s.plan := rfl
@[simp] theorem setSettle_commit (n : Nat) : (s.setSettle n).commit = s.commit := rfl
@[simp] theorem setSettle_ferry (n : Nat) : (s.setSettle n).ferry = s.ferry := rfl
@[simp] theorem setSettle_t0 (n : Nat) : (s.setSettle n).t0 = s.t0 := rfl
@[simp] theorem setSettle_t1 (n : Nat) : (s.setSettle n).t1 = s.t1 := rfl
@[simp] theorem setSettle_t2 (n : Nat) : (s.setSettle n).t2 = s.t2 := rfl
@[simp] theorem setSettle_tide (n : Nat) : (s.setSettle n).tide = s.tide := rfl
@[simp] theorem setSettle_comp (n : Nat) : (s.setSettle n).comp = s.comp := rfl
@[simp] theorem setSettle_trav (n : Nat) : (s.setSettle n).trav = s.trav := rfl
@[simp] theorem setSettle_store (n : Nat) : (s.setSettle n).store = s.store := rfl
@[simp] theorem setSettle_ent (n : Nat) : (s.setSettle n).ent = s.ent := rfl
@[simp] theorem setSettle_keys (n : Nat) : (s.setSettle n).keys = s.keys := rfl
@[simp] theorem setSettle_stew (n : Nat) : (s.setSettle n).stew = s.stew := rfl
@[simp] theorem setSettle_err (n : Nat) : (s.setSettle n).err = s.err := rfl
@[simp] theorem setSettle_arb (n : Nat) : (s.setSettle n).arb = s.arb := rfl
@[simp] theorem setSettle_jtag (n : Nat) : (s.setSettle n).jtag = s.jtag := rfl
@[simp] theorem setSettle_free (n : Nat) : (s.setSettle n).free = s.free := rfl
@[simp] theorem setSettle_resp (n : Nat) : (s.setSettle n).resp = s.resp := rfl
@[simp] theorem setSettle_pending (n : Nat) : (s.setSettle n).pending = s.pending := rfl

/-! ### persist -/
@[simp] theorem persist_fuse (k : Nat) : (s.persist k).fuse = s.fuse := by unfold State.persist; split <;> rfl
@[simp] theorem persist_strap (k : Nat) : (s.persist k).strap = s.strap := by unfold State.persist; split <;> rfl
@[simp] theorem persist_clk (k : Nat) : (s.persist k).clk = s.clk := by unfold State.persist; split <;> rfl
@[simp] theorem persist_pwr (k : Nat) : (s.persist k).pwr = s.pwr := by unfold State.persist; split <;> rfl
@[simp] theorem persist_md (k : Nat) : (s.persist k).md = s.md := by unfold State.persist; split <;> rfl
@[simp] theorem persist_pin (k : Nat) : (s.persist k).pin = s.pin := by unfold State.persist; split <;> rfl
@[simp] theorem persist_rcl (k : Nat) : (s.persist k).rcl = s.rcl := by unfold State.persist; split <;> rfl
@[simp] theorem persist_evt (k : Nat) : (s.persist k).evt = s.evt := by unfold State.persist; split <;> rfl
@[simp] theorem persist_elog (k : Nat) : (s.persist k).elog = s.elog := by unfold State.persist; split <;> rfl
@[simp] theorem persist_lh (k : Nat) : (s.persist k).lh = s.lh := by unfold State.persist; split <;> rfl
@[simp] theorem persist_own (k : Nat) : (s.persist k).own = s.own := by unfold State.persist; split <;> rfl
@[simp] theorem persist_tbl (k : Nat) : (s.persist k).tbl = s.tbl := by unfold State.persist; split <;> rfl
@[simp] theorem persist_strait (k : Nat) : (s.persist k).strait = s.strait := by unfold State.persist; split <;> rfl
@[simp] theorem persist_i3c (k : Nat) : (s.persist k).i3c = s.i3c := by unfold State.persist; split <;> rfl
@[simp] theorem persist_link (k : Nat) : (s.persist k).link = s.link := by unfold State.persist; split <;> rfl
@[simp] theorem persist_mbox (k : Nat) : (s.persist k).mbox = s.mbox := by unfold State.persist; split <;> rfl
@[simp] theorem persist_cad (k : Nat) : (s.persist k).cad = s.cad := by unfold State.persist; split <;> rfl
@[simp] theorem persist_plan (k : Nat) : (s.persist k).plan = s.plan := by unfold State.persist; split <;> rfl
@[simp] theorem persist_commit (k : Nat) : (s.persist k).commit = s.commit := by unfold State.persist; split <;> rfl
@[simp] theorem persist_ferry (k : Nat) : (s.persist k).ferry = s.ferry := by unfold State.persist; split <;> rfl
@[simp] theorem persist_t0 (k : Nat) : (s.persist k).t0 = s.t0 := by unfold State.persist; split <;> rfl
@[simp] theorem persist_t1 (k : Nat) : (s.persist k).t1 = s.t1 := by unfold State.persist; split <;> rfl
@[simp] theorem persist_t2 (k : Nat) : (s.persist k).t2 = s.t2 := by unfold State.persist; split <;> rfl
@[simp] theorem persist_tide (k : Nat) : (s.persist k).tide = s.tide := by unfold State.persist; split <;> rfl
@[simp] theorem persist_comp (k : Nat) : (s.persist k).comp = s.comp := by unfold State.persist; split <;> rfl
@[simp] theorem persist_trav (k : Nat) : (s.persist k).trav = s.trav := by unfold State.persist; split <;> rfl
@[simp] theorem persist_ent (k : Nat) : (s.persist k).ent = s.ent := by unfold State.persist; split <;> rfl
@[simp] theorem persist_keys (k : Nat) : (s.persist k).keys = s.keys := by unfold State.persist; split <;> rfl
@[simp] theorem persist_stew (k : Nat) : (s.persist k).stew = s.stew := by unfold State.persist; split <;> rfl
@[simp] theorem persist_drain (k : Nat) : (s.persist k).drain = s.drain := by unfold State.persist; split <;> rfl
@[simp] theorem persist_err (k : Nat) : (s.persist k).err = s.err := by unfold State.persist; split <;> rfl
@[simp] theorem persist_arb (k : Nat) : (s.persist k).arb = s.arb := by unfold State.persist; split <;> rfl
@[simp] theorem persist_jtag (k : Nat) : (s.persist k).jtag = s.jtag := by unfold State.persist; split <;> rfl
@[simp] theorem persist_free (k : Nat) : (s.persist k).free = s.free := by unfold State.persist; split <;> rfl
@[simp] theorem persist_resp (k : Nat) : (s.persist k).resp = s.resp := by unfold State.persist; split <;> rfl
@[simp] theorem persist_pending (k : Nat) : (s.persist k).pending = s.pending := by unfold State.persist; split <;> rfl

/-! ### putRegion -/
@[simp] theorem putRegion_fuse (n : Nat) (ws : List Code13) : (s.putRegion n ws).fuse = s.fuse := rfl
@[simp] theorem putRegion_strap (n : Nat) (ws : List Code13) : (s.putRegion n ws).strap = s.strap := rfl
@[simp] theorem putRegion_clk (n : Nat) (ws : List Code13) : (s.putRegion n ws).clk = s.clk := rfl
@[simp] theorem putRegion_pwr (n : Nat) (ws : List Code13) : (s.putRegion n ws).pwr = s.pwr := rfl
@[simp] theorem putRegion_md (n : Nat) (ws : List Code13) : (s.putRegion n ws).md = s.md := rfl
@[simp] theorem putRegion_pin (n : Nat) (ws : List Code13) : (s.putRegion n ws).pin = s.pin := rfl
@[simp] theorem putRegion_rcl (n : Nat) (ws : List Code13) : (s.putRegion n ws).rcl = s.rcl := rfl
@[simp] theorem putRegion_evt (n : Nat) (ws : List Code13) : (s.putRegion n ws).evt = s.evt := rfl
@[simp] theorem putRegion_elog (n : Nat) (ws : List Code13) : (s.putRegion n ws).elog = s.elog := rfl
@[simp] theorem putRegion_lh (n : Nat) (ws : List Code13) : (s.putRegion n ws).lh = s.lh := rfl
@[simp] theorem putRegion_own (n : Nat) (ws : List Code13) : (s.putRegion n ws).own = s.own := rfl
@[simp] theorem putRegion_tbl (n : Nat) (ws : List Code13) : (s.putRegion n ws).tbl = s.tbl := rfl
@[simp] theorem putRegion_strait (n : Nat) (ws : List Code13) : (s.putRegion n ws).strait = s.strait := rfl
@[simp] theorem putRegion_i3c (n : Nat) (ws : List Code13) : (s.putRegion n ws).i3c = s.i3c := rfl
@[simp] theorem putRegion_link (n : Nat) (ws : List Code13) : (s.putRegion n ws).link = s.link := rfl
@[simp] theorem putRegion_mbox (n : Nat) (ws : List Code13) : (s.putRegion n ws).mbox = s.mbox := rfl
@[simp] theorem putRegion_cad (n : Nat) (ws : List Code13) : (s.putRegion n ws).cad = s.cad := rfl
@[simp] theorem putRegion_plan (n : Nat) (ws : List Code13) : (s.putRegion n ws).plan = s.plan := rfl
@[simp] theorem putRegion_commit (n : Nat) (ws : List Code13) : (s.putRegion n ws).commit = s.commit := rfl
@[simp] theorem putRegion_ferry (n : Nat) (ws : List Code13) : (s.putRegion n ws).ferry = s.ferry := rfl
@[simp] theorem putRegion_t0 (n : Nat) (ws : List Code13) : (s.putRegion n ws).t0 = s.t0 := rfl
@[simp] theorem putRegion_t1 (n : Nat) (ws : List Code13) : (s.putRegion n ws).t1 = s.t1 := rfl
@[simp] theorem putRegion_t2 (n : Nat) (ws : List Code13) : (s.putRegion n ws).t2 = s.t2 := rfl
@[simp] theorem putRegion_tide (n : Nat) (ws : List Code13) : (s.putRegion n ws).tide = s.tide := rfl
@[simp] theorem putRegion_comp (n : Nat) (ws : List Code13) : (s.putRegion n ws).comp = s.comp := rfl
@[simp] theorem putRegion_trav (n : Nat) (ws : List Code13) : (s.putRegion n ws).trav = s.trav := rfl
@[simp] theorem putRegion_store (n : Nat) (ws : List Code13) : (s.putRegion n ws).store = s.store := rfl
@[simp] theorem putRegion_ent (n : Nat) (ws : List Code13) : (s.putRegion n ws).ent = s.ent := rfl
@[simp] theorem putRegion_keys (n : Nat) (ws : List Code13) : (s.putRegion n ws).keys = s.keys := rfl
@[simp] theorem putRegion_stew (n : Nat) (ws : List Code13) : (s.putRegion n ws).stew = s.stew := rfl
@[simp] theorem putRegion_err (n : Nat) (ws : List Code13) : (s.putRegion n ws).err = s.err := rfl
@[simp] theorem putRegion_arb (n : Nat) (ws : List Code13) : (s.putRegion n ws).arb = s.arb := rfl
@[simp] theorem putRegion_jtag (n : Nat) (ws : List Code13) : (s.putRegion n ws).jtag = s.jtag := rfl
@[simp] theorem putRegion_free (n : Nat) (ws : List Code13) : (s.putRegion n ws).free = s.free := rfl
@[simp] theorem putRegion_resp (n : Nat) (ws : List Code13) : (s.putRegion n ws).resp = s.resp := rfl
@[simp] theorem putRegion_pending (n : Nat) (ws : List Code13) : (s.putRegion n ws).pending = s.pending := rfl

/-! ### dropLinks -/
@[simp] theorem dropLinks_fuse : s.dropLinks.fuse = s.fuse := rfl
@[simp] theorem dropLinks_strap : s.dropLinks.strap = s.strap := rfl
@[simp] theorem dropLinks_clk : s.dropLinks.clk = s.clk := rfl
@[simp] theorem dropLinks_pwr : s.dropLinks.pwr = s.pwr := rfl
@[simp] theorem dropLinks_md : s.dropLinks.md = s.md := rfl
@[simp] theorem dropLinks_pin : s.dropLinks.pin = s.pin := rfl
@[simp] theorem dropLinks_rcl : s.dropLinks.rcl = s.rcl := rfl
@[simp] theorem dropLinks_evt : s.dropLinks.evt = s.evt := rfl
@[simp] theorem dropLinks_elog : s.dropLinks.elog = s.elog := rfl
@[simp] theorem dropLinks_lh : s.dropLinks.lh = s.lh := rfl
@[simp] theorem dropLinks_own : s.dropLinks.own = s.own := rfl
@[simp] theorem dropLinks_tbl : s.dropLinks.tbl = s.tbl := rfl
@[simp] theorem dropLinks_strait : s.dropLinks.strait = s.strait := rfl
@[simp] theorem dropLinks_i3c : s.dropLinks.i3c = s.i3c := rfl
@[simp] theorem dropLinks_mbox : s.dropLinks.mbox = s.mbox := rfl
@[simp] theorem dropLinks_cad : s.dropLinks.cad = s.cad := rfl
@[simp] theorem dropLinks_plan : s.dropLinks.plan = s.plan := rfl
@[simp] theorem dropLinks_commit : s.dropLinks.commit = s.commit := rfl
@[simp] theorem dropLinks_ferry : s.dropLinks.ferry = s.ferry := rfl
@[simp] theorem dropLinks_t0 : s.dropLinks.t0 = s.t0 := rfl
@[simp] theorem dropLinks_t1 : s.dropLinks.t1 = s.t1 := rfl
@[simp] theorem dropLinks_t2 : s.dropLinks.t2 = s.t2 := rfl
@[simp] theorem dropLinks_tide : s.dropLinks.tide = s.tide := rfl
@[simp] theorem dropLinks_comp : s.dropLinks.comp = s.comp := rfl
@[simp] theorem dropLinks_trav : s.dropLinks.trav = s.trav := rfl
@[simp] theorem dropLinks_store : s.dropLinks.store = s.store := rfl
@[simp] theorem dropLinks_ent : s.dropLinks.ent = s.ent := rfl
@[simp] theorem dropLinks_keys : s.dropLinks.keys = s.keys := rfl
@[simp] theorem dropLinks_stew : s.dropLinks.stew = s.stew := rfl
@[simp] theorem dropLinks_drain : s.dropLinks.drain = s.drain := rfl
@[simp] theorem dropLinks_err : s.dropLinks.err = s.err := rfl
@[simp] theorem dropLinks_arb : s.dropLinks.arb = s.arb := rfl
@[simp] theorem dropLinks_jtag : s.dropLinks.jtag = s.jtag := rfl
@[simp] theorem dropLinks_free : s.dropLinks.free = s.free := rfl
@[simp] theorem dropLinks_resp : s.dropLinks.resp = s.resp := rfl
@[simp] theorem dropLinks_pending : s.dropLinks.pending = s.pending := rfl

/-! ### storeWordFailed -/
@[simp] theorem storeWordFailed_fuse (page word : Nat) : (s.storeWordFailed page word).fuse = s.fuse := rfl
@[simp] theorem storeWordFailed_strap (page word : Nat) : (s.storeWordFailed page word).strap = s.strap := rfl
@[simp] theorem storeWordFailed_clk (page word : Nat) : (s.storeWordFailed page word).clk = s.clk := rfl
@[simp] theorem storeWordFailed_pwr (page word : Nat) : (s.storeWordFailed page word).pwr = s.pwr := rfl
@[simp] theorem storeWordFailed_md (page word : Nat) : (s.storeWordFailed page word).md = s.md := rfl
@[simp] theorem storeWordFailed_pin (page word : Nat) : (s.storeWordFailed page word).pin = s.pin := rfl
@[simp] theorem storeWordFailed_rcl (page word : Nat) : (s.storeWordFailed page word).rcl = s.rcl := rfl
@[simp] theorem storeWordFailed_elog (page word : Nat) : (s.storeWordFailed page word).elog = s.elog := rfl
@[simp] theorem storeWordFailed_lh (page word : Nat) : (s.storeWordFailed page word).lh = s.lh := rfl
@[simp] theorem storeWordFailed_own (page word : Nat) : (s.storeWordFailed page word).own = s.own := rfl
@[simp] theorem storeWordFailed_tbl (page word : Nat) : (s.storeWordFailed page word).tbl = s.tbl := rfl
@[simp] theorem storeWordFailed_strait (page word : Nat) : (s.storeWordFailed page word).strait = s.strait := rfl
@[simp] theorem storeWordFailed_i3c (page word : Nat) : (s.storeWordFailed page word).i3c = s.i3c := rfl
@[simp] theorem storeWordFailed_link (page word : Nat) : (s.storeWordFailed page word).link = s.link := rfl
@[simp] theorem storeWordFailed_mbox (page word : Nat) : (s.storeWordFailed page word).mbox = s.mbox := rfl
@[simp] theorem storeWordFailed_cad (page word : Nat) : (s.storeWordFailed page word).cad = s.cad := rfl
@[simp] theorem storeWordFailed_plan (page word : Nat) : (s.storeWordFailed page word).plan = s.plan := rfl
@[simp] theorem storeWordFailed_commit (page word : Nat) : (s.storeWordFailed page word).commit = s.commit := rfl
@[simp] theorem storeWordFailed_ferry (page word : Nat) : (s.storeWordFailed page word).ferry = s.ferry := rfl
@[simp] theorem storeWordFailed_t0 (page word : Nat) : (s.storeWordFailed page word).t0 = s.t0 := rfl
@[simp] theorem storeWordFailed_t1 (page word : Nat) : (s.storeWordFailed page word).t1 = s.t1 := rfl
@[simp] theorem storeWordFailed_t2 (page word : Nat) : (s.storeWordFailed page word).t2 = s.t2 := rfl
@[simp] theorem storeWordFailed_tide (page word : Nat) : (s.storeWordFailed page word).tide = s.tide := rfl
@[simp] theorem storeWordFailed_comp (page word : Nat) : (s.storeWordFailed page word).comp = s.comp := rfl
@[simp] theorem storeWordFailed_trav (page word : Nat) : (s.storeWordFailed page word).trav = s.trav := rfl
@[simp] theorem storeWordFailed_store (page word : Nat) : (s.storeWordFailed page word).store = s.store := rfl
@[simp] theorem storeWordFailed_ent (page word : Nat) : (s.storeWordFailed page word).ent = s.ent := rfl
@[simp] theorem storeWordFailed_keys (page word : Nat) : (s.storeWordFailed page word).keys = s.keys := rfl
@[simp] theorem storeWordFailed_stew (page word : Nat) : (s.storeWordFailed page word).stew = s.stew := rfl
@[simp] theorem storeWordFailed_drain (page word : Nat) : (s.storeWordFailed page word).drain = s.drain := rfl
@[simp] theorem storeWordFailed_err (page word : Nat) : (s.storeWordFailed page word).err = s.err := rfl
@[simp] theorem storeWordFailed_arb (page word : Nat) : (s.storeWordFailed page word).arb = s.arb := rfl
@[simp] theorem storeWordFailed_jtag (page word : Nat) : (s.storeWordFailed page word).jtag = s.jtag := rfl
@[simp] theorem storeWordFailed_free (page word : Nat) : (s.storeWordFailed page word).free = s.free := rfl
@[simp] theorem storeWordFailed_resp (page word : Nat) : (s.storeWordFailed page word).resp = s.resp := rfl
@[simp] theorem storeWordFailed_pending (page word : Nat) : (s.storeWordFailed page word).pending = s.pending := rfl

/-! ### setLast -/
@[simp] theorem setLast_fuse (c : Byte) : (s.setLast c).fuse = s.fuse := rfl
@[simp] theorem setLast_strap (c : Byte) : (s.setLast c).strap = s.strap := rfl
@[simp] theorem setLast_clk (c : Byte) : (s.setLast c).clk = s.clk := rfl
@[simp] theorem setLast_pwr (c : Byte) : (s.setLast c).pwr = s.pwr := rfl
@[simp] theorem setLast_md (c : Byte) : (s.setLast c).md = s.md := rfl
@[simp] theorem setLast_pin (c : Byte) : (s.setLast c).pin = s.pin := rfl
@[simp] theorem setLast_rcl (c : Byte) : (s.setLast c).rcl = s.rcl := rfl
@[simp] theorem setLast_evt (c : Byte) : (s.setLast c).evt = s.evt := rfl
@[simp] theorem setLast_elog (c : Byte) : (s.setLast c).elog = s.elog := rfl
@[simp] theorem setLast_lh (c : Byte) : (s.setLast c).lh = s.lh := rfl
@[simp] theorem setLast_own (c : Byte) : (s.setLast c).own = s.own := rfl
@[simp] theorem setLast_tbl (c : Byte) : (s.setLast c).tbl = s.tbl := rfl
@[simp] theorem setLast_strait (c : Byte) : (s.setLast c).strait = s.strait := rfl
@[simp] theorem setLast_i3c (c : Byte) : (s.setLast c).i3c = s.i3c := rfl
@[simp] theorem setLast_link (c : Byte) : (s.setLast c).link = s.link := rfl
@[simp] theorem setLast_mbox (c : Byte) : (s.setLast c).mbox = s.mbox := rfl
@[simp] theorem setLast_cad (c : Byte) : (s.setLast c).cad = s.cad := rfl
@[simp] theorem setLast_plan (c : Byte) : (s.setLast c).plan = s.plan := rfl
@[simp] theorem setLast_commit (c : Byte) : (s.setLast c).commit = s.commit := rfl
@[simp] theorem setLast_ferry (c : Byte) : (s.setLast c).ferry = s.ferry := rfl
@[simp] theorem setLast_t0 (c : Byte) : (s.setLast c).t0 = s.t0 := rfl
@[simp] theorem setLast_t1 (c : Byte) : (s.setLast c).t1 = s.t1 := rfl
@[simp] theorem setLast_t2 (c : Byte) : (s.setLast c).t2 = s.t2 := rfl
@[simp] theorem setLast_tide (c : Byte) : (s.setLast c).tide = s.tide := rfl
@[simp] theorem setLast_comp (c : Byte) : (s.setLast c).comp = s.comp := rfl
@[simp] theorem setLast_trav (c : Byte) : (s.setLast c).trav = s.trav := rfl
@[simp] theorem setLast_ent (c : Byte) : (s.setLast c).ent = s.ent := rfl
@[simp] theorem setLast_keys (c : Byte) : (s.setLast c).keys = s.keys := rfl
@[simp] theorem setLast_stew (c : Byte) : (s.setLast c).stew = s.stew := rfl
@[simp] theorem setLast_drain (c : Byte) : (s.setLast c).drain = s.drain := rfl
@[simp] theorem setLast_err (c : Byte) : (s.setLast c).err = s.err := rfl
@[simp] theorem setLast_arb (c : Byte) : (s.setLast c).arb = s.arb := rfl
@[simp] theorem setLast_jtag (c : Byte) : (s.setLast c).jtag = s.jtag := rfl
@[simp] theorem setLast_free (c : Byte) : (s.setLast c).free = s.free := rfl
@[simp] theorem setLast_resp (c : Byte) : (s.setLast c).resp = s.resp := rfl
@[simp] theorem setLast_pending (c : Byte) : (s.setLast c).pending = s.pending := rfl

/-! ### endTable -/
@[simp] theorem endTable_fuse (code : Byte) : (s.endTable code).fuse = s.fuse := by unfold State.endTable; split <;> (try split) <;> rfl
@[simp] theorem endTable_strap (code : Byte) : (s.endTable code).strap = s.strap := by unfold State.endTable; split <;> (try split) <;> rfl
@[simp] theorem endTable_clk (code : Byte) : (s.endTable code).clk = s.clk := by unfold State.endTable; split <;> (try split) <;> rfl
@[simp] theorem endTable_pwr (code : Byte) : (s.endTable code).pwr = s.pwr := by unfold State.endTable; split <;> (try split) <;> rfl
@[simp] theorem endTable_md (code : Byte) : (s.endTable code).md = s.md := by unfold State.endTable; split <;> (try split) <;> rfl
@[simp] theorem endTable_pin (code : Byte) : (s.endTable code).pin = s.pin := by unfold State.endTable; split <;> (try split) <;> rfl
@[simp] theorem endTable_rcl (code : Byte) : (s.endTable code).rcl = s.rcl := by unfold State.endTable; split <;> (try split) <;> rfl
@[simp] theorem endTable_evt (code : Byte) : (s.endTable code).evt = s.evt := by unfold State.endTable; split <;> (try split) <;> rfl
@[simp] theorem endTable_elog (code : Byte) : (s.endTable code).elog = s.elog := by unfold State.endTable; split <;> (try split) <;> rfl
@[simp] theorem endTable_lh (code : Byte) : (s.endTable code).lh = s.lh := by unfold State.endTable; split <;> (try split) <;> rfl
@[simp] theorem endTable_own (code : Byte) : (s.endTable code).own = s.own := by unfold State.endTable; split <;> (try split) <;> rfl
@[simp] theorem endTable_strait (code : Byte) : (s.endTable code).strait = s.strait := by unfold State.endTable; split <;> (try split) <;> rfl
@[simp] theorem endTable_i3c (code : Byte) : (s.endTable code).i3c = s.i3c := by unfold State.endTable; split <;> (try split) <;> rfl
@[simp] theorem endTable_link (code : Byte) : (s.endTable code).link = s.link := by unfold State.endTable; split <;> (try split) <;> rfl
@[simp] theorem endTable_mbox (code : Byte) : (s.endTable code).mbox = s.mbox := by unfold State.endTable; split <;> (try split) <;> rfl
@[simp] theorem endTable_cad (code : Byte) : (s.endTable code).cad = s.cad := by unfold State.endTable; split <;> (try split) <;> rfl
@[simp] theorem endTable_plan (code : Byte) : (s.endTable code).plan = s.plan := by unfold State.endTable; split <;> (try split) <;> rfl
@[simp] theorem endTable_commit (code : Byte) : (s.endTable code).commit = s.commit := by unfold State.endTable; split <;> (try split) <;> rfl
@[simp] theorem endTable_ferry (code : Byte) : (s.endTable code).ferry = s.ferry := by unfold State.endTable; split <;> (try split) <;> rfl
@[simp] theorem endTable_t0 (code : Byte) : (s.endTable code).t0 = s.t0 := by unfold State.endTable; split <;> (try split) <;> rfl
@[simp] theorem endTable_t1 (code : Byte) : (s.endTable code).t1 = s.t1 := by unfold State.endTable; split <;> (try split) <;> rfl
@[simp] theorem endTable_t2 (code : Byte) : (s.endTable code).t2 = s.t2 := by unfold State.endTable; split <;> (try split) <;> rfl
@[simp] theorem endTable_tide (code : Byte) : (s.endTable code).tide = s.tide := by unfold State.endTable; split <;> (try split) <;> rfl
@[simp] theorem endTable_comp (code : Byte) : (s.endTable code).comp = s.comp := by unfold State.endTable; split <;> (try split) <;> rfl
@[simp] theorem endTable_trav (code : Byte) : (s.endTable code).trav = s.trav := by unfold State.endTable; split <;> (try split) <;> rfl
@[simp] theorem endTable_store (code : Byte) : (s.endTable code).store = s.store := by unfold State.endTable; split <;> (try split) <;> rfl
@[simp] theorem endTable_ent (code : Byte) : (s.endTable code).ent = s.ent := by unfold State.endTable; split <;> (try split) <;> rfl
@[simp] theorem endTable_keys (code : Byte) : (s.endTable code).keys = s.keys := by unfold State.endTable; split <;> (try split) <;> rfl
@[simp] theorem endTable_stew (code : Byte) : (s.endTable code).stew = s.stew := by unfold State.endTable; split <;> (try split) <;> rfl
@[simp] theorem endTable_drain (code : Byte) : (s.endTable code).drain = s.drain := by unfold State.endTable; split <;> (try split) <;> rfl
@[simp] theorem endTable_err (code : Byte) : (s.endTable code).err = s.err := by unfold State.endTable; split <;> (try split) <;> rfl
@[simp] theorem endTable_arb (code : Byte) : (s.endTable code).arb = s.arb := by unfold State.endTable; split <;> (try split) <;> rfl
@[simp] theorem endTable_jtag (code : Byte) : (s.endTable code).jtag = s.jtag := by unfold State.endTable; split <;> (try split) <;> rfl
@[simp] theorem endTable_free (code : Byte) : (s.endTable code).free = s.free := by unfold State.endTable; split <;> (try split) <;> rfl
@[simp] theorem endTable_pending (code : Byte) : (s.endTable code).pending = s.pending := by unfold State.endTable; split <;> (try split) <;> rfl

/-! ### What they change -/
@[simp] theorem fresh_resp : s.fresh.resp = [] := rfl
@[simp] theorem respond_resp (r : Resp) : (s.respond r).resp = s.resp ++ [r] := rfl
@[simp] theorem bumpFree_free : s.bumpFree.free = s.free + 1 := rfl
@[simp] theorem modeEpoch_md (m : Mode) (c : BitVec 4) :
    (s.modeEpoch m c).md = { s.md with mode := m, prev := s.md.mode, cause := c } := rfl
@[simp] theorem beginStage_rcl (n : Nat) : (s.beginStage n).rcl = { s.rcl with stage := BitVec.ofNat 4 n } := rfl
@[simp] theorem setSettle_drain (n : Nat) : (s.setSettle n).drain = { s.drain with settle := n } := rfl
@[simp] theorem startOp_store (op : StoreOp) (w : StoreWait) : (s.startOp op w).store = { s.store with op := some (op, w) } := rfl
@[simp] theorem domainsOff_on (m : Byte) : (s.domainsOff m).pwr.on = s.pwr.on &&& ~~~m := rfl
@[simp] theorem setDetail_rcl (n : Nat) : (s.setDetail n).rcl = { s.rcl with detail := s.rcl.detail ||| (1 <<< n) } := rfl
@[simp] theorem flagHit_stat (b : Fin 24) : (s.flagHit b).evt.stat = s.evt.stat ||| (1 <<< b.val) := rfl
@[simp] theorem raise_stat (b : Fin 24) (c : Byte) (src : BitVec 16) (p : BitVec 96) :
    (s.raise b c src p).evt.stat = s.evt.stat ||| (1 <<< b.val) := rfl
@[simp] theorem note_stat (c : Byte) (src : BitVec 16) (p : BitVec 96) : (s.note c src p).evt.stat = s.evt.stat := rfl
@[simp] theorem addTrace_stat (t : Byte) (src : BitVec 16) (p : BitVec 128) : (s.addTrace t src p).evt.stat = s.evt.stat := rfl
@[simp] theorem addTrace_events (t : Byte) (src : BitVec 16) (p : BitVec 128) : (s.addTrace t src p).evt.cyc.events = s.evt.cyc.events := rfl
@[simp] theorem setPort_port (p : Port) (x : PortSt) : (s.setPort p x).port p = x := by
  unfold State.setPort State.port Link.port; split <;> rfl

/-- A grant moves the bank's arbiter and nothing else (01:R51-R53). -/
theorem grant_frame (b : Nat) (r : Req) : s.grant b r = { s with arb := (s.grant b r).arb } := by
  unfold State.grant
  dsimp only
  split <;> rfl

end Sys2Proof.Machine
end

