-- ==== Sys2Proof/Laws/Fresh.lean ====
section
/-! SUPPORT. Reading a state whose outputs were cleared: every reader of the state that gives no state answers as before. -/

namespace Sys2Proof.Machine

open Sys2Proof

variable (s : State)

@[simp] theorem fresh_part_eq : s.fresh.part = s.part := rfl
@[simp] theorem fresh_now_eq : s.fresh.now = s.now := rfl
@[simp] theorem fresh_ts48_eq : s.fresh.ts48 = s.ts48 := rfl
@[simp] theorem fresh_since_eq (t : Stamp) (n : Nat) : s.fresh.since t n = s.since t n := rfl
@[simp] theorem fresh_stewardUp_eq : s.fresh.stewardUp = s.stewardUp := rfl
@[simp] theorem fresh_inService_eq : s.fresh.inService = s.inService := rfl
@[simp] theorem fresh_verdict_eq (gate : Fin 5) (addr : Nat) (h : Holder) (right : Nat) :
    s.fresh.verdict gate addr h right = s.verdict gate addr h right := rfl
@[simp] theorem fresh_sealKey_eq (gate : Fin 5) (addr : Nat) : s.fresh.sealKey gate addr = s.sealKey gate addr := rfl
@[simp] theorem fresh_paramContent_eq (k : Nat) : s.fresh.paramContent k = s.paramContent k := rfl
@[simp] theorem fresh_busyPage_eq : s.fresh.busyPage = s.busyPage := rfl
@[simp] theorem fresh_mayStart_eq (rank : Nat) : s.fresh.mayStart rank = s.mayStart rank := rfl
@[simp] theorem fresh_nextInternal_eq (rank : Nat) : s.fresh.nextInternal rank = s.nextInternal rank := rfl
@[simp] theorem fresh_appendDue_eq : s.fresh.appendDue = s.appendDue := rfl
@[simp] theorem fresh_appendCount_eq : s.fresh.appendCount = s.appendCount := rfl
@[simp] theorem fresh_bankErr_eq (b : Nat) : s.fresh.bankErr b = s.bankErr b := rfl
@[simp] theorem fresh_wearOf_eq (b : Nat) : s.fresh.wearOf b = s.wearOf b := rfl
@[simp] theorem fresh_pulseStep_eq (b : Nat) : s.fresh.pulseStep b = s.pulseStep b := rfl
@[simp] theorem fresh_second_eq : s.fresh.second = s.second := rfl
@[simp] theorem fresh_group_eq (g : Nat) : s.fresh.group g = s.group g := rfl
@[simp] theorem fresh_physLine_eq (a : Nat) : s.fresh.physLine a = s.physLine a := rfl
@[simp] theorem fresh_gapLine_eq (g : Nat) : s.fresh.gapLine g = s.gapLine g := rfl
@[simp] theorem fresh_lineBank_eq (a : Nat) : s.fresh.lineBank a = s.lineBank a := rfl
@[simp] theorem fresh_physBank_eq (phys : Nat) : s.fresh.physBank phys = s.physBank phys := rfl
@[simp] theorem fresh_t1Words_eq (a : Nat) : s.fresh.t1Words a = s.t1Words a := rfl
@[simp] theorem fresh_keySlot_eq (k : Nat) : s.fresh.keySlot k = s.keySlot k := rfl
@[simp] theorem fresh_keyOf_eq (k : Byte) : s.fresh.keyOf k = s.keyOf k := rfl
@[simp] theorem fresh_rwFull_eq (a : Nat) : s.fresh.rwFull a = s.rwFull a := rfl
@[simp] theorem fresh_inlineVerify_eq (a : Nat) : s.fresh.inlineVerify a = s.inlineVerify a := rfl
@[simp] theorem fresh_programWords_eq (e : WqEntry) : s.fresh.programWords e = s.programWords e := rfl
@[simp] theorem fresh_mayProgram_eq (i : Nat) : s.fresh.mayProgram i = s.mayProgram i := rfl
@[simp] theorem fresh_lateSince_eq (t : BitVec 48) : s.fresh.lateSince t = s.lateSince t := rfl
@[simp] theorem fresh_slotAt_eq (idx : Nat) : s.fresh.slotAt idx = s.slotAt idx := rfl
@[simp] theorem fresh_slotOf_eq (tile : Nat) : s.fresh.slotOf tile = s.slotOf tile := rfl
@[simp] theorem fresh_lowestFree_eq : s.fresh.lowestFree = s.lowestFree := rfl
@[simp] theorem fresh_held_eq (h : Holder) : s.fresh.held h = s.held h := rfl
@[simp] theorem fresh_windowHeld_eq (w : Nat) : s.fresh.windowHeld w = s.windowHeld w := rfl
@[simp] theorem fresh_pd_eq (n : Nat) : s.fresh.pd n = s.pd n := rfl
@[simp] theorem fresh_denseOn_eq : s.fresh.denseOn = s.denseOn := rfl
@[simp] theorem fresh_denseWriteOk_eq : s.fresh.denseWriteOk = s.denseWriteOk := rfl
@[simp] theorem fresh_denseCareOk_eq : s.fresh.denseCareOk = s.denseCareOk := rfl
@[simp] theorem fresh_releaseHolds_eq (tile : Nat) : s.fresh.releaseHolds tile = s.releaseHolds tile := rfl
@[simp] theorem fresh_charges_eq : s.fresh.charges = s.charges := rfl
@[simp] theorem fresh_charge_eq (tile : Nat) : s.fresh.charge tile = s.charge tile := rfl
@[simp] theorem fresh_usableFree_eq : s.fresh.usableFree = s.usableFree := rfl
@[simp] theorem fresh_outside_eq : s.fresh.outside = s.outside := rfl
@[simp] theorem fresh_unreservedFree_eq : s.fresh.unreservedFree = s.unreservedFree := rfl
@[simp] theorem fresh_growthOk_eq (tile sectors : Nat) : s.fresh.growthOk tile sectors = s.growthOk tile sectors := rfl
@[simp] theorem fresh_pinnedBytes_eq : s.fresh.pinnedBytes = s.pinnedBytes := rfl
@[simp] theorem fresh_dirtyBytes_eq : s.fresh.dirtyBytes = s.dirtyBytes := rfl
@[simp] theorem fresh_pickFor_eq (h : Holder) (win : Option Nat) : s.fresh.pickFor h win = s.pickFor h win := rfl
@[simp] theorem fresh_beingTaken_eq (tile : Nat) : s.fresh.beingTaken tile = s.beingTaken tile := rfl
@[simp] theorem fresh_storesFor_eq (tile : Nat) : s.fresh.storesFor tile = s.storesFor tile := rfl
@[simp] theorem fresh_region_eq (bank r : Nat) : s.fresh.region bank r = s.region bank r := rfl
@[simp] theorem fresh_charterAt_eq (c : Nat) : s.fresh.charterAt c = s.charterAt c := rfl
@[simp] theorem fresh_pageBank_eq (page : Nat) : s.fresh.pageBank page = s.pageBank page := rfl
@[simp] theorem fresh_charterOf_eq (page : Nat) : s.fresh.charterOf page = s.charterOf page := rfl
@[simp] theorem fresh_charterIn_eq (bank : Nat) : s.fresh.charterIn bank = s.charterIn bank := rfl
@[simp] theorem fresh_charterImg_eq (c : Nat) : s.fresh.charterImg c = s.charterImg c := rfl
@[simp] theorem fresh_pageFree_eq (page : Nat) : s.fresh.pageFree page = s.pageFree page := rfl
@[simp] theorem fresh_bankReady_eq (bank : Nat) : s.fresh.bankReady bank = s.bankReady bank := rfl
@[simp] theorem fresh_freePages_eq : s.fresh.freePages = s.freePages := rfl
@[simp] theorem fresh_stored_eq (page : Nat) : s.fresh.stored page = s.stored page := rfl
@[simp] theorem fresh_tileKey_eq (tile : Nat) : s.fresh.tileKey tile = s.tileKey tile := rfl
@[simp] theorem fresh_onTheWay_eq (tile : Nat) : s.fresh.onTheWay tile = s.onTheWay tile := rfl
@[simp] theorem fresh_tileRetries_eq (tile : Nat) (r : TileRead) : s.fresh.tileRetries tile r = s.tileRetries tile r := rfl
@[simp] theorem fresh_lz4Engine_eq (e : Fin 4) : s.fresh.lz4Engine e = s.lz4Engine e := rfl
@[simp] theorem fresh_poisonRec_eq (tile : Nat) : s.fresh.poisonRec tile = s.poisonRec tile := rfl
@[simp] theorem fresh_moveStale_eq (m : Moving) : s.fresh.moveStale m = s.moveStale m := rfl
@[simp] theorem fresh_ceilingReady_eq : s.fresh.ceilingReady = s.ceilingReady := rfl
@[simp] theorem fresh_imageDue_eq (cls : Nat) (b : PackBuf) (rest : List PackBuf) : s.fresh.imageDue cls b rest = s.imageDue cls b rest := rfl
@[simp] theorem fresh_nextBankOk_eq (last : Option Nat) (bank : Nat) : s.fresh.nextBankOk last bank = s.nextBankOk last bank := rfl
@[simp] theorem fresh_programmable_eq (page : Nat) : s.fresh.programmable page = s.programmable page := rfl
@[simp] theorem fresh_mayProgramT1_eq : s.fresh.mayProgramT1 = s.mayProgramT1 := rfl
@[simp] theorem fresh_mayVerify_eq : s.fresh.mayVerify = s.mayVerify := rfl
@[simp] theorem fresh_mayCorrectT1_eq : s.fresh.mayCorrectT1 = s.mayCorrectT1 := rfl
@[simp] theorem fresh_mayFetch_eq : s.fresh.mayFetch = s.mayFetch := rfl
@[simp] theorem fresh_ferryRuns_eq : s.fresh.ferryRuns = s.ferryRuns := rfl
@[simp] theorem fresh_t1Place_eq (n : Nat) : s.fresh.t1Place n = s.t1Place n := rfl
@[simp] theorem fresh_placeBank_eq (p : T1Place) : s.fresh.placeBank p = s.placeBank p := rfl
@[simp] theorem fresh_mapPages_eq : s.fresh.mapPages = s.mapPages := rfl
@[simp] theorem fresh_nextHome_eq (pos : Nat) : s.fresh.nextHome pos = s.nextHome pos := rfl
@[simp] theorem fresh_nextPage_eq (pos : Nat) : s.fresh.nextPage pos = s.nextPage pos := rfl
@[simp] theorem fresh_tileBank_eq (tile : Nat) : s.fresh.tileBank tile = s.tileBank tile := rfl
@[simp] theorem fresh_queueWaits_eq (b : Nat) : s.fresh.queueWaits b = s.queueWaits b := rfl
@[simp] theorem fresh_correctionLine_eq (c : Correction) : s.fresh.correctionLine c = s.correctionLine c := rfl
@[simp] theorem fresh_correctionBank_eq (c : Correction) : s.fresh.correctionBank c = s.correctionBank c := rfl
@[simp] theorem fresh_correctionReady_eq (c : Correction) : s.fresh.correctionReady c = s.correctionReady c := rfl
@[simp] theorem fresh_correctionWaits_eq (b : Nat) : s.fresh.correctionWaits b = s.correctionWaits b := rfl
@[simp] theorem fresh_verifyReq_eq (e : RwEntry) : s.fresh.verifyReq e = s.verifyReq e := rfl
@[simp] theorem fresh_verifyWaits_eq (b : Nat) : s.fresh.verifyWaits b = s.verifyWaits b := rfl
@[simp] theorem fresh_fetchWaits_eq (b : Nat) : s.fresh.fetchWaits b = s.fetchWaits b := rfl
@[simp] theorem fresh_arbOf_eq (b : Nat) : s.fresh.arbOf b = s.arbOf b := rfl
@[simp] theorem fresh_classOfChan_eq (c : Nat) : s.fresh.classOfChan c = s.classOfChan c := rfl
@[simp] theorem fresh_ferryTurn_eq (a : Arb) (cs : List Nat) : s.fresh.ferryTurn a cs = s.ferryTurn a cs := rfl
@[simp] theorem fresh_port_eq (p : Port) : s.fresh.port p = s.port p := rfl
@[simp] theorem fresh_budgetBytes_eq : s.fresh.budgetBytes = s.budgetBytes := rfl
@[simp] theorem fresh_creditsHeld_eq : s.fresh.creditsHeld = s.creditsHeld := rfl
@[simp] theorem fresh_creditRoom_eq : s.fresh.creditRoom = s.creditRoom := rfl
@[simp] theorem fresh_creditFree_eq : s.fresh.creditFree = s.creditFree := rfl
@[simp] theorem fresh_creditTurn_eq (p : Port) : s.fresh.creditTurn p = s.creditTurn p := rfl
@[simp] theorem fresh_roomFor_eq (add : Nat) : s.fresh.roomFor add = s.roomFor add := rfl
@[simp] theorem fresh_chan_eq (c : Nat) : s.fresh.chan c = s.chan c := rfl
@[simp] theorem fresh_owner_eq (c : Nat) : s.fresh.owner c = s.owner c := rfl
@[simp] theorem fresh_windowOf_eq (c : Nat) : s.fresh.windowOf c = s.windowOf c := rfl
@[simp] theorem fresh_trail_eq (c : Nat) : s.fresh.trail c = s.trail c := rfl
@[simp] theorem fresh_chanSlot_eq (c : Nat) : s.fresh.chanSlot c = s.chanSlot c := rfl
@[simp] theorem fresh_inFlightOf_eq (c : Nat) : s.fresh.inFlightOf c = s.inFlightOf c := rfl
@[simp] theorem fresh_inFlight_eq : s.fresh.inFlight = s.inFlight := rfl
@[simp] theorem fresh_inDense_eq (a n : Nat) : s.fresh.inDense a n = s.inDense a n := rfl
@[simp] theorem fresh_inFast_eq (a n : Nat) : s.fresh.inFast a n = s.inFast a n := rfl
@[simp] theorem fresh_legOk_eq (op : Nat) (l : Leg) : s.fresh.legOk op l = s.legOk op l := rfl
@[simp] theorem fresh_headerCause_eq (c : Nat) (h : Header) : s.fresh.headerCause c h = s.headerCause c h := rfl
@[simp] theorem fresh_bellHeld_eq (c : Nat) : s.fresh.bellHeld c = s.bellHeld c := rfl
@[simp] theorem fresh_bellRead_eq (c : Nat) : s.fresh.bellRead c = s.bellRead c := rfl
@[simp] theorem fresh_fchanEntry_eq (c : Nat) : s.fresh.fchanEntry c = s.fchanEntry c := rfl
@[simp] theorem fresh_swinEntry_eq (w : Nat) : s.fresh.swinEntry w = s.swinEntry w := rfl
@[simp] theorem fresh_tileAt_eq (c : Nat) : s.fresh.tileAt c = s.tileAt c := rfl
@[simp] theorem fresh_mayStep_eq (c : Nat) : s.fresh.mayStep c = s.mayStep c := rfl
@[simp] theorem fresh_slotBusy_eq (c tile : Nat) : s.fresh.slotBusy c tile = s.slotBusy c tile := rfl
@[simp] theorem fresh_sealStuck_eq (tile : Nat) : s.fresh.sealStuck tile = s.sealStuck tile := rfl
@[simp] theorem fresh_copyAdds_eq (dst : Nat) : s.fresh.copyAdds dst = s.copyAdds dst := rfl
@[simp] theorem fresh_stepCause_eq (c op : Nat) (a : TileAt) : s.fresh.stepCause c op a = s.stepCause c op a := rfl
@[simp] theorem fresh_engineFull_eq (c : Nat) : s.fresh.engineFull c = s.engineFull c := rfl
@[simp] theorem fresh_retryRuns_eq (c tile : Nat) (rd : TileRead) : s.fresh.retryRuns c tile rd = s.retryRuns c tile rd := rfl
@[simp] theorem fresh_stallNow_eq (c : Nat) : s.fresh.stallNow c = s.stallNow c := rfl
@[simp] theorem fresh_legStands_eq (x : Chan) (l : Leg) : s.fresh.legStands x l = s.legStands x l := rfl
@[simp] theorem fresh_memUp_eq (p : Port) : s.fresh.memUp p = s.memUp p := rfl
@[simp] theorem fresh_decoded_eq (p : Port) (dpa : Nat) : s.fresh.decoded p dpa = s.decoded p dpa := rfl
@[simp] theorem fresh_holderOf_eq (p : Port) (spid : Option (BitVec 12)) : s.fresh.holderOf p spid = s.holderOf p spid := rfl
@[simp] theorem fresh_portPowered_eq (p : Port) : s.fresh.portPowered p = s.portPowered p := rfl
@[simp] theorem fresh_mediaStatus_eq : s.fresh.mediaStatus = s.mediaStatus := rfl
@[simp] theorem fresh_portStatus_eq (p : Port) : s.fresh.portStatus p = s.portStatus p := rfl
@[simp] theorem fresh_fillingSlot_eq (tile : Nat) : s.fresh.fillingSlot tile = s.fillingSlot tile := rfl
@[simp] theorem fresh_mayWriteBack_eq (x : Slot) : s.fresh.mayWriteBack x = s.mayWriteBack x := rfl
@[simp] theorem fresh_mayPack_eq : s.fresh.mayPack = s.mayPack := rfl
@[simp] theorem fresh_imageHeld_eq (cls : Nat) : s.fresh.imageHeld cls = s.imageHeld cls := rfl
@[simp] theorem fresh_programReq_eq : s.fresh.programReq = s.programReq := rfl
@[simp] theorem fresh_mayCommit_eq : s.fresh.mayCommit = s.mayCommit := rfl
@[simp] theorem fresh_beingMoved_eq (tile : Nat) : s.fresh.beingMoved tile = s.beingMoved tile := rfl
@[simp] theorem fresh_pageHeld_eq (page : Nat) : s.fresh.pageHeld page = s.pageHeld page := rfl
@[simp] theorem fresh_reclaimable_eq (page : Nat) (p : Page) : s.fresh.reclaimable page p = s.reclaimable page p := rfl
@[simp] theorem fresh_reclaimReq_eq : s.fresh.reclaimReq = s.reclaimReq := rfl
@[simp] theorem fresh_mayRelocate_eq : s.fresh.mayRelocate = s.mayRelocate := rfl
@[simp] theorem fresh_regionWords_eq (n : Nat) : s.fresh.regionWords n = s.regionWords n := rfl
@[simp] theorem fresh_stillMoving_eq (m : Moving) : s.fresh.stillMoving m = s.stillMoving m := rfl
@[simp] theorem fresh_sealedRecord_eq (m : Moving) : s.fresh.sealedRecord m = s.sealedRecord m := rfl
@[simp] theorem fresh_headLine_eq (m : Moving) : s.fresh.headLine m = s.headLine m := rfl
@[simp] theorem fresh_copyRecordLines_eq (m : Moving) : s.fresh.copyRecordLines m = s.copyRecordLines m := rfl
@[simp] theorem fresh_copyLines_eq : s.fresh.copyLines = s.copyLines := rfl
@[simp] theorem fresh_passTotal_eq (t : Tier) : s.fresh.passTotal t = s.passTotal t := rfl
@[simp] theorem fresh_travOf_eq (t : Tier) : s.fresh.travOf t = s.travOf t := rfl
@[simp] theorem fresh_ahead_eq (t : Tier) : s.fresh.ahead t = s.ahead t := rfl
@[simp] theorem fresh_behind_eq (t : Tier) : s.fresh.behind t = s.behind t := rfl
@[simp] theorem fresh_caughtUp_eq (t : Tier) : s.fresh.caughtUp t = s.caughtUp t := rfl
@[simp] theorem fresh_mayTraverse_eq (t : Tier) : s.fresh.mayTraverse t = s.mayTraverse t := rfl
@[simp] theorem fresh_requestNow_eq : s.fresh.requestNow = s.requestNow := rfl
@[simp] theorem fresh_busyChannel_eq : s.fresh.busyChannel = s.busyChannel := rfl
@[simp] theorem fresh_dormantFails_eq : s.fresh.dormantFails = s.dormantFails := rfl
@[simp] theorem fresh_overcommits_eq (rs : List Entry) : s.fresh.overcommits rs = s.overcommits rs := rfl
@[simp] theorem fresh_planWholeChecks_eq (l : List (Nat × Entry)) : s.fresh.planWholeChecks l = s.planWholeChecks l := rfl
@[simp] theorem fresh_validatePlan_eq : s.fresh.validatePlan = s.validatePlan := rfl
@[simp] theorem fresh_parcelCheck_eq (e : Entry) : s.fresh.parcelCheck e = s.parcelCheck e := rfl
@[simp] theorem fresh_validateCad_eq : s.fresh.validateCad = s.validateCad := rfl
@[simp] theorem fresh_charterReady_eq (n : Nat) : s.fresh.charterReady n = s.charterReady n := rfl
@[simp] theorem fresh_ownerBusy_eq : s.fresh.ownerBusy = s.ownerBusy := rfl
@[simp] theorem fresh_idleMs_eq : s.fresh.idleMs = s.idleMs := rfl
@[simp] theorem fresh_chanMask_eq (st : ChState) : s.fresh.chanMask st = s.chanMask st := rfl
@[simp] theorem fresh_accepts_eq (l : List (Byte × Byte × Byte)) : s.fresh.accepts l = s.accepts l := rfl
@[simp] theorem fresh_fwVer_eq (slotB : Bool) : s.fresh.fwVer slotB = s.fwVer slotB := rfl
@[simp] theorem fresh_stepOk_eq (slotB : Bool) : s.fresh.stepOk slotB = s.stepOk slotB := rfl
@[simp] theorem fresh_progress_eq (t : Tier) : s.fresh.progress t = s.progress t := rfl
@[simp] theorem fresh_cap3_eq : s.fresh.cap3 = s.cap3 := rfl
@[simp] theorem fresh_reg_eq (o : Nat) : s.fresh.reg o = s.reg o := rfl
@[simp] theorem fresh_phase_eq : s.fresh.phase = s.phase := rfl
@[simp] theorem fresh_readPhase_eq : s.fresh.readPhase = s.readPhase := rfl
@[simp] theorem fresh_loadStop_eq : s.fresh.loadStop = s.loadStop := rfl
@[simp] theorem fresh_pathUp_eq (p : Path) : s.fresh.pathUp p = s.pathUp p := rfl
@[simp] theorem fresh_selFor_eq (l : RegWrites) : s.fresh.selFor l = s.selFor l := rfl
@[simp] theorem fresh_loadOk_eq (p : Nat × Word) : s.fresh.loadOk p = s.loadOk p := rfl
@[simp] theorem fresh_stoppedOk_eq (path : Path) (p : Nat × Word) : s.fresh.stoppedOk path p = s.stoppedOk path p := rfl
@[simp] theorem fresh_limitedOk_eq (l : RegWrites) (p : Nat × Word) : s.fresh.limitedOk l p = s.limitedOk l p := rfl
@[simp] theorem fresh_writeNotReady_eq (path : Path) (l : RegWrites) : s.fresh.writeNotReady path l = s.writeNotReady path l := rfl
@[simp] theorem fresh_claimPrevails_eq (path : Path) : s.fresh.claimPrevails path = s.claimPrevails path := rfl
@[simp] theorem fresh_writeNotOwner_eq (path : Path) (l : RegWrites) : s.fresh.writeNotOwner path l = s.writeNotOwner path l := rfl
@[simp] theorem fresh_requestLate_eq : s.fresh.requestLate = s.requestLate := rfl
@[simp] theorem fresh_stopping_eq : s.fresh.stopping = s.stopping := rfl
@[simp] theorem fresh_writeWrongMode_eq (path : Path) (l : RegWrites) : s.fresh.writeWrongMode path l = s.writeWrongMode path l := rfl
@[simp] theorem fresh_writeBusy_eq (l : RegWrites) : s.fresh.writeBusy l = s.writeBusy l := rfl
@[simp] theorem fresh_storeRefused_eq (page : Nat) : s.fresh.storeRefused page = s.storeRefused page := rfl
@[simp] theorem fresh_heldByPlan_eq (k : Nat) : s.fresh.heldByPlan k = s.heldByPlan k := rfl
@[simp] theorem fresh_heldByCad_eq (k : Nat) : s.fresh.heldByCad k = s.heldByCad k := rfl
@[simp] theorem fresh_keyHeld_eq (k : Nat) : s.fresh.keyHeld k = s.keyHeld k := rfl
@[simp] theorem fresh_keyEntry_eq (k : Nat) : s.fresh.keyEntry k = s.keyEntry k := rfl
@[simp] theorem fresh_recordAsked_eq (k : Nat) : s.fresh.recordAsked k = s.recordAsked k := rfl
@[simp] theorem fresh_keyModeRefused_eq : s.fresh.keyModeRefused = s.keyModeRefused := rfl
@[simp] theorem fresh_generateRefused_eq (k : Nat) (blob : Bool) : s.fresh.generateRefused k blob = s.generateRefused k blob := rfl
@[simp] theorem fresh_bankEntry_eq (b : Nat) : s.fresh.bankEntry b = s.bankEntry b := rfl
@[simp] theorem fresh_wearEntry_eq (b : Nat) : s.fresh.wearEntry b = s.wearEntry b := rfl
@[simp] theorem fresh_flagEntry_eq (n : Nat) : s.fresh.flagEntry n = s.flagEntry n := rfl
@[simp] theorem fresh_entry_eq (sel i : Nat) : s.fresh.entry sel i = s.entry sel i := rfl
@[simp] theorem fresh_pageBusy_eq (p : Nat) : s.fresh.pageBusy p = s.pageBusy p := rfl
@[simp] theorem fresh_readNotReady_eq (sel i : Nat) : s.fresh.readNotReady sel i = s.readNotReady sel i := rfl
@[simp] theorem fresh_badWord_eq (sel i : Nat) : s.fresh.badWord sel i = s.badWord sel i := rfl
@[simp] theorem fresh_entryWrongMode_eq (sel i : Nat) : s.fresh.entryWrongMode sel i = s.entryWrongMode sel i := rfl
@[simp] theorem fresh_entryLocked_eq (sel i : Nat) : s.fresh.entryLocked sel i = s.entryLocked sel i := rfl
@[simp] theorem fresh_entryBusy_eq (sel : Nat) : s.fresh.entryBusy sel = s.entryBusy sel := rfl
@[simp] theorem fresh_writeRefusal_eq (sel i : Nat) : s.fresh.writeRefusal sel i = s.writeRefusal sel i := rfl
@[simp] theorem fresh_straitServes_eq : s.fresh.straitServes = s.straitServes := rfl
@[simp] theorem fresh_i3cUp_eq : s.fresh.i3cUp = s.i3cUp := rfl
@[simp] theorem fresh_i3cMine_eq (target : BitVec 7) : s.fresh.i3cMine target = s.i3cMine target := rfl
@[simp] theorem fresh_staticAddr_eq : s.fresh.staticAddr = s.staticAddr := rfl
@[simp] theorem fresh_i3cFor_eq (target : Option (BitVec 7)) : s.fresh.i3cFor target = s.i3cFor target := rfl
@[simp] theorem fresh_pid_eq : s.fresh.pid = s.pid := rfl
@[simp] theorem fresh_enabledFlags_eq : s.fresh.enabledFlags = s.enabledFlags := rfl
@[simp] theorem fresh_alertLow_eq : s.fresh.alertLow = s.alertLow := rfl
@[simp] theorem fresh_ibiDue_eq : s.fresh.ibiDue = s.ibiDue := rfl
@[simp] theorem fresh_ibiPending_eq : s.fresh.ibiPending = s.ibiPending := rfl
@[simp] theorem fresh_i3cStatus_eq : s.fresh.i3cStatus = s.i3cStatus := rfl
@[simp] theorem fresh_ibiByte_eq : s.fresh.ibiByte = s.ibiByte := rfl
@[simp] theorem fresh_mboxHeld_eq : s.fresh.mboxHeld = s.mboxHeld := rfl
@[simp] theorem fresh_mboxUp_eq (p : Port) : s.fresh.mboxUp p = s.mboxUp p := rfl
@[simp] theorem fresh_fwReady_eq : s.fresh.fwReady = s.fwReady := rfl
@[simp] theorem fresh_bootable_eq (slotB : Bool) : s.fresh.bootable slotB = s.bootable slotB := rfl
@[simp] theorem fresh_pairs_eq (i : Image) (ferry lz4 : BitVec 16) : s.fresh.pairs i ferry lz4 = s.pairs i ferry lz4 := rfl
@[simp] theorem fresh_ownBundle_eq (i : Image) : s.fresh.ownBundle i = s.ownBundle i := rfl
@[simp] theorem fresh_fitsUcode_eq (i : Image) : s.fresh.fitsUcode i = s.fitsUcode i := rfl
@[simp] theorem fresh_loadMode_eq : s.fresh.loadMode = s.loadMode := rfl
@[simp] theorem fresh_loadWaits_eq : s.fresh.loadWaits = s.loadWaits := rfl
@[simp] theorem fresh_slotActive_eq (b : Bool) : s.fresh.slotActive b = s.slotActive b := rfl
@[simp] theorem fresh_firstPart_eq (slot : Nat) : s.fresh.firstPart slot = s.firstPart slot := rfl
@[simp] theorem fresh_laterPart_eq (path : Path) (slot : Nat) (offset : Option Nat) :
    s.fresh.laterPart path slot offset = s.laterPart path slot offset := rfl
@[simp] theorem fresh_descriptor_eq (k : Nat) : s.fresh.descriptor k = s.descriptor k := rfl
@[simp] theorem fresh_stagingDue_eq (action : Nat) : s.fresh.stagingDue action = s.stagingDue action := rfl
@[simp] theorem fresh_window_eq : s.fresh.window = s.window := rfl
@[simp] theorem fresh_windowOk_eq : s.fresh.windowOk = s.windowOk := rfl
@[simp] theorem fresh_mboxOwner_eq : s.fresh.mboxOwner = s.mboxOwner := rfl
@[simp] theorem fresh_dexRefused_eq (absent changes limited steward : Bool) :
    s.fresh.dexRefused absent changes limited steward = s.dexRefused absent changes limited steward := rfl
@[simp] theorem fresh_blobKey_eq (slot : Nat) (b : List Byte) : s.fresh.blobKey slot b = s.blobKey slot b := rfl
@[simp] theorem fresh_cxlTime_eq : s.fresh.cxlTime = s.cxlTime := rfl
@[simp] theorem fresh_fwRefused_eq : s.fresh.fwRefused = s.fwRefused := rfl
@[simp] theorem fresh_checking_eq : s.fresh.checking = s.checking := rfl
@[simp] theorem fresh_compassOn_eq : s.fresh.compassOn = s.compassOn := rfl
@[simp] theorem fresh_gaugeOn_eq : s.fresh.gaugeOn = s.gaugeOn := rfl
@[simp] theorem fresh_nextDue_eq : s.fresh.nextDue = s.nextDue := rfl
@[simp] theorem fresh_groupDomains_eq (g : Nat) : s.fresh.groupDomains g = s.groupDomains g := rfl
@[simp] theorem fresh_restoreTrav_eq (x : Trav) (k : Nat) : s.fresh.restoreTrav x k = s.restoreTrav x k := rfl
@[simp] theorem fresh_stagePowered_eq (n : Nat) : s.fresh.stagePowered n = s.stagePowered n := rfl
@[simp] theorem fresh_atStage_eq (n : Nat) : s.fresh.atStage n = s.atStage n := rfl
@[simp] theorem fresh_bootChoice_eq : s.fresh.bootChoice = s.bootChoice := rfl
@[simp] theorem fresh_storedUcode_eq : s.fresh.storedUcode = s.storedUcode := rfl
@[simp] theorem fresh_pairing_eq (i : Image) : s.fresh.pairing i = s.pairing i := rfl
@[simp] theorem fresh_faultShows_eq (f : EngineFault) : s.fresh.faultShows f = s.faultShows f := rfl
@[simp] theorem fresh_failedEngines_eq (l : List EngineFault) : s.fresh.failedEngines l = s.failedEngines l := rfl
@[simp] theorem fresh_engineOut_eq (cls inst : Nat) : s.fresh.engineOut cls inst = s.engineOut cls inst := rfl
@[simp] theorem fresh_unwrap_eq (k : Nat) : s.fresh.unwrap k = s.unwrap k := rfl
@[simp] theorem fresh_namedPiece_eq (page : Nat) (p : Page) (x : Piece) : s.fresh.namedPiece page p x = s.namedPiece page p x := rfl
@[simp] theorem fresh_recallWear_eq : s.fresh.recallWear = s.recallWear := rfl
@[simp] theorem fresh_recallUs_eq : s.fresh.recallUs = s.recallUs := rfl
@[simp] theorem fresh_suppliesGood_eq : s.fresh.suppliesGood = s.suppliesGood := rfl
@[simp] theorem fresh_atDrain_eq (n : Nat) : s.fresh.atDrain n = s.atDrain n := rfl
@[simp] theorem fresh_causewayOpsDone_eq : s.fresh.causewayOpsDone = s.causewayOpsDone := rfl
@[simp] theorem fresh_atSettle_eq (n : Nat) : s.fresh.atSettle n = s.atSettle n := rfl
@[simp] theorem fresh_asleep_eq : s.fresh.asleep = s.asleep := rfl
@[simp] theorem fresh_wantsPd3_eq : s.fresh.wantsPd3 = s.wantsPd3 := rfl
@[simp] theorem fresh_musterCounts_eq : s.fresh.musterCounts = s.musterCounts := rfl
@[simp] theorem fresh_cutCopies_eq : s.fresh.cutCopies = s.cutCopies := rfl
@[simp] theorem fresh_tapSelect_eq (ir : Nat) : s.fresh.tapSelect ir = s.tapSelect ir := rfl
@[simp] theorem fresh_outputBalls_eq : s.fresh.outputBalls = s.outputBalls := rfl
@[simp] theorem fresh_idcode_eq : s.fresh.idcode = s.idcode := rfl
@[simp] theorem fresh_capture_eq (balls : BitVec 18) : s.fresh.capture balls = s.capture balls := rfl

/-! ### Readers of the arbiter -/

@[simp] theorem fresh_travWaits_eq (b : Nat) : s.fresh.travWaits b = s.travWaits b := by
  unfold State.travWaits
  rw [fresh_nextPage_eq, fresh_trav, fresh_t1Place_eq, fresh_placeBank_eq]
  rfl
@[simp] theorem fresh_waitingAt_eq (b : Nat) : s.fresh.waitingAt b = s.waitingAt b := by
  unfold State.waitingAt
  rw [fresh_travWaits_eq]
  rfl
@[simp] theorem fresh_rivals_eq (b : Nat) (r : Req) : s.fresh.rivals b r = s.rivals b r := by
  unfold State.rivals
  rw [fresh_waitingAt_eq]
@[simp] theorem fresh_mayGrant_eq (b : Nat) (r : Req) : s.fresh.mayGrant b r = s.mayGrant b r := by
  unfold State.mayGrant
  rw [fresh_waitingAt_eq]
  simp only [fresh_rivals_eq, fresh_arbOf_eq, fresh_ferryTurn_eq]

end Sys2Proof.Machine
end

