-- ==== Sys2Proof/Laws/Sparse.lean ====
section
/-! SUPPORT. The laws of the sparse tables: read after write, unlisting, and that every operation keeps the keys rising. -/

namespace Sys2Proof.Machine

open Sys2Proof

section
variable {α : Type}

theorem tget_of_lt (l : List (Nat × α)) (k : Nat) (h : l.all (fun p => decide (k < p.1)) = true) : tget l k = none := by
  induction l with
  | nil => rfl
  | cons p t ih =>
    obtain ⟨j, w⟩ := p
    simp only [List.all_cons, Bool.and_eq_true, decide_eq_true_eq] at h
    simp only [tget, if_neg (show ¬ (j = k) by omega), ih h.2]

theorem all_lt_trans (l : List (Nat × α)) (j k : Nat) (hk : k ≤ j) (h : l.all (fun p => decide (j < p.1)) = true) :
    l.all (fun p => decide (k < p.1)) = true := by
  simp only [List.all_eq_true, decide_eq_true_eq] at h ⊢
  exact fun p hp => by have := h p hp; omega

@[simp] theorem tget_tset_self (l : List (Nat × α)) (k : Nat) (v : α) : tget (tset l k v) k = some v := by
  induction l with
  | nil => simp [tset, tget]
  | cons p t ih =>
    obtain ⟨j, w⟩ := p
    simp only [tset]
    split
    · simp [tget]
    · split
      · simp [tget]
      · simp only [tget, ih]
        split <;> simp_all

theorem tget_tset_ne (l : List (Nat × α)) (k i : Nat) (v : α) (h : ¬ (i = k)) : tget (tset l k v) i = tget l i := by
  induction l with
  | nil => simp [tset, tget, Ne.symm h]
  | cons p t ih =>
    obtain ⟨j, w⟩ := p
    simp only [tset]
    split
    · simp [tget, Ne.symm h]
    · split
      · rename_i hjk
        subst hjk
        simp [tget, Ne.symm h]
      · simp only [tget, ih]

theorem tget_tdel_ne (l : List (Nat × α)) (k i : Nat) (h : ¬ (i = k)) : tget (tdel l k) i = tget l i := by
  induction l with
  | nil => rfl
  | cons p t ih =>
    obtain ⟨j, w⟩ := p
    simp only [tdel]
    split
    · rename_i hjk
      subst hjk
      simp [tget, Ne.symm h]
    · simp only [tget, ih]

theorem tget_tdel_self (l : List (Nat × α)) (k : Nat) (h : rising l = true) : tget (tdel l k) k = none := by
  induction l with
  | nil => rfl
  | cons p t ih =>
    obtain ⟨j, w⟩ := p
    simp only [rising, Bool.and_eq_true] at h
    simp only [tdel]
    split
    · rename_i hjk
      subst hjk
      exact tget_of_lt t j h.1
    · rename_i hjk
      simp only [tget, if_neg hjk, ih h.2]

theorem mem_tset (l : List (Nat × α)) (k : Nat) (v : α) (p : Nat × α) (h : p ∈ tset l k v) : p = (k, v) ∨ p ∈ l := by
  induction l with
  | nil => simpa [tset] using h
  | cons q t ih =>
    obtain ⟨j, w⟩ := q
    simp only [tset] at h
    split at h
    · simpa using h
    · split at h
      · simp only [List.mem_cons] at h ⊢
        rcases h with h | h
        · exact .inl h
        · exact .inr (.inr h)
      · simp only [List.mem_cons] at h ⊢
        rcases h with h | h
        · exact .inr (.inl h)
        · rcases ih h with h | h
          · exact .inl h
          · exact .inr (.inr h)

theorem mem_tdel (l : List (Nat × α)) (k : Nat) (p : Nat × α) (h : p ∈ tdel l k) : p ∈ l := by
  induction l with
  | nil => simp [tdel] at h
  | cons q t ih =>
    obtain ⟨j, w⟩ := q
    simp only [tdel] at h
    split at h
    · exact List.mem_cons_of_mem _ h
    · simp only [List.mem_cons] at h ⊢
      rcases h with h | h
      · exact .inl h
      · exact .inr (ih h)

theorem rising_tset (l : List (Nat × α)) (k : Nat) (v : α) (h : rising l = true) : rising (tset l k v) = true := by
  induction l with
  | nil => rfl
  | cons p t ih =>
    obtain ⟨j, w⟩ := p
    simp only [rising, Bool.and_eq_true] at h
    simp only [tset]
    split
    · rename_i hkj
      simp only [rising, List.all_cons, Bool.and_eq_true, decide_eq_true_eq]
      exact ⟨⟨hkj, all_lt_trans t j k (by omega) h.1⟩, h.1, h.2⟩
    · split
      · rename_i hjk
        subst hjk
        simp only [rising, Bool.and_eq_true]
        exact h
      · simp only [rising, Bool.and_eq_true, List.all_eq_true, decide_eq_true_eq]
        refine ⟨fun q hq => ?_, ih h.2⟩
        rcases mem_tset t k v q hq with rfl | hq
        · simp only; omega
        · simpa using List.all_eq_true.mp h.1 q hq

theorem rising_tdel (l : List (Nat × α)) (k : Nat) (h : rising l = true) : rising (tdel l k) = true := by
  induction l with
  | nil => rfl
  | cons p t ih =>
    obtain ⟨j, w⟩ := p
    simp only [rising, Bool.and_eq_true] at h
    simp only [tdel]
    split
    · exact h.2
    · simp only [rising, Bool.and_eq_true, List.all_eq_true]
      exact ⟨fun q hq => List.all_eq_true.mp h.1 q (mem_tdel t k q hq), ih h.2⟩

variable [DecidableEq α]

theorem rising_tput (d : α) (l : List (Nat × α)) (k : Nat) (v : α) (h : rising l = true) : rising (tput d l k v) = true := by
  unfold tput
  split
  · exact rising_tdel l k h
  · exact rising_tset l k v h

theorem tgetD_tput_self (d : α) (l : List (Nat × α)) (k : Nat) (v : α) (h : rising l = true) : tgetD (tput d l k v) k d = v := by
  unfold tput tgetD
  split
  · rename_i hv
    rw [tget_tdel_self l k h, hv]
    rfl
  · rw [tget_tset_self]
    rfl

theorem tgetD_tput_ne (d : α) (l : List (Nat × α)) (k i : Nat) (v : α) (h : ¬ (i = k)) : tgetD (tput d l k v) i d = tgetD l i d := by
  unfold tput tgetD
  split
  · rw [tget_tdel_ne l k i h]
  · rw [tget_tset_ne l k i v h]

end

end Sys2Proof.Machine
end

