-- ==== Sys2Proof/Laws/Memory.lean ====
section
/-! SUPPORT. Every operation on the memories keeps their one form: addresses that rise, and no line listed that reads as an unlisted one. -/

namespace Sys2Proof.Machine

open Sys2Proof

section

variable {α : Type}

theorem rising_filter (f : Nat × α → Bool) (l : List (Nat × α)) (h : rising l = true) : rising (l.filter f) = true := by
  induction l with
  | nil => rfl
  | cons p t ih =>
    simp only [rising, Bool.and_eq_true, List.all_eq_true] at h
    by_cases hp : f p = true
    · simp only [List.filter_cons, hp, if_true, rising, Bool.and_eq_true, List.all_eq_true]
      exact ⟨fun q hq => h.1 q (List.mem_filter.mp hq).1, ih h.2⟩
    · simpa [List.filter_cons, hp] using ih h.2

variable [DecidableEq α]

/-- A table that lists no default still lists none after a write. -/
theorem tput_lists_no_default (d : α) (l : List (Nat × α)) (k : Nat) (v : α) (h : ∀ p ∈ l, ¬ (p.2 = d)) : ∀ p ∈ tput d l k v, ¬ (p.2 = d) := by
  intro p hp
  unfold tput at hp
  split at hp
  · exact h p (mem_tdel l k p hp)
  · rename_i hv
    obtain rfl | hm := mem_tset l k v p hp
    · exact hv
    · exact h p hm

end

/-! ### The tile pool (02 Table 02-4) -/

theorem mem_putSlot (x y : Slot) (l : List Slot) (h : y ∈ putSlot x l) : y = x ∨ y ∈ l := by
  induction l with
  | nil => exact .inl (by simpa [putSlot] using h)
  | cons z t ih =>
    unfold putSlot at h
    split at h
    · simpa using h
    · split at h
      · rcases List.mem_cons.mp h with rfl | hm
        · exact .inl rfl
        · exact .inr (List.mem_cons_of_mem z hm)
      · rcases List.mem_cons.mp h with rfl | hm
        · exact .inr List.mem_cons_self
        · exact (ih hm).imp id (List.mem_cons_of_mem z)

/-- Putting a slot back keeps the pool in index order, one slot an index. -/
theorem rising_putSlot (x : Slot) (l : List Slot) (h : rising (l.map fun y => (y.idx, y)) = true) :
    rising ((putSlot x l).map fun y => (y.idx, y)) = true := by
  induction l with
  | nil => rfl
  | cons z t ih =>
    simp only [List.map_cons, rising, Bool.and_eq_true, List.all_eq_true, List.mem_map, decide_eq_true_eq] at h
    have first : ∀ p ∈ t, z.idx < p.idx := fun p hp => h.1 (p.idx, p) ⟨p, hp, rfl⟩
    unfold putSlot
    split
    · rename_i hlt
      simp only [List.map_cons, rising, Bool.and_eq_true, List.all_eq_true, List.mem_cons, List.mem_map, decide_eq_true_eq]
      refine ⟨?_, h⟩
      rintro p (rfl | ⟨q, hq, rfl⟩)
      · exact hlt
      · exact Nat.lt_trans hlt (first q hq)
    · split
      · rename_i heq
        simp only [List.map_cons, rising, Bool.and_eq_true, List.all_eq_true, List.mem_map, decide_eq_true_eq]
        refine ⟨?_, h.2⟩
        rintro p ⟨q, hq, rfl⟩
        exact heq ▸ first q hq
      · rename_i hlt hne
        simp only [List.map_cons, rising, Bool.and_eq_true, List.all_eq_true, List.mem_map, decide_eq_true_eq]
        refine ⟨?_, ih h.2⟩
        rintro p ⟨q, hq, rfl⟩
        rcases mem_putSlot x q t hq with rfl | hm
        · exact by omega
        · exact first q hm

/-! ### The benchmark store's words (14:R340) -/

theorem rising_swProgram (w : SWords) (l : List (Nat × Word)) (h : rising w = true) : rising (swProgram w l) = true := by
  unfold swProgram
  induction l generalizing w with
  | nil => exact h
  | cons p t ih => exact ih _ (rising_tset w p.1 ⟨p.2, 0⟩ h)
theorem rising_swPreset (w : SWords) (a n : Nat) (h : rising w = true) : rising (swPreset w a n) = true := rising_filter _ w h
theorem rising_swFail (w : SWords) (a : Nat) (h : rising w = true) : rising (swFail w a) = true := rising_tset w a _ h

/-- A word reads what was programmed, and every other word what it read. -/
theorem swVal_tset_self (w : SWords) (a : Nat) (v : Word) : swVal (tset w a ⟨v, 0⟩) a = v := by simp [swVal]
theorem swVal_tset_ne (w : SWords) (a b : Nat) (x : SWord) (h : ¬ (b = a)) : swVal (tset w a x) b = swVal w b := by
  unfold swVal
  rw [tget_tset_ne w a b x h]

/-! ### The causeway region (17:R431) -/

/-- A program of a region line keeps the region's form. -/
theorem rising_putRegion (s : State) (n : Nat) (ws : List Code13) (h : rising s.drain.region = true) : rising (s.putRegion n ws).drain.region = true :=
  rising_tput _ _ _ _ h

/-! ### Engines under test (07:R188) -/

/-- An engine puts out what it should exactly where no bit of its output is inverted. -/
theorem out_eq_vectorOut (f : EngineFault) :
    EngineFault.out f = vectorOut f.cls.val f.test.val f.vector ↔ f.wrong % 2 ^ outBits f.test.val f.vector = 0 := by
  unfold EngineFault.out
  constructor
  · intro h
    exact Nat.xor_right_injective (h.trans (Nat.xor_zero _).symm)
  · intro h
    simp [h]

end Sys2Proof.Machine
end

