-- ==== Sys2Proof/Tests/Slice0.lean ====
section
/-! SUPPORT. The model's own tests: terms that spell no command, worked values of the spec, and for each statement of
Certificates/Slice0/Obligations.lean a concrete state and operands that meet its hypotheses. -/

namespace Sys2Proof.Machine.Tests

-- one proof at a time: they evaluate in the kernel, and many at once take too much memory
set_option Elab.async false
set_option maxRecDepth 20000

open Sys2Proof Sys2Proof.Machine

/-! ### Helper states -/

/-- A HOLDER entry: port p, no SPID, holder h (10 Table 10-3). -/
def holderEntry (p h : Nat) : Entry := BitVec.ofNat 256 (1 + p * 8 + h * 2 ^ 32)

/-- A valid PARCEL entry with every right, for every holder (10 Table 10-6). -/
def parcelEntry (gate first last : Nat) : Entry :=
  pack 256 [(0, 5, first), (5, 5, last), (10, 1, gate), (11, 1, 1), (12, 2, 0x1FF)]

/-- The same, sealed under key slot 3. -/
def sealedEntry (gate first last : Nat) : Entry := parcelEntry gate first last ||| pack 256 [(11, 1, 4), (16, 1, 3)]

/-- A plan record CHANNEL: channel c of owner 1 for every op (03 Table 03-3). -/
def channelRecord (c : Nat) : Entry := pack 256 [(0, 1, 3), (4, 1, c), (6, 2, 1), (8, 1, 0), (9, 1, 0x3F)]

/-- A trained port with a credit, its three decoders committed. -/
def portUp : PortSt :=
  ⟨true, 8, 64, true, 4, 64, [⟨true, 0, 0x10000000, 1, 256⟩, ⟨true, 0x400000000, 0x400000000, 1, 256⟩, ⟨true, 0x4000000000, 0x4000000000, 1, 256⟩]⟩

/-- A part in SERVICE with its clock, domains, links, steward, store and sensors up. -/
def svc : State :=
  { State.reset with
    clk := ⟨0x1000000000, false, true, 0⟩
    pwr := { State.reset.pwr with on := 0xFF, group := 0, ramping := 0 }
    strap := ⟨true, false, false, 0⟩
    md := ⟨.service, .recall, 1, .clear, true, false⟩
    rcl := { State.reset.rcl with stage := 8, outcome := 1 }
    elog := { State.reset.elog with numbered := true }
    own := ⟨some .mailbox, 0⟩
    strait := { State.reset.strait with ready := true }
    link := ⟨portUp, portUp, [], [], true, none⟩
    cad := { State.reset.cad with
      loaded := true
      inH := [(0, holderEntry 0 1), (1, holderEntry 1 2)]
      inP := [(0, parcelEntry 0 0 0x1000FC0), (1, parcelEntry 1 0x400000000 0x7FFFFFFC0), (2, parcelEntry 2 0x4000000000 0x7FFFFFFFC0)] }
    t0 := ⟨1, [], [], []⟩
    comp := { State.reset.comp with level := 0, valid := 7, sampled := true }
    tide := { State.reset.tide with gauge := 49152, budget := 49152, slope := some 1000000, millivolts := 4000 }
    store := { State.reset.store with ready := true }
    ent := { State.reset.ent with st := .ready, ready := true, source := true }
    stew := { State.reset.stew with run := true, ferryVer := 0x0031, lz4Ver := 0x0014 } }

/-! ### Terms that spell no command (WellFormed) -/

theorem test_ill_mailboxUnsupported : WellFormed (.mailboxUnsupported 0 0x0100) = false ∧ WellFormed (.mailboxUnsupported 0 0x0104) = true := by
  decide
theorem test_ill_i3cCccUnsupported : WellFormed (.i3cCccUnsupported none 0x06) = false ∧ WellFormed (.i3cCccUnsupported none 0x12) = true := by
  decide
theorem test_ill_doorbellBadCmd : WellFormed (.doorbellBadCmd 0 none 0 5) = false ∧ WellFormed (.doorbellBadCmd 0 none 0 6) = true := by decide
theorem test_ill_registerWrite : WellFormed (.registerWrite .strait 0x32 0) = false ∧ WellFormed (.registerWrite .strait 0x34 0) = true := by
  decide
theorem test_ill_bypass : WellFormed (.bypass 4) = false ∧ WellFormed (.bypass 5) = true := by decide

/-! ### States the witnesses use -/

/-- A scratch line with data and a poisoned one. -/
def scratchSt : State := { svc with t0 := { svc.t0 with scratch := [(1, ⟨packWords (encLine (lineFold 1) 0x55), false⟩), (2, ⟨0, true⟩)] } }
/-- Fast line 3 stored. -/
def fastSt : State :=
  { svc with t1 := { svc.t1 with cells := (List.range 64).map fun i => (svc.physLine 3 * 64 + i, encByte (lineFold 3) 0x77) } }
/-- The same line in a sealed parcel, with and without its key. -/
def sealedSt : State :=
  { fastSt with cad := { fastSt.cad with inP := [(1, sealedEntry 1 0x400000000 0x7FFFFFFC0)] }, keys := ⟨[(3, ⟨1, 1, 5, 0, 0⟩)], []⟩ }
def lostKeySt : State := { sealedSt with keys := ⟨[], []⟩ }
/-- Slot 300 holds tile 7, its line 2 stored. -/
def slotOf7 (st : SlotState) (dirty : Mask) : Slot :=
  ⟨300, st, 7, 1, none, none, none, 0, 0, 4, dirty, 0, [(2, packWords (encLine (lineFold (300 * 64 + 2)) 0x99))], [], none, false⟩
def poolSt (x : Slot) : State := { svc with t0 := { svc.t0 with pool := [x] } }
/-- No slot is left for a tile. -/
def fullSt : State := { svc with t0 := { svc.t0 with scratchMiB := 64 } }
/-- Every slot is in use: the last one holds tile 9, clean or dirty, of a holder above its allotment. -/
def lastSlot (st : SlotState) : Slot :=
  { slotOf7 st (if st = .dirty then 4 else 0) with idx := 16383, tile := 9, lines := [(2, packWords (encLine (lineFold (16383 * 64 + 2)) 0x99))] }
def tightSt (st : SlotState) : State := { svc with t0 := { svc.t0 with scratchMiB := 63, pool := ((List.range 255).map fun i =>
  { slotOf7 .writing 0 with idx := 16128 + i, tile := 1000 + i }) ++ [lastSlot st] } }
/-- No parcel is in force; a decoder of port 0 is not committed. -/
def closedSt : State := { svc with cad := { svc.cad with inP := [] } }
def undecodedSt : State := { svc with link := { svc.link with p0 := { portUp with decoders := List.replicate 3 .none } } }
/-- Port 0 without a link; a credit of each port to be returned. -/
def downSt : State := { svc with link := { svc.link with p0 := .down } }
def freedSt : State := { svc with link := { svc.link with freed := [0, 1] } }
/-- DORMANT with CCLK stopped and PD0 alone on. -/
def asleepSt : State := { svc with clk := { svc.clk with run := false }, md := { svc.md with mode := .dormant }, pwr := { svc.pwr with on := 1 } }
/-- A plan of two records: channel 5 of holder 1 with window 0 of 8 slots and lead 4. -/
def planOf (l : List Entry) : List (Nat × Entry) :=
  (0, pack 256 [(0, 4, 0x4C505653), (4, 2, 1), (6, 2, l.length), (8, 1, 1)]) :: ((List.range l.length).map (· + 1)).zip l
def ferryPlan : List (Nat × Entry) := planOf [channelRecord 5, pack 256 [(0, 1, 2), (4, 1, 0), (6, 2, 8), (8, 2, 4)]]
/-- Channel 5 as given, with its owner and window in the plan in force. -/
def chanSt (x : Chan) : State :=
  { svc with
    plan := { svc.plan with inf := ferryPlan, sh := ferryPlan }
    ferry := { svc.ferry with chans := (List.replicate 64 Chan.zero).set 5 x } }
/-- A line of scratch that holds d. -/
def scratchLine (l : Nat) (d : Line) : Nat × T0Line := (l, ⟨packWords (encLine (lineFold l) d), false⟩)
/-- A route header of op 6, one leg, 16 tiles (04 Table 04-6), with a magic; its leg line (04 Table 04-7) of a count. -/
def headerLineOf (magic legs : Nat) : Line :=
  let b : BitVec 480 := pack 480 [(0, 4, magic), (4, 1, 6), (6, 2, legs), (8, 4, 0xAA), (12, 4, 0x77), (16, 4, 16)]
  crc32c (toBytes b 60) ++ b
def headerLine : Line := headerLineOf 0x45545552 1
def legLineOf (count : Nat) : Line :=
  let b : BitVec 224 := pack 224 [(0, 5, 0x4000000000), (16, 4, count)]
  ((crc32c (toBytes b 28) ++ b : Entry)).setWidth 512
def streamLeg : Leg := ⟨0x4000000000, 0, 16⟩
/-- A channel whose route stands at scratch address 0, of a header and a leg line. -/
def routeOf (h l : Line) (x : Chan) : State :=
  let s := chanSt x
  { s with t0 := { s.t0 with scratch := [scratchLine 0 h, scratchLine 1 l] } }
def routeSt (x : Chan) : State := routeOf headerLine (legLineOf 16) x
/-- A RUNNING channel that makes the transfer `op` of leg l. -/
def moving (op : Byte) (l : Leg) : Chan :=
  { Chan.zero with state := .running, op := op, legs := 1, cur := some l, total := 16, mark := 1, pattern := 0xAA }
def poolChan (x : Chan) (y : Slot) : State := { chanSt x with t0 := { (chanSt x).t0 with pool := [y] } }
def legAt (a b : BitVec 40) : Leg := ⟨a, b, 16⟩
/-- The same channel in CAUSEWAY. -/
def cwSt (x : Chan) : State := { chanSt x with md := { svc.md with mode := .causeway } }
def leg7 : Leg := legAt 0x4000007000 0
def fillLeg : Leg := legAt 0 0x400000000
def copyLeg : Leg := legAt 0x4000007000 0x400000000
def headerSt : State := routeSt { Chan.zero with state := .loading }
def crookedSt : State := routeSt { Chan.zero with state := .loading, route := 32 }
/-- Slot 300 in channel 5's window at route position 0. -/
def windowSlot (dirty : Mask) : Slot := { slotOf7 .window dirty with win := some 0 }
/-- Tile 7's record is on its way to the map: line 2 holds 0x99. -/
def record7 : TileRec := ⟨7, 8, [(2, 0x99)], 0x11A9453C9FB7E100, none⟩
/-- The piece, the packing buffer and the record on its way that a full image of a record makes; `coded` is its unit 2. -/
def pieceOf (r : TileRec) : Piece := ⟨r.tile, r.crc, 0, 8, false, r.poisonL⟩
def bufOf (r : TileRec) : PackBuf := ⟨40, [pieceOf r], 0, none, none⟩
def wayOf (r : TileRec) (coded : BitVec 832) (head : Option (Nat × Nat × Word)) : Moving :=
  ⟨r.tile, 8, r.crc, r.poisonL, [(2, coded)], 0, head, none, false, 0, none⟩
def onTheWaySt (s : State) : State :=
  { s with t2 := { s.t2 with bufs := [(0, [bufOf record7])], moving := [wayOf record7 0x1199 none] } }
/-- The tiles from 0x4000000000 on are sealed under key slot 3, which holds no key. -/
def sealRecord : Entry := pack 256 [(0, 1, 7), (4, 1, 2), (5, 1, 3), (8, 5, 0x4000000000), (16, 5, 0x400000FFFF)]
def sealedWaySt (s : State) : State :=
  let w := onTheWaySt s
  { w with plan := { w.plan with inf := planOf [channelRecord 5, pack 256 [(0, 1, 2), (4, 1, 0), (6, 2, 8), (8, 2, 4)], sealRecord] } }
/-- A line of a fill arrives with a bit inverted. -/
def hurt : List (Fin 64 × Carry) := [(63, ⟨1, 0, 0, 0⟩)]
/-- Fast lines 0 to 63 stored. -/
def fastTileSt (x : Chan) : State :=
  { chanSt x with t1 := { svc.t1 with cells := (List.range 4096).map fun k => (k, encByte (lineFold (k / 64)) 0x77) } }
theorem tget_mapped {α : Type} (f : Nat → α) (k : Nat) : ∀ l : List Nat, k ∈ l → tget (l.map fun i => (i, f i)) k = some (f k)
  | j :: l, h => by
    by_cases e : j = k
    · simp [tget, e]
    · simp only [List.map_cons, tget, e, if_false]
      exact tget_mapped f k l ((List.mem_cons.1 h).resolve_left fun h => e h.symm)
/-- Each line of it decodes clean. -/
theorem fastTile_clean (x : Chan) (i : Nat) (h : i < 64) : (decLine (lineFold i) ((fastTileSt x).t1Words i)).cls = .clean := by
  have hp : (fastTileSt x).physLine i = i := (by decide +kernel : ∀ i < 64, svc.physLine i = i) i h
  have hw : (fastTileSt x).t1Words i = (List.range 64).map fun _ => encByte (lineFold i) 0x77 := by
    simp only [State.t1Words, Fast.physWords, hp]
    refine List.map_congr_left fun j hj => ?_
    have hj : j < 64 := List.mem_range.1 hj
    have e : (i * 64 + j) / 64 = i := by omega
    have := tget_mapped (fun k => encByte (lineFold (k / 64)) 0x77) (i * 64 + j) (List.range 4096) (List.mem_range.2 (by omega))
    simp only [Fast.cell, fastTileSt, this, e]
  rw [hw]
  exact (by decide +kernel : ∀ f : BitVec 3, (decLine f ((List.range 64).map fun _ => encByte f 0x77)).cls = .clean) _
def plainPack : PackOutcome := ⟨[], 0, true, true⟩
/-- Compression that gives no smaller record. -/
def bigPack : PackOutcome := ⟨List.replicate 3600 0, 0, true, true⟩
/-- A read of tile 7 waits since 12 us; no slot is left. -/
def oldRead : WaitRead := ⟨0, 7, 2, 1, svc.clk.ts - 19200, none⟩
def waitSt : State := { svc with link := { svc.link with waits := [oldRead] }, t0 := { svc.t0 with scratchMiB := 64 } }
/-- A store of tile 7 waits, with its slot as given. -/
def wstore7 (en : Mask) : WStore := WStore.make 7 3 0x42 en false 1 none
def storeSt (x : Slot) : State := { poolSt x with t0 := { (poolSt x).t0 with stores := [wstore7 allOnes] } }
def fillingWaits (x : Slot) : State := { poolSt x with link := { svc.link with waits := [oldRead] } }
/-- The dense ceiling stands ahead. -/
def denseSt (d : Dense) : State :=
  { svc with t2 := d, store := { svc.store with views := [(1544, ⟨0x1000000, 1, 1, false⟩)] } }
/-- Tile 7 is stored: its raw record is the full page 100, programmed at strength 40. -/
def fullPage : Page := ⟨⟨0xC5, 40, 0, 0, [pieceOf record7], [(2, 0x99)]⟩, [], []⟩
def programmedOnce : Dense :=
  { svc.t2 with seqNo := 1, regions := [(1028, ⟨0, 10922, 1⟩)], pages := [(100, fullPage)] }
def storedTileSt : State := denseSt { programmedOnce with tileMap := [(7, ⟨100, 0, 8, none, 0, 0, 40, 0⟩)] }
def fillIn (s : State) (x : Slot) : State := { s with t0 := { s.t0 with pool := [x] } }
/-- A page read whose cells fail beyond the strength in each attempt, and one that is corrected. -/
def badRead : PageRead :=
  let a : Attempt := ⟨List.range 41, none⟩
  ⟨a, a, a, none⟩
def fixedRead : PageRead := { PageRead.plain with first := ⟨[5], none⟩ }
/-- A slot whose dirty line 2 has been read out for its write-back. -/
def snap7 (next : AfterWb) : Snapshot := ⟨[(2, 0x99)], 0, 4, record7.crc, next⟩
def readOutSlot (next : AfterWb) : Slot := { slotOf7 .writing 4 with wb := some (snap7 next) }
def takeFor : AfterWb := .take 11 2 (some 1) none none 0
/-- Nothing of the dense tier is free but what RESERVE runs hold. -/
def fullDenseSt (x : Slot) : State := { poolSt x with plan := { svc.plan with inf := planOf [pack 256 [(0, 1, 4), (4, 4, 0x1000000), (8, 4, 0x4000000)]] } }
/-- A full image of tile 7's record. -/
def imageSt : State := onTheWaySt (denseSt svc.t2)
def heldBuf : PackBuf := { bufOf record7 with rejects := 3, rejectedAt := some (svc.clk.ts - 1600000) }
def heldImageSt : State := { imageSt with t2 := { imageSt.t2 with bufs := [(0, [heldBuf])] } }
/-- Two bits of a packing-buffer word read inverted. -/
def spoiled : ProgramOutcome := { ProgramOutcome.plain with sram := [(2, 0, 0), (2, 0, 1)] }
/-- More cells differ than a quarter of the strength. -/
def rejected : ProgramOutcome := { ProgramOutcome.plain with wrong := List.range 11 }
/-- Tile 7's record is programmed in page 100 and waits for its commit. -/
def placedSt : State := denseSt { programmedOnce with moving := [wayOf record7 0x1199 (some (100, 40, 0))] }
/-- Page 300 waits for its preset. -/
def presetSt : State := { storedTileSt with t2 := { storedTileSt.t2 with
  toPreset := [300], pages := storedTileSt.t2.pages ++ [(300, ⟨⟨0xC5, 40, 0, 9, [], []⟩, [], []⟩)] } }
/-- Tile 7's record shares page 100 with a freed piece, and the page waits for its relocation. -/
def piece7 : Piece := ⟨7, record7.crc, 3, 5, false, none⟩
def page100 : Page := ⟨⟨0xC5, 40, 0, 0, [⟨8, record7.crc, 0, 3, false, none⟩, piece7], [(26, 0x99)]⟩, [0], []⟩
def entry7 : MapEntry := ⟨100, 3, 5, none, 0, 0, 40, 0⟩
def stored7 : TileRec := { record7 with sectors := 5 }
def sharedSt : State := denseSt { programmedOnce with tileMap := [(7, entry7)], pages := [(100, page100)], relocQ := [100] }
/-- Charter page 5 waits for its relocation, on a part with a dense tier and on the RBK-9204. -/
def charterSt : State := { denseSt svc.t2 with t2 := { svc.t2 with relocQ := [svc.part.charterHome 5] } }
def charter9204St : State := { charterSt with fuse := { svc.fuse with part := .rbk9204 }, t2 := { svc.t2 with relocQ := [5] } }
/-- Region 0 of dense bank 128 owes a gap move. -/
def regionSt (start gap : Nat) : State := { storedTileSt with t2 := { storedTileSt.t2 with regions := [(regionKey 128 0, ⟨start, gap, 130⟩)] } }
def reloadSt : State := { svc with cad := { svc.cad with reload := [true, false, false, false, false], damage := [(0, 0x40, true), (1, 0x80, false)] } }
def t1St (f : Fast) : State := { svc with t1 := f }
def wqOf (d : Line) (en : Mask) (key : Option Byte) : WqEntry := ⟨0xFFFFFFF, wqWords 0xFFFFFFF d false, en, key, none⟩
/-- A write waits in the queue; one under a sealed range, with its key; and at CAUTION, where it is verified inline. -/
def queuedSt : State := t1St { svc.t1 with wq := [wqOf 0x1234 0xFF none] }
def queuedKeySt : State := { t1St { svc.t1 with wq := [wqOf 0x1234 allOnes (some 3)] } with keys := ⟨[(3, ⟨1, 1, 5, 0, 0⟩)], []⟩ }
def cautionSt : State := { queuedSt with comp := { svc.comp with level := 1 } }
def rwOf3 : RwEntry := ⟨3, allOnes, svc.ts48⟩
/-- Line 3 was written just now; one of its bits reads inverted. -/
def rwSt : State := { fastSt with t1 := { fastSt.t1 with rwq := [rwOf3] } }
def rwBadSt : State :=
  { rwSt with t1 := { rwSt.t1 with cells := tset rwSt.t1.cells (svc.physLine 3 * 64 + 9) (encByte (lineFold 3) 0 ^^^ 4) } }
/-- The last byte of line 3 waits for its correction; a byte of line 7 of the causeway region; and one of scratch line 1. -/
def fix3 : Correction := ⟨true, 3, false, 63, 0x77⟩
def fixRegion : Correction := ⟨true, 0x10000007, false, 0, encByte (regionFold 7) 0⟩
def fix1 : Correction := ⟨false, 1, false, 4, encByte (lineFold 1) 0x33⟩
def fixSt (c : Correction) : State :=
  { scratchSt with
    t1 := { fastSt.t1 with corrections := [c] }
    drain := { svc.drain with region := [(7, packWords ((encLine (regionFold 7) 0x11).set 0 3))] } }
def gapSt (start gap : Nat) : State := t1St { fastSt.t1 with groups := [(0, ⟨start, gap, 64⟩)] }
/-- A T1 pass among the region's lines, at its last line, and at a line with a corrected byte; and a T2 pass at its first page. -/
def passSt (n : Nat) (s : State) : State := { s with trav := { s.trav with t1 := { s.trav.t1 with done := n, forced := true } } }
def suspectSt : State := passSt (svc.passTotal .t1 - 1) { svc with md := { svc.md with restrict := { Restrict.clear with witnessSuspect := true } } }
/-- The last moment of a T1 pass, and a T2 pass behind its pace. -/
def lateSt : State :=
  { svc with trav := { svc.trav with t1 := { svc.trav.t1 with served := 480 * 60 * 1600000000, done := 1000 },
                                     t2 := { svc.trav.t2 with served := 168 * 3600 * 1600000000 } } }
/-- A second after many programs and retries in bank 0. -/
def busyBankSt : State :=
  { svc with err := { svc.err with banks := [(0, { BankErr.zero with sec := svc.second - 1, secPrograms := 2000000, secRetries := 50 }),
                                             (200, { BankErr.zero with sec := svc.second, prevPrograms := 1024, trim := -2 })] } }
def wornSt : State := { svc with err := { svc.err with wear := [(5, ⟨9, 0, 1, 0, 0⟩)] } }
/-- Compass samples of one axis: 0.3 mT steps of each sensor. -/
def axis (n : Int) : Axes := ⟨n, 0, 0⟩
/-- The Compass stands at a level, since when its reading has been below the falling threshold. -/
def levelSt (l : BitVec 2) (since : Option Stamp) : State :=
  { svc with comp := { svc.comp with level := l, belowSince := since }, md := { svc.md with restrict := { Restrict.clear with fieldRo := l == 3 } } }
/-- A commit in one phase, and the commit with a field at INHIBIT. -/
def commitOf (isPlan : Bool) (ph : CommitPhase) : Commit := ⟨isPlan, ph, some 0, 0, 3, 0, false, if isPlan then [5] else [], if isPlan then [5] else []⟩
def commitSt (isPlan : Bool) (ph : CommitPhase) : State :=
  { svc with
    commit := some (commitOf isPlan ph)
    store := { svc.store with views := [(1544, ⟨0x1000000, 1, 1, false⟩)] }
    mbox := { svc.mbox with background := some (0, if isPlan then .planCommit else .cadCommit) }
    plan := { svc.plan with sh := ferryPlan } }
def inhibitOf (s : State) : State := { s with comp := { s.comp with level := 2 } }
/-- A shadow cadastre with a parcel of end before start; a shadow plan that passes, and one with a bad magic. -/
def badCadSt : State :=
  let s := commitSt false .validating
  { s with cad := { s.cad with shP := [(9, parcelEntry 1 0x400000040 0x400000000)] } }
def crcPlan (l : List Entry) : List (Nat × Entry) :=
  let e := planOf l
  let body := l.flatMap fun x => toBytes x 32
  (0, planEntry e 0 ||| pack 256 [(9, 1, 1)] ||| ((crc32c body).setWidth 256 <<< 96)) :: e.drop 1
def goodPlanSt : State :=
  let s := commitSt true .validating
  { s with plan := { s.plan with sh := crcPlan [] } }
def badPlanSt : State :=
  let s := commitSt true .validating
  { s with plan := { s.plan with sh := [] } }
/-- A plan that seals the tiles from 0x4000000000 on under key slot 3. -/
def sealPlanSt : State :=
  let s := commitSt true .persisting
  { s with plan := { s.plan with sh := planOf [sealRecord] } }
/-- The same without a raised ceiling. -/
def lowCeilingOf (s : State) : State := { s with store := { s.store with views := [] } }
def heldBell5 : HeldBell := ⟨5, 1, pack 512 [(6, 1, 1)], 0x40, 0⟩
def heldBellSt : State :=
  let s := commitSt true .reporting
  { s with ferry := { s.ferry with held := [heldBell5] } }
def stratSt : State := { svc with own := ⟨some .strait, 0⟩ }
/-- Mailbox and firmware states: a time set, a log with a record, generations below the stored ceiling. -/
def timedSt : State := { svc with mbox := { svc.mbox with time := some (1000, 16) } }
def evRec1 : EvRec := ⟨1, 5, some 3, 0x22, 5, 0, 0, 0⟩
def loggedSt : State :=
  { svc with mbox := { svc.mbox with logs := [.empty, .empty, ⟨[(1, evRec1, 0), (2, evRec1, 0)], false, 0⟩, .empty] } }
def fullLogSt : State :=
  { svc with mbox := { svc.mbox with logs := [.empty, .empty, ⟨List.replicate 64 (1, evRec1, 0), true, 7⟩, .empty] } }
def partSt (p : Part) : State := { svc with fuse := { svc.fuse with part := p } }
def ceiling (s : State) : State := { s with store := { s.store with views := [(1544, ⟨0x1000000, 1, 1, false⟩)] } }
def fwSt : State := ceiling svc
def transferSt : State := { fwSt with stew := { fwSt.stew with xfer := some ⟨.mailbox, true, List.replicate 5000 1⟩, writing := some true, imgB := none } }
/-- An image in slot B with a bundle that it asks to install. -/
def installSt : State :=
  { fwSt with stew := { fwSt.stew with imgB := some { shippedImage with bundle := some shippedBundle, installUcode := true } } }
/-- Release Tiles in each phase, for tiles 7 and 8. -/
def releaseOf (ph : ReleasePhase) : Release := ⟨ph, 0, [(7, 2)], false, 2, 8⟩
def releaseSt (ph : ReleasePhase) : State :=
  { storedTileSt with
    t2 := { storedTileSt.t2 with release := some (releaseOf ph) }
    mbox := { svc.mbox with background := some (0, .releaseTiles) } }
def waitReleaseSt : State := { releaseSt .persisted with link := { svc.link with waits := [oldRead] } }
/-- Key slot 3 VALID with a queued write under it; the store's engine busy. -/
def keySt : State :=
  { queuedKeySt with keys := ⟨[(3, ⟨1, 1, 5, 0, 0⟩)], [(3, 5, 1)]⟩ }
def heldKeySt : State := { keySt with store := { keySt.store with holdUntil := some 0x7000000000000000 } }
def busyStore (s : State) : State := { s with store := { s.store with dev := some (.append 1) } }
def payload8 (k : Nat) : List Byte := [BitVec.ofNat 8 k, 0, 0, 0, 0, 0, 0, 0]
def blobPayload (magic : Nat) : List Byte :=
  [255, 0, 176, 0, 0, 0, 0, 0] ++ toBytes (BitVec.ofNat 32 magic) 4 ++ [1, 255, 0, 0] ++ List.replicate 168 0
def readPayload (off n : Nat) : List Byte := toBytes (BitVec.ofNat 16 off) 2 ++ toBytes (BitVec.ofNat 16 n) 2
def tablePayload (sel i n : Nat) : List Byte := [BitVec.ofNat 8 sel, 0] ++ toBytes (BitVec.ofNat 16 i) 2 ++ toBytes (BitVec.ofNat 16 n) 2 ++ [0, 0]
def entryPayload (sel i : Nat) : List Byte := tablePayload sel i 1 ++ List.replicate 24 0 ++ List.replicate 32 119
def writePayload : List Byte := readPayload 0x34 1 ++ [0, 0, 0, 0, 1, 2, 3, 4]
def runPayload (a n : Nat) : List Byte := [1, 0, 0, 0, 0, 0, 0, 0] ++ toBytes (BitVec.ofNat 32 a) 4 ++ toBytes (BitVec.ofNat 32 n) 4
/-- Two bits of one byte of a payload line read inverted; one bit. -/
def twoFlips : BitFlips := [(0, 0), (0, 1)]
def oneFlip : BitFlips := [(0, 0)]
/-- The Strait port holds OWNER, on SPI; an addressed I3C target with a response; one without an address whose Hot-Join is due. -/
def i3cSt : State :=
  { stratSt with
    strap := ⟨true, true, false, 5⟩
    i3c := { svc.i3c with addr := some 0x32 }
    strait := { svc.strait with response := [1, 2, 3] } }
def silentSt : State := { i3cSt with strait := { i3cSt.strait with response := [] } }
def armedSt : State := { i3cSt with i3c := { i3cSt.i3c with rstAct := 2, ibi := true }, evt := { svc.evt with stat := 0x800010, en := 0x800000 } }
def joinSt : State := { i3cSt with i3c := { i3cSt.i3c with addr := none, hotJoin := some (svc.clk.ts - 1600000) } }
def flagSt (ibi : Bool) : State :=
  { i3cSt with evt := { svc.evt with stat := 0x800010, en := 0x800000 }, i3c := { i3cSt.i3c with ibi := ibi } }
def notReadySt (i3c : Bool) : State :=
  { svc with
    strap := ⟨true, i3c, false, 5⟩
    strait := { svc.strait with ready := false } }
def freeSt : State := { svc with own := ⟨none, 0⟩ }
/-- The mailbox took the free token in this cycle. -/
def claimedSt : State := { svc with evt := { svc.evt with cyc := { svc.evt.cyc with mboxClaim := true } } }
/-- Flag 3 was set in this cycle. -/
def setNowSt (s : State) : State := { s with evt := { s.evt with stat := 0xF, cyc := { s.evt.cyc with setNow := 8, hits := [3] } } }
def sectorOf (n : Nat) : List Byte := List.replicate n 0
/-- WITNESS_EXPIRED stands; a full pass has completed or not. -/
def expiredSt (pass : Bool) : State :=
  { svc with
    md := { svc.md with restrict := { Restrict.clear with witnessExpired := true } }
    trav := { svc.trav with passSinceExpired := pass }
    store := { svc.store with witExpired := true } }
def lockedSt : State :=
  { svc with
    md := { svc.md with lock := true }
    tide := { svc.tide with lock := true }
    comp := { svc.comp with lock := true }
    pwr := { svc.pwr with lock := true } }
/-- A table command of a path is latched, by its registers or by a row. -/
def latchSt (cmd : BitVec 4) (sel : Byte) (i : BitVec 16) (tell : Bool) : State :=
  { svc with tbl := { svc.tbl with sel := sel, index := i, cmd := cmd, busy := true, latch := some ⟨.mailbox, cmd, sel, i, 5, false, tell⟩ } }
def pageSt (n : BitVec 9) : State := { svc with store := { svc.store with page := n } }
/-- Bank 3 and channel 5 have counted, a part of it in this cycle. -/
def countedSt : State :=
  { chanSt { Chan.zero with state := .running, cnt := ⟨1, 2, 3, 4, 5, 6, 7, 8⟩ } with
    err := { svc.err with banks := [(3, { BankErr.zero with corrections := 9, writeFails := 4, trim := -2 })] }
    evt := { svc.evt with cyc := { svc.evt.cyc with
      bankInc := [(3, { BankErr.zero with corrections := 1 })]
      chanInc := [(5, ⟨1, 0, 0, 0, 0, 0, 0, 0⟩)]
      hits := [3, 3] } } }
/-- A warden's operation runs, with the table command that waits for it; a preset of its own. -/
def storeOpSt (op : StoreOp) : State :=
  { latchSt 2 6 0x183 true with
    store := { svc.store with op := some (op, .table), words := [(3072, ⟨1, 0⟩), (3096, ⟨7, 1⟩), (3200, ⟨9, 0⟩)], views := [(1600, ⟨4, 8, 1, true⟩)] } }
def presetRunSt : State := { storeOpSt (.pagePreset 24) with store := { (storeOpSt (.pagePreset 24)).store with op := some (.pagePreset 24, .preset) } }
/-- A page in automatic mode or not, the chunk written, and with a bad word in the chunk or elsewhere. -/
def autoSt (auto : Word) (bad : Option Nat) : State :=
  { svc with store := { svc.store with words :=
    let w : SWords := [(3072, ⟨auto, 0⟩), (3096, ⟨7, 1⟩), (3100, ⟨9, 0⟩)]
    match bad with
    | some a => tset w a ⟨0, 2⟩
    | none => w } }
/-- Counter 2050 (one of the warden's) with a value and a state. -/
def mcountSt (v : BitVec 64) (state : Nat) : State := { svc with store := { svc.store with views := [(2050, ⟨v, 8, state, true⟩)] } }
/-- The engine runs one of the device's own operations; one waits. -/
def deviceSt (d : DevOp) : State :=
  { svc with
    elog := { svc.elog with queue := [evRec1, { evRec1 with seq := 2 }], head := 15, numbered := true }
    store := { svc.store with dev := some d, words := [(5120, ⟨5, 0⟩), (5247, ⟨1, 0⟩), (5503, ⟨2, 0⟩), (18550, ⟨1, 0⟩)], params := List.replicate 8 none } }
def dueSt (q : List IntOp) : State :=
  { svc with store := { svc.store with queue := q, params := (List.replicate 8 none).set 1 (some (6, true)) } }
def appendSt : State := { dueSt [.param 1] with elog := { svc.elog with queue := [evRec1, { evRec1 with seq := 2 }], head := 16, numbered := true } }
/-- Drain step 9, with two saved sets. -/
def saveSt : State :=
  { svc with
    md := { svc.md with mode := .causeway, prev := .service, cause := 2 }
    drain := { svc.drain with step := 9, count := 12 }
    store := { svc.store with words := [(5247, ⟨1, 0⟩), (5375, ⟨10, 0⟩), (5631, ⟨11, 0⟩)] } }
/-- Mirrored records wait for their CXL log; the policy enables its interrupt. -/
def placeSt (s : State) : State :=
  { s with mbox := { s.mbox with toPlace := [evRec1, evRec1], policy := 0x01010101, nextHandle := 0xFFFF } }
def tokenSt (n : Nat) : State := { svc with cad := { svc.cad with tokens := n, tokenAt := svc.clk.ts - 16000000 } }
def wrapSt : State := { svc with clk := { svc.clk with ts := 0x5FFFFFFFFFFFF } }
/-- CAUSEWAY at a drain step; the settle phase at a step; RECALL at a stage. -/
def drainSt (n : Nat) (pfail : Bool) : State :=
  { chanSt (moving 1 streamLeg) with
    md := { svc.md with mode := .causeway }
    pin := { svc.pin with pfail := pfail, pfailInCauseway := true, musterDriven := true }
    drain := { svc.drain with step := n, target := some true, traceSaved := true } }
def settleSt (n : Nat) (drain : Bool) : State :=
  { svc with
    md := { svc.md with mode := .dormant }
    drain := { svc.drain with settle := n, settleDrain := drain }
    pin := { svc.pin with musterDriven := drain } }
def recallSt (n : BitVec 4) : State :=
  { svc with
    md := { svc.md with mode := .recall }
    rcl := { svc.rcl with stage := n, outcome := 0 }
    own := ⟨none, 0⟩
    cad := { svc.cad with loaded := false } }
def heldSt : State :=
  { recallSt 9 with
    rcl := { (recallSt 9).rcl with heldStage := 3 }
    pin := { svc.pin with pfailHighSince := some (svc.clk.ts - 80000) } }
def heldReplaySt : State := { heldSt with rcl := { heldSt.rcl with heldStage := 7 } }
def pd3LostSt : State := { heldSt with rcl := { heldSt.rcl with pd3Lost := true } }
/-- PD3 is up and CCLK stands: before a reset's recall, and at a DORMANT exit. -/
def pllSt (mode : Mode) : State :=
  { svc with
    clk := { svc.clk with run := false, aon := 32768 }
    md := { svc.md with mode := mode }
    rcl := { svc.rcl with stage := 0 } }
def offSt : State := { State.reset with pwr := { State.reset.pwr with vaon := false, on := 0, ramping := 0 } }
def strapSt : State := { State.reset with pwr := { State.reset.pwr with ramping := 0x08 } }
def wakeSt : State := { asleepSt with pin := { svc.pin with armed := true, pfailSinceDormant := true } }
def poweringDownSt : State := { settleSt 7 false with pwr := { svc.pwr with down := true } }
def noMusterSt : State := { svc with md := { svc.md with musterEn := false } }
def noImageSt : State := { recallSt 2 with stew := { svc.stew with imgA := none, imgB := none } }
/-- The warden asked for DORMANT in this cycle. -/
def requestedSt : State :=
  { settleSt 1 false with
    md := { (settleSt 1 false).md with prev := .service, cause := 4 }
    drain := { (settleSt 1 false).drain with epoch := svc.ts48 } }
/-- A drain that MUSTER alone began. -/
def musterDrainSt : State := { drainSt 10 false with pin := { (drainSt 10 false).pin with pfailInCauseway := false } }
/-- A dirty slot, a waiting store and a queued T1 write wait in drain step 4. -/
def copySt : State :=
  { drainSt 4 true with
    t0 := { svc.t0 with pool := [slotOf7 .dirty 4], stores := [wstore7 allOnes] }
    t1 := { svc.t1 with wq := [wqOf 0x1234 0xFF none] } }
/-- A half holds an incomplete record; a record without its complete mark waits at REPLAY. -/
def recordSt (s : State) : State := { s.startRecord with md := s.md }
def lostRecordSt : State := { recallSt 7 with drain := { (recordSt (recallSt 7)).drain with target := none } }
/-- Fast die 1 differs in 64 of its witness cells, or in 7. -/
def witnessSt (n : Nat) : State :=
  { recallSt 5 with comp := { svc.comp with wrongCells := [(1, BitVec.ofNat 4096 (2 ^ n - 1))] } }
/-- Complete copies of both tables, the second the newer. -/
def copiesSt : State :=
  { recallSt 6 with
    rcl := { (recallSt 6).rcl with byReset := true }
    cad := { (recallSt 6).cad with
      copy0 := { svc.cad.copy0 with complete := true, gen := 4 }
      copy1 := { svc.cad.copy1 with complete := true, gen := 5, holders := [(1, holderEntry 1 2 ||| 2)], parcels := [(0, parcelEntry 0 0 0x40 ||| (1 <<< 89))] } }
    plan := { svc.plan with copy1 := { svc.plan.copy1 with complete := true, gen := 9, entries := ferryPlan } } }
def noTablesSt : State :=
  { copiesSt with
    cad := { copiesSt.cad with copy0 := { copiesSt.cad.copy0 with complete := false }, copy1 := { copiesSt.cad.copy1 with complete := false } }
    plan := { svc.plan with copy0 := { svc.plan.copy0 with complete := false } } }
/-- The steward restarts; it runs in a recall; an image waits to be written. -/
def restartSt (goal : Option Bool) : State := { fwSt with stew := { fwSt.stew with run := false, restarting := true, restartTo := goal } }
def noOtherSt : State := { restartSt none with stew := { (restartSt none).stew with imgB := none } }
def misfitSt : State := { restartSt none with stew := { (restartSt none).stew with ferryVer := 0x99 } }
def recallRestartSt : State := { recallSt 5 with stew := { (recallSt 5).stew with run := false, restarting := true } }
def secondTrapSt : State := { recallSt 5 with rcl := { (recallSt 5).rcl with traps := 1 } }
def stagedSt : State := { fwSt with stew := { fwSt.stew with staged := some (true, shippedImage), stagedAuth := true } }
/-- A staging descriptor of an action for slot B, an offset and one byte of data. -/
def stageSt (action off : Nat) (x : Option Transfer) : State :=
  let w (a v : Nat) : Nat × SWord := (a, ⟨BitVec.ofNat 32 v, 0⟩)
  { fwSt with
    stew := { fwSt.stew with xfer := x }
    store := { fwSt.store with words := [w 4096 0x54465753, w 4097 (action + 0x200), w 4098 off, w 4099 1, w 4100 (crc32c [0]).toNat] } }
def badCrcSt : State :=
  let s := stageSt 1 0 none
  { s with store := { s.store with words := tset s.store.words 4100 ⟨0, 0⟩ } }
def xferB : Transfer := ⟨.strait, true, List.replicate 4096 1⟩
/-- A stopped recall that admits a load, with the image of slot B staged. -/
def stoppedSt : State :=
  { stageSt 5 0 none with
    md := { svc.md with mode := .recall }
    rcl := { svc.rcl with stage := 15, outcome := 0x82 }
    stew := { (stageSt 5 0 none).stew with run := false, staged := some (true, shippedImage), stagedAuth := true } }
/-- The entropy source in its start-up test, before READY, and with its replacement seed due. -/
def entSt (st : EntState) (startup : Bool) (fails : Nat) (blocks : List (BitVec 256)) : State :=
  { svc with ent := { svc.ent with st := st, ready := false, startup := startup, fails := fails, blocks := blocks, seedDue := true } }
def entRecallSt : State := { recallSt 4 with ent := (entSt .stored true 2 []).ent }
/-- Boundary-scan mode. -/
def scanSt : State := { strapSt with strap := ⟨true, false, true, 0⟩ }
/-- The first record on its way in a helper state. -/
def movingOf (s : State) : Moving := lgetD s.t2.moving 0 ⟨0, 0, 0, none, [], 0, none, none, false, 0, none⟩

/-! ### Witnesses of the statements, clause by clause -/

def grantedReadReturnsTheLine1 := BitVec.toNat (17179869376 : Dpa)
def grantedReadReturnsTheLine2 := encLine (lineFold 1) (85 : Line)
theorem witness_GrantedReadReturnsTheLine :
    (svc.Granted (0 : Port) none (BitVec.toNat (64 : Dpa)) 0 ∧ targetOf svc.part svc.t0.scratchMiB (BitVec.toNat (64 : Dpa)) = Target.scratch 1 ∧
      tget svc.t0.scratch 1 = none ∧ svc.Leaves (0 : Port) none (BitVec.toNat (64 : Dpa)) (0 : Line) none) ∧
    (svc.Granted (0 : Port) none (BitVec.toNat (16781311 : Dpa)) 0 ∧ targetOf svc.part svc.t0.scratchMiB (BitVec.toNat (16781311 : Dpa)) =
      Target.harbor 63 ∧ svc.Leaves (0 : Port) none (BitVec.toNat (16781311 : Dpa)) (svc.bellRead 63) none) ∧
    (scratchSt.Granted (0 : Port) none (BitVec.toNat (64 : Dpa)) 0 ∧ targetOf scratchSt.part scratchSt.t0.scratchMiB (BitVec.toNat (64 : Dpa)) =
      Target.scratch 1 ∧ tget scratchSt.t0.scratch 1 = some ({ words := packWords grantedReadReturnsTheLine2, poison := false } : T0Line) ∧
      ({ words := packWords grantedReadReturnsTheLine2, poison := false } : T0Line).poison = false ∧ (decLine (lineFold 1) (unpackWords
      ({ words := packWords grantedReadReturnsTheLine2, poison := false } : T0Line).words)).cls = LineClass.clean ∧ scratchSt.Leaves (0 : Port) none
      (BitVec.toNat (64 : Dpa)) (decLine (lineFold 1) (unpackWords ({ words := packWords grantedReadReturnsTheLine2, poison := false } :
      T0Line).words)).data none) ∧
    (scratchSt.Granted (0 : Port) none (BitVec.toNat (128 : Dpa)) 0 ∧ targetOf scratchSt.part scratchSt.t0.scratchMiB (BitVec.toNat (128 : Dpa)) =
      Target.scratch 2 ∧ tget scratchSt.t0.scratch 2 = some ({ words := (0 : BitVec 832), poison := true } : T0Line) ∧
      ({ words := (0 : BitVec 832), poison := true } : T0Line).poison = true) ∧
    (fastSt.Granted (0 : Port) none grantedReadReturnsTheLine1 0 ∧ targetOf fastSt.part fastSt.t0.scratchMiB grantedReadReturnsTheLine1 = Target.fast
      3 ∧ (decLine (lineFold 3) (overlay 3 (fastSt.t1Words 3) fastSt.t1.wq)).cls = LineClass.clean ∧ fastSt.sealKey (1 : Fin 5)
      grantedReadReturnsTheLine1 = none ∧ fastSt.Leaves (0 : Port) none grantedReadReturnsTheLine1 (decLine (lineFold 3) (overlay 3 (fastSt.t1Words
      3) fastSt.t1.wq)).data none) ∧
    (sealedSt.Granted (0 : Port) none grantedReadReturnsTheLine1 0 ∧ targetOf sealedSt.part sealedSt.t0.scratchMiB grantedReadReturnsTheLine1 =
      Target.fast 3 ∧ (decLine (lineFold 3) (overlay 3 (sealedSt.t1Words 3) sealedSt.t1.wq)).cls = LineClass.clean ∧ (sealedSt.sealKey (1 : Fin 5)
      grantedReadReturnsTheLine1).any (fun x => decide (lastSealed 3 sealedSt.t1.wq = none ∧ (sealedSt.keyOf x).any (fun y => decide
      (sealedSt.t2.xtsOn = true ∧ sealedSt.Leaves (0 : Port) none grantedReadReturnsTheLine1 ((Equiv.symm (Config.xts y (fastTweak 3) 0)) (decLine
      (lineFold 3) (overlay 3 (sealedSt.t1Words 3) sealedSt.t1.wq)).data) none)) = true)) = true) ∧
    (lostKeySt.Granted (0 : Port) none grantedReadReturnsTheLine1 0 ∧ targetOf lostKeySt.part lostKeySt.t0.scratchMiB grantedReadReturnsTheLine1 =
      Target.fast 3 ∧ (decLine (lineFold 3) (overlay 3 (lostKeySt.t1Words 3) lostKeySt.t1.wq)).cls = LineClass.clean ∧ (lostKeySt.sealKey (1 : Fin 5)
      grantedReadReturnsTheLine1).any (fun x => decide (lastSealed 3 lostKeySt.t1.wq = none ∧ lostKeySt.keyOf x = none)) = true) := by
  refine ⟨?_, ?_, ?_, ?_, ?_, ?_, ?_⟩ <;> and_intros <;> decide +kernel

def denseReadHitsOrWaitsSt0 : State :=
  poolSt (slotOf7 .clean 0)
def denseReadHitsOrWaits1 := slotOf7 SlotState.clean (0 : Mask)
def denseReadHitsOrWaits2 := BitVec.toNat (274877935744 : Dpa)
theorem witness_DenseReadHitsOrWaits :
    (svc.Granted (0 : Port) none denseReadHitsOrWaits2 0 ∧ targetOf svc.part svc.t0.scratchMiB denseReadHitsOrWaits2 = Target.dense 7 2 ∧
      svc.storesFor 7 = false ∧ svc.slotOf 7 = none) ∧
    (denseReadHitsOrWaitsSt0.Granted (0 : Port) none denseReadHitsOrWaits2 0 ∧ targetOf denseReadHitsOrWaitsSt0.part
      denseReadHitsOrWaitsSt0.t0.scratchMiB denseReadHitsOrWaits2 = Target.dense 7 2 ∧ denseReadHitsOrWaitsSt0.storesFor 7 = false ∧
      denseReadHitsOrWaitsSt0.slotOf 7 = some denseReadHitsOrWaits1 ∧ BitVec.getLsbD denseReadHitsOrWaits1.valid 2 = true ∧ BitVec.getLsbD
      denseReadHitsOrWaits1.poison 2 = false ∧ denseReadHitsOrWaits1.word 2 = some (packWords (encLine (lineFold (300 * 64 + 2)) (153 : Line))) ∧
      (decLine (lineFold (denseReadHitsOrWaits1.idx * 64 + 2)) (unpackWords (packWords (encLine (lineFold (300 * 64 + 2)) (153 : Line))))).cls =
      LineClass.clean ∧ denseReadHitsOrWaitsSt0.Leaves (0 : Port) none denseReadHitsOrWaits2 (decLine (lineFold (denseReadHitsOrWaits1.idx * 64 + 2))
      (unpackWords (packWords (encLine (lineFold (300 * 64 + 2)) (153 : Line))))).data none) := by
  refine ⟨?_, ?_⟩ <;> and_intros <;> decide +kernel

theorem witness_DeniedRequestFaults :
    (sealedSt.memUp (0 : Port) = true ∧ (sealedSt.decoded (0 : Port) (BitVec.toNat (64 : Dpa)) = true → ¬sealedSt.verdict (targetOf sealedSt.part
      sealedSt.t0.scratchMiB (BitVec.toNat (64 : Dpa))).gate (lineAddr (BitVec.toNat (64 : Dpa))) (sealedSt.holderOf (0 : Port) none) 0 = none)) ∧
    (sealedSt.memUp (0 : Port) = true ∧ (sealedSt.decoded (0 : Port) (BitVec.toNat (64 : Dpa)) = true → ¬sealedSt.verdict (targetOf sealedSt.part
      sealedSt.t0.scratchMiB (BitVec.toNat (64 : Dpa))).gate (lineAddr (BitVec.toNat (64 : Dpa))) (sealedSt.holderOf (0 : Port) none) 1 = none) ∧
      ¬(sealedSt.port (0 : Port)).credits = 0) := by
  refine ⟨?_, ?_⟩ <;> and_intros <;> decide +kernel

def grantedWriteIsStored1 := BitVec.toNat (17179869376 : Dpa)
theorem witness_GrantedWriteIsStored :
    (svc.Granted (0 : Port) none (BitVec.toNat (64 : Dpa)) 1 ∧ ¬(svc.port (0 : Port)).credits = 0 ∧ ¬allOnes = (0 : Mask) ∧ targetOf svc.part
      svc.t0.scratchMiB (BitVec.toNat (64 : Dpa)) = Target.scratch 1 ∧ svc.Arrives (0 : Port) none (BitVec.toNat (64 : Dpa)) (4886718345 : Line)
      allOnes none) ∧
    (svc.Granted (0 : Port) none (BitVec.toNat (64 : Dpa)) 1 ∧ ¬(svc.port (0 : Port)).credits = 0 ∧ ¬allOnes = (0 : Mask) ∧ targetOf svc.part
      svc.t0.scratchMiB (BitVec.toNat (64 : Dpa)) = Target.scratch 1 ∧ ¬svc.Arrives (0 : Port) none (BitVec.toNat (64 : Dpa)) (4886718345 : Line)
      allOnes (some { data := (1 : Line), enables := (0 : Mask), dpa := (0 : Dpa), holder := (0 : Holder) })) ∧
    (svc.Granted (0 : Port) none grantedWriteIsStored1 1 ∧ ¬(svc.port (0 : Port)).credits = 0 ∧ ¬allOnes = (0 : Mask) ∧ targetOf svc.part
      svc.t0.scratchMiB grantedWriteIsStored1 = Target.fast 3 ∧ svc.Arrives (0 : Port) none grantedWriteIsStored1 (4886718345 : Line) allOnes none ∧
      svc.sealKey (1 : Fin 5) (lineAddr grantedWriteIsStored1) = none) := by
  refine ⟨?_, ?_, ?_⟩ <;> and_intros <;> decide +kernel

def grantedDenseWriteIsKeptSt0 : State :=
  poolSt (slotOf7 .clean 0)
def grantedDenseWriteIsKept1 := BitVec.toNat (274877935744 : Dpa)
theorem witness_GrantedDenseWriteIsKept :
    (grantedDenseWriteIsKeptSt0.Granted (0 : Port) none grantedDenseWriteIsKept1 1 ∧ ¬(grantedDenseWriteIsKeptSt0.port (0 : Port)).credits = 0 ∧
      ¬allOnes = (0 : Mask) ∧ grantedDenseWriteIsKeptSt0.Arrives (0 : Port) none grantedDenseWriteIsKept1 (5 : BitVec 512) allOnes none ∧ targetOf
      grantedDenseWriteIsKeptSt0.part grantedDenseWriteIsKeptSt0.t0.scratchMiB grantedDenseWriteIsKept1 = Target.dense 7 2 ∧
      grantedDenseWriteIsKeptSt0.storesFor 7 = false ∧ (Instr.memwr (0 : Port) none (274877935744 : Dpa) (5 : Line) false none = Instr.memwrptl (0 :
      Port) none (274877935744 : Dpa) (5 : BitVec 512) allOnes false none ∨ allOnes = allOnes ∧ Instr.memwr (0 : Port) none (274877935744 : Dpa) (5 :
      Line) false none = Instr.memwr (0 : Port) none (274877935744 : Dpa) (5 : BitVec 512) false none) ∧ (grantedDenseWriteIsKeptSt0.slotOf 7).isSome
      = true) ∧
    (fullSt.Granted (0 : Port) none grantedDenseWriteIsKept1 1 ∧ ¬(fullSt.port (0 : Port)).credits = 0 ∧ ¬allOnes = (0 : Mask) ∧ fullSt.Arrives (0 :
      Port) none grantedDenseWriteIsKept1 (5 : BitVec 512) allOnes none ∧ targetOf fullSt.part fullSt.t0.scratchMiB grantedDenseWriteIsKept1 =
      Target.dense 7 2 ∧ fullSt.storesFor 7 = false ∧ (Instr.memwr (0 : Port) none (274877935744 : Dpa) (5 : Line) false none = Instr.memwrptl (0 :
      Port) none (274877935744 : Dpa) (5 : BitVec 512) allOnes false none ∨ allOnes = allOnes ∧ Instr.memwr (0 : Port) none (274877935744 : Dpa) (5 :
      Line) false none = Instr.memwr (0 : Port) none (274877935744 : Dpa) (5 : BitVec 512) false none) ∧ fullSt.slotOf 7 = none ∧ fullSt.beingTaken 7
      = false ∧ fullSt.pickFor (fullSt.holderOf (0 : Port) none) none = Pick.nothing) ∧
    ((tightSt SlotState.clean).Granted (0 : Port) none grantedDenseWriteIsKept1 1 ∧ ¬((tightSt SlotState.clean).port (0 : Port)).credits = 0 ∧
      ¬allOnes = (0 : Mask) ∧ (tightSt SlotState.clean).Arrives (0 : Port) none grantedDenseWriteIsKept1 (5 : BitVec 512) allOnes none ∧ targetOf
      (tightSt SlotState.clean).part (tightSt SlotState.clean).t0.scratchMiB grantedDenseWriteIsKept1 = Target.dense 7 2 ∧ (tightSt
      SlotState.clean).storesFor 7 = false ∧ (Instr.memwr (0 : Port) none (274877935744 : Dpa) (5 : Line) false none = Instr.memwrptl (0 : Port) none
      (274877935744 : Dpa) (5 : BitVec 512) allOnes false none ∨ allOnes = allOnes ∧ Instr.memwr (0 : Port) none (274877935744 : Dpa) (5 : Line)
      false none = Instr.memwr (0 : Port) none (274877935744 : Dpa) (5 : BitVec 512) false none) ∧ (tightSt SlotState.clean).slotOf 7 = none ∧
      (tightSt SlotState.clean).beingTaken 7 = false ∧ ((tightSt SlotState.clean).pickFor ((tightSt SlotState.clean).holderOf (0 : Port) none) none =
      Pick.free 16383 ∨ ∃ v, (tightSt SlotState.clean).pickFor ((tightSt SlotState.clean).holderOf (0 : Port) none) none = Pick.clean v ∧ v.idx =
      16383)) ∧
    ((tightSt SlotState.dirty).Granted (0 : Port) none grantedDenseWriteIsKept1 1 ∧ ¬((tightSt SlotState.dirty).port (0 : Port)).credits = 0 ∧
      ¬allOnes = (0 : Mask) ∧ (tightSt SlotState.dirty).Arrives (0 : Port) none grantedDenseWriteIsKept1 (5 : BitVec 512) allOnes none ∧ targetOf
      (tightSt SlotState.dirty).part (tightSt SlotState.dirty).t0.scratchMiB grantedDenseWriteIsKept1 = Target.dense 7 2 ∧ (tightSt
      SlotState.dirty).storesFor 7 = false ∧ (Instr.memwr (0 : Port) none (274877935744 : Dpa) (5 : Line) false none = Instr.memwrptl (0 : Port) none
      (274877935744 : Dpa) (5 : BitVec 512) allOnes false none ∨ allOnes = allOnes ∧ Instr.memwr (0 : Port) none (274877935744 : Dpa) (5 : Line)
      false none = Instr.memwr (0 : Port) none (274877935744 : Dpa) (5 : BitVec 512) false none) ∧ (tightSt SlotState.dirty).slotOf 7 = none ∧
      (tightSt SlotState.dirty).beingTaken 7 = false ∧ (tightSt SlotState.dirty).pickFor ((tightSt SlotState.dirty).holderOf (0 : Port) none) none =
      Pick.dirty (lastSlot SlotState.dirty)) := by
  refine ⟨?_, ?_, ?_, ?_⟩ <;> and_intros <;> first
    | decide +kernel
    | exact Or.inr ⟨lastSlot .clean, by decide +kernel, by decide +kernel⟩

theorem witness_RequestsWithoutMemoryEffect :
    (svc.memUp (0 : Port) = true) ∧
    ((svc.port (0 : Port)).trained = true) := by
  refine ⟨?_, ?_⟩ <;> and_intros <;> decide +kernel

theorem witness_PortsResetTrainAndDecode :
    (svc.portPowered (0 : Port) = true) ∧
    ((svc.port (0 : Port)).trained = true ∧ (svc.port (0 : Port)).decoders.length = 3 ∧ ¬((0 = 0 ∨ (lgetD (svc.port (0 : Port)).decoders (0 - 1)
      HdmDecoder.none).committed = true) ∧ interleaveOk (0 : Fin 3) 0 0 = true ∧ svc.part.decoder (0 : Fin 3) = some (0, 0))) ∧
    ((svc.port (0 : Port)).trained = true ∧ (svc.port (0 : Port)).decoders.length = 3 ∧ (0 = 0 ∨ (lgetD (svc.port (0 : Port)).decoders (0 - 1)
      HdmDecoder.none).committed = true) ∧ interleaveOk (0 : Fin 3) 1 0 = true ∧ svc.part.decoder (0 : Fin 3) = some (0, 268435456)) ∧
    (downSt.portPowered (0 : Port) = true ∧ (downSt.port (0 : Port)).trained = false) := by
  refine ⟨?_, ?_, ?_, ?_⟩ <;> and_intros <;> decide +kernel

theorem witness_CreditGoesBackInTurn :
    (freedSt.md.mode = Mode.service ∧ freedSt.link.memActive = true ∧ freedSt.memUp (0 : Port) = true ∧ freedSt.creditTurn (0 : Port) = true ∧
      freedSt.evalCredits.creditFree = true) := by
  and_intros <;> decide +kernel

def doorbellsActOnTheirChannelSt0 : State :=
  poolChan (moving 6 leg7) (windowSlot 0)
def doorbellsActOnTheirChannelSt1 : State :=
  poolChan { moving 6 leg7 with state := .halted, halt := 8, total := 16, filled := 2, mark := 9 } (windowSlot 4)
def doorbellsActOnTheirChannelSt2 : State :=
  chanSt { moving 3 copyLeg with state := .halted, halt := 9 }
def doorbellsActOnTheirChannelSt3 : State :=
  chanSt { moving 3 copyLeg with state := .halted, halt := 10 }
theorem witness_DoorbellsActOnTheirChannel :
    ((chanSt Chan.zero).Granted (0 : Port) none (bellDpa (5 : Fin 64)) 1 ∧ ¬((chanSt Chan.zero).port (0 : Port)).credits = 0 ∧ (chanSt
      Chan.zero).md.mode = Mode.service ∧ 5 < (chanSt Chan.zero).part.channels ∧ (chanSt Chan.zero).bellHeld 5 = false ∧ (chanSt
      Chan.zero).ferry.chans.length = 64 ∧ (chanSt Chan.zero).t0.scratchMiB ≤ 16 ∧ rising (List.map (fun x ↦ (x.idx, x)) (chanSt Chan.zero).t0.pool)
      = true ∧ (chanSt Chan.zero).owner 5 = some ((chanSt Chan.zero).holderOf (0 : Port) none) ∧ ((chanSt Chan.zero).chan 5).state = ChState.idle ∧
      (∀ (h : Header), (chanSt Chan.zero).peekHeader (5) ((chanSt Chan.zero).holderOf (0 : Port) none) (BitVec.toNat (0 : Dpa)) = some h → (chanSt
      Chan.zero).md.restrict.refusesStart h.op = false)) ∧
    ((chanSt Chan.zero).Granted (0 : Port) none (bellDpa (5 : Fin 64)) 1 ∧ ¬((chanSt Chan.zero).port (0 : Port)).credits = 0 ∧ (chanSt
      Chan.zero).md.mode = Mode.service ∧ 5 < (chanSt Chan.zero).part.channels ∧ (chanSt Chan.zero).bellHeld 5 = false ∧ (chanSt
      Chan.zero).ferry.chans.length = 64 ∧ (chanSt Chan.zero).t0.scratchMiB ≤ 16 ∧ rising (List.map (fun x ↦ (x.idx, x)) (chanSt Chan.zero).t0.pool)
      = true ∧ (chanSt Chan.zero).owner 5 = some ((chanSt Chan.zero).holderOf (0 : Port) none) ∧ ([(3, Instr.doorbellResume (0 : Port) none (5 : Fin
      64)), (5, Instr.doorbellAbort (0 : Port) none (5 : Fin 64)), (1, Instr.doorbellStart (0 : Port) none (5 : Fin 64) (0 : Dpa)), (2,
      Instr.doorbellMark (0 : Port) none (5 : Fin 64) (0 : Word)), (4, Instr.doorbellSkip (0 : Port) none (5 : Fin 64))]).any (fun x => decide
      (((chanSt Chan.zero).chan 5).admits x.1 = false)) = true) ∧
    ((chanSt Chan.zero).Granted (0 : Port) none (bellDpa (5 : Fin 64)) 1 ∧ ¬((chanSt Chan.zero).port (0 : Port)).credits = 0 ∧ (chanSt
      Chan.zero).md.mode = Mode.service ∧ 5 < (chanSt Chan.zero).part.channels ∧ (chanSt Chan.zero).bellHeld 5 = false ∧ (chanSt
      Chan.zero).ferry.chans.length = 64 ∧ (chanSt Chan.zero).t0.scratchMiB ≤ 16 ∧ rising (List.map (fun x ↦ (x.idx, x)) (chanSt Chan.zero).t0.pool)
      = true ∧ 6 ≤ BitVec.toNat (6 : Byte)) ∧
    ((chanSt Chan.zero).Granted (1 : Port) none (bellDpa (5 : Fin 64)) 1 ∧ ¬((chanSt Chan.zero).port (1 : Port)).credits = 0 ∧ (chanSt
      Chan.zero).md.mode = Mode.service ∧ 5 < (chanSt Chan.zero).part.channels ∧ (chanSt Chan.zero).bellHeld 5 = false ∧ (chanSt
      Chan.zero).ferry.chans.length = 64 ∧ (chanSt Chan.zero).t0.scratchMiB ≤ 16 ∧ rising (List.map (fun x ↦ (x.idx, x)) (chanSt Chan.zero).t0.pool)
      = true ∧ ((chanSt Chan.zero).owner 5).any (fun x => decide (¬(chanSt Chan.zero).holderOf (1 : Port) none = x ∧ ¬ ([Instr.doorbellStart (1 :
      Port) none (5 : Fin 64) (0 : Dpa), Instr.doorbellMark (1 : Port) none (5 : Fin 64) (0 : Word), Instr.doorbellResume (1 : Port) none (5 : Fin
      64), Instr.doorbellSkip (1 : Port) none (5 : Fin 64), Instr.doorbellAbort (1 : Port) none (5 : Fin 64)] = []))) = true) ∧
    (doorbellsActOnTheirChannelSt0.Granted (0 : Port) none (bellDpa (5 : Fin 64)) 1 ∧ ¬(doorbellsActOnTheirChannelSt0.port (0 : Port)).credits = 0 ∧
      doorbellsActOnTheirChannelSt0.md.mode = Mode.service ∧ 5 < doorbellsActOnTheirChannelSt0.part.channels ∧ doorbellsActOnTheirChannelSt0.bellHeld
      5 = false ∧ doorbellsActOnTheirChannelSt0.ferry.chans.length = 64 ∧ doorbellsActOnTheirChannelSt0.t0.scratchMiB ≤ 16 ∧ rising (List.map (fun x
      ↦ (x.idx, x)) doorbellsActOnTheirChannelSt0.t0.pool) = true ∧ doorbellsActOnTheirChannelSt0.owner 5 = some
      (doorbellsActOnTheirChannelSt0.holderOf (0 : Port) none) ∧ (doorbellsActOnTheirChannelSt0.chan 5).state.active = true ∧
      (doorbellsActOnTheirChannelSt0.chan 5).op = (6 : Byte)) ∧
    (doorbellsActOnTheirChannelSt1.Granted (0 : Port) none (bellDpa (5 : Fin 64)) 1 ∧ ¬(doorbellsActOnTheirChannelSt1.port (0 : Port)).credits = 0 ∧
      doorbellsActOnTheirChannelSt1.md.mode = Mode.service ∧ 5 < doorbellsActOnTheirChannelSt1.part.channels ∧ doorbellsActOnTheirChannelSt1.bellHeld
      5 = false ∧ doorbellsActOnTheirChannelSt1.ferry.chans.length = 64 ∧ doorbellsActOnTheirChannelSt1.t0.scratchMiB ≤ 16 ∧ rising (List.map (fun x
      ↦ (x.idx, x)) doorbellsActOnTheirChannelSt1.t0.pool) = true ∧ doorbellsActOnTheirChannelSt1.owner 5 = some
      (doorbellsActOnTheirChannelSt1.holderOf (0 : Port) none) ∧ (doorbellsActOnTheirChannelSt1.chan 5).state = ChState.halted ∧ 7 ≤ BitVec.toNat
      (doorbellsActOnTheirChannelSt1.chan 5).halt ∧ BitVec.toNat (doorbellsActOnTheirChannelSt1.chan 5).halt ≤ 9) ∧
    (doorbellsActOnTheirChannelSt2.Granted (0 : Port) none (bellDpa (5 : Fin 64)) 1 ∧ ¬(doorbellsActOnTheirChannelSt2.port (0 : Port)).credits = 0 ∧
      doorbellsActOnTheirChannelSt2.md.mode = Mode.service ∧ 5 < doorbellsActOnTheirChannelSt2.part.channels ∧ doorbellsActOnTheirChannelSt2.bellHeld
      5 = false ∧ doorbellsActOnTheirChannelSt2.ferry.chans.length = 64 ∧ doorbellsActOnTheirChannelSt2.t0.scratchMiB ≤ 16 ∧ rising (List.map (fun x
      ↦ (x.idx, x)) doorbellsActOnTheirChannelSt2.t0.pool) = true ∧ doorbellsActOnTheirChannelSt2.owner 5 = some
      (doorbellsActOnTheirChannelSt2.holderOf (0 : Port) none) ∧ (doorbellsActOnTheirChannelSt2.chan 5).state = ChState.halted ∧ 7 ≤ BitVec.toNat
      (doorbellsActOnTheirChannelSt2.chan 5).halt ∧ BitVec.toNat (doorbellsActOnTheirChannelSt2.chan 5).halt ≤ 9 ∧
      ¬(doorbellsActOnTheirChannelSt2.chan 5).op = (6 : Byte) ∧ (doorbellsActOnTheirChannelSt2.chan 5).complete = false) ∧
    (doorbellsActOnTheirChannelSt3.Granted (0 : Port) none (bellDpa (5 : Fin 64)) 1 ∧ ¬(doorbellsActOnTheirChannelSt3.port (0 : Port)).credits = 0 ∧
      doorbellsActOnTheirChannelSt3.md.mode = Mode.service ∧ 5 < doorbellsActOnTheirChannelSt3.part.channels ∧ doorbellsActOnTheirChannelSt3.bellHeld
      5 = false ∧ doorbellsActOnTheirChannelSt3.ferry.chans.length = 64 ∧ doorbellsActOnTheirChannelSt3.t0.scratchMiB ≤ 16 ∧ rising (List.map (fun x
      ↦ (x.idx, x)) doorbellsActOnTheirChannelSt3.t0.pool) = true ∧ doorbellsActOnTheirChannelSt3.owner 5 = some
      (doorbellsActOnTheirChannelSt3.holderOf (0 : Port) none) ∧ (doorbellsActOnTheirChannelSt3.chan 5).state = ChState.halted ∧ (BitVec.toNat
      (doorbellsActOnTheirChannelSt3.chan 5).halt < 7 ∨ 9 < BitVec.toNat (doorbellsActOnTheirChannelSt3.chan 5).halt)) := by
  refine ⟨?_, ?_, ?_, ?_, ?_, ?_, ?_, ?_⟩ <;> and_intros <;> decide +kernel

def routesAreReadSt0 : State :=
  routeOf (headerLineOf 0 1) 0 {Chan.zero with state := .loading}
def routesAreReadSt1 : State :=
  routeSt {Chan.zero with state := .loading, route := 0x1000000}
def routesAreReadSt2 : State :=
  routeSt {Chan.zero with state := .loading, route := 0x80}
def routesAreReadSt3 : State :=
  {headerSt with fuse := {svc.fuse with part := .rbk9204}}
def routesAreReadSt4 : State :=
  (let s := headerSt;
      {s with ferry := {s.ferry with chans := s.ferry.chans.set 5 {Chan.zero with state := .loading, route := 0xFFFC0}}, t0 := {s.t0 with scratch := [scratchLine 16383 headerLine]}})
def routesAreReadSt5 : State :=
  routeSt {moving 6 leg7 with cur := none}
def routesAreReadSt6 : State :=
  routeOf headerLine (legLineOf 15 ^^^ 1) {moving 6 leg7 with cur := none}
theorem witness_RoutesAreRead :
    (headerSt.md.mode = Mode.service ∧ headerSt.ferry.chans.length = 64 ∧ headerSt.owner 5 = some (1 : Holder) ∧ (headerSt.chan 5).state =
      ChState.loading ∧ BitVec.toNat (headerSt.chan 5).route % 64 = 0 ∧ headerSt.fresh.routeLine 5 (1 : Holder) (BitVec.toNat (headerSt.chan
      5).route) (rereadOf [] 0) = (0, headerLine, headerSt) ∧ 0 = 0 ∧ headerOf headerLine = some
      { op := 6, legs := 1, pattern := (170 : Word), tag := (119 : Word), total := 16 } ∧ headerSt.routeInside (BitVec.toNat (headerSt.chan 5).route)
      (fld headerLine 6 2) = true ∧ headerSt.headerCause 5 { op := 6, legs := 1, pattern := (170 : Word), tag := (119 : Word), total := 16 } = 0) ∧
    (crookedSt.md.mode = Mode.service ∧ crookedSt.ferry.chans.length = 64 ∧ crookedSt.owner 5 = some (1 : Holder) ∧ (crookedSt.chan 5).state =
      ChState.loading ∧ ¬BitVec.toNat (crookedSt.chan 5).route % 64 = 0) ∧
    (routesAreReadSt0.md.mode = Mode.service ∧ routesAreReadSt0.ferry.chans.length = 64 ∧ routesAreReadSt0.owner 5 = some (1 : Holder) ∧
      (routesAreReadSt0.chan 5).state = ChState.loading ∧ BitVec.toNat (routesAreReadSt0.chan 5).route % 64 = 0 ∧ routesAreReadSt0.fresh.routeLine 5
      (1 : Holder) (BitVec.toNat (routesAreReadSt0.chan 5).route) (rereadOf [] 0) = (0, headerLineOf 0 1, routesAreReadSt0) ∧ 0 = 0 ∧ headerCrcOk
      (headerLineOf 0 1) = true ∧ routesAreReadSt0.routeInside (BitVec.toNat (routesAreReadSt0.chan 5).route) (fld (headerLineOf 0 1) 6 2) = true ∧
      headerOf (headerLineOf 0 1) = none) ∧
    (routesAreReadSt2.md.mode = Mode.service ∧ routesAreReadSt2.ferry.chans.length = 64 ∧ routesAreReadSt2.owner 5 = some (1 : Holder) ∧
      (routesAreReadSt2.chan 5).state = ChState.loading ∧ BitVec.toNat (routesAreReadSt2.chan 5).route % 64 = 0 ∧ routesAreReadSt2.fresh.routeLine 5
      (1 : Holder) (BitVec.toNat (routesAreReadSt2.chan 5).route) (rereadOf [] 0) = (0, (0 : Line), routesAreReadSt2) ∧ 0 = 0 ∧ headerCrcOk (0 :
      Line) = false) ∧
    (routesAreReadSt1.md.mode = Mode.service ∧ routesAreReadSt1.ferry.chans.length = 64 ∧ routesAreReadSt1.owner 5 = some (1 : Holder) ∧
      (routesAreReadSt1.chan 5).state = ChState.loading ∧ BitVec.toNat (routesAreReadSt1.chan 5).route % 64 = 0 ∧ routesAreReadSt1.fresh.routeLine 5
      (1 : Holder) (BitVec.toNat (routesAreReadSt1.chan 5).route) (rereadOf [] 0) = (1, (0 : Line), routesAreReadSt1) ∧ ¬1 = 0) ∧
    (routesAreReadSt3.md.mode = Mode.service ∧ routesAreReadSt3.ferry.chans.length = 64 ∧ routesAreReadSt3.owner 5 = some (1 : Holder) ∧
      (routesAreReadSt3.chan 5).state = ChState.loading ∧ BitVec.toNat (routesAreReadSt3.chan 5).route % 64 = 0 ∧ routesAreReadSt3.fresh.routeLine 5
      (1 : Holder) (BitVec.toNat (routesAreReadSt3.chan 5).route) (rereadOf [] 0) = (0, headerLine, routesAreReadSt3) ∧ 0 = 0 ∧ headerOf headerLine =
      some { op := 6, legs := 1, pattern := (170 : Word), tag := (119 : Word), total := 16 } ∧ routesAreReadSt3.routeInside (BitVec.toNat
      (routesAreReadSt3.chan 5).route) (fld headerLine 6 2) = true ∧ ¬routesAreReadSt3.headerCause 5
      { op := 6, legs := 1, pattern := (170 : Word), tag := (119 : Word), total := 16 } = 0) ∧
    (routesAreReadSt4.md.mode = Mode.service ∧ routesAreReadSt4.ferry.chans.length = 64 ∧ routesAreReadSt4.owner 5 = some (1 : Holder) ∧
      (routesAreReadSt4.chan 5).state = ChState.loading ∧ BitVec.toNat (routesAreReadSt4.chan 5).route % 64 = 0 ∧ routesAreReadSt4.fresh.routeLine 5
      (1 : Holder) (BitVec.toNat (routesAreReadSt4.chan 5).route) (rereadOf [] 0) = (0, headerLine, routesAreReadSt4) ∧ 0 = 0 ∧ headerCrcOk
      headerLine = true ∧ routesAreReadSt4.routeInside (BitVec.toNat (routesAreReadSt4.chan 5).route) (fld headerLine 6 2) = false) ∧
    (routesAreReadSt5.md.mode = Mode.service ∧ routesAreReadSt5.ferry.chans.length = 64 ∧ routesAreReadSt5.owner 5 = some (1 : Holder) ∧
      (routesAreReadSt5.chan 5).state = ChState.running ∧ (routesAreReadSt5.chan 5).cur = none ∧ (routesAreReadSt5.chan 5).complete = false ∧
      routesAreReadSt5.fresh.routeLine 5 (1 : Holder) ((BitVec.toNat (routesAreReadSt5.chan 5).route + 64 + 32 * (routesAreReadSt5.chan 5).leg.toNat)
      / 64 * 64) (rereadOf [] 0) = (0, legLineOf 16, routesAreReadSt5) ∧ 0 = 0 ∧ legOf (legLineOf 16) ((BitVec.toNat (routesAreReadSt5.chan 5).route
      + 64 + 32 * (routesAreReadSt5.chan 5).leg.toNat) % 64 / 32) = some streamLeg ∧ routesAreReadSt5.legStands (routesAreReadSt5.chan 5) streamLeg =
      true ∧ BitVec.toNat (routesAreReadSt5.chan 5).tile < BitVec.toNat streamLeg.count) ∧
    (routesAreReadSt6.md.mode = Mode.service ∧ routesAreReadSt6.ferry.chans.length = 64 ∧ routesAreReadSt6.owner 5 = some (1 : Holder) ∧
      (routesAreReadSt6.chan 5).state = ChState.running ∧ (routesAreReadSt6.chan 5).cur = none ∧ (routesAreReadSt6.chan 5).complete = false ∧
      routesAreReadSt6.fresh.routeLine 5 (1 : Holder) ((BitVec.toNat (routesAreReadSt6.chan 5).route + 64 + 32 * (routesAreReadSt6.chan 5).leg.toNat)
      / 64 * 64) (rereadOf [] 0) = (0, legLineOf 15 ^^^ (1 : Line), routesAreReadSt6) ∧ 0 = 0 ∧ (legOf (legLineOf 15 ^^^ (1 : Line)) ((BitVec.toNat
      (routesAreReadSt6.chan 5).route + 64 + 32 * (routesAreReadSt6.chan 5).leg.toNat) % 64 / 32) = none ∨ legOf (legLineOf 15 ^^^ (1 : Line))
      ((BitVec.toNat (routesAreReadSt6.chan 5).route + 64 + 32 * (routesAreReadSt6.chan 5).leg.toNat) % 64 / 32) = some streamLeg ∧
      routesAreReadSt6.legStands (routesAreReadSt6.chan 5) streamLeg = false)) := by
  refine ⟨?_, ?_, ?_, ?_, ?_, ?_, ?_, ?_, ?_⟩ <;> and_intros <;> decide +kernel

def transfersCompleteTiles1 := chanSt (moving (3 : Byte) copyLeg)
def transfersCompleteTiles2 := poolChan (moving (6 : Byte) leg7) (slotOf7 SlotState.clean (0 : Mask))
def transfersCompleteTiles3 := fastTileSt (moving (5 : Byte) (legAt (17179869184 : BitVec 40) (0 : BitVec 40)))
def transfersCompleteTiles4 := copyLeg.source.toNat + BitVec.toNat ((sealedWaySt transfersCompleteTiles1).chan 5).tile * 4096
def transfersCompleteTiles5 := copyLeg.source.toNat + BitVec.toNat (transfersCompleteTiles1.chan 5).tile * 4096
def transfersCompleteTiles6 := poolChan (moving (1 : Byte) leg7) (windowSlot (0 : Mask))
def transfersCompleteTiles7 := poolChan (moving (2 : Byte) leg7) (windowSlot (0 : Mask))
def transfersCompleteTiles8 := chanSt (moving (6 : Byte) leg7)
def transfersCompleteTiles9 := chanSt (moving (4 : Byte) fillLeg)
theorem witness_TransfersCompleteTiles :
    ((chanSt (moving (1 : Byte) leg7)).Moves 5 1 leg7 (1 : Holder) ∧ (chanSt (moving (1 : Byte) leg7)).ferry.chans.length = 64 ∧ BitVec.toNat
      ((chanSt (moving (1 : Byte) leg7)).chan 5).tile + 1 < BitVec.toNat leg7.count ∧ BitVec.toNat ((chanSt (moving (1 : Byte) leg7)).chan 5).done +
      1 < BitVec.toNat ((chanSt (moving (1 : Byte) leg7)).chan 5).total ∧ (chanSt (moving (1 : Byte) leg7)).inFlightOf 5 = false ∧ (chanSt (moving (1
      : Byte) leg7)).engineFull 5 = false ∧ (chanSt (moving (1 : Byte) leg7)).stepCause 5 1
      { src := leg7.source.toNat + BitVec.toNat ((chanSt (moving (1 : Byte) leg7)).chan 5).tile * 4096, dst := leg7.dest.toNat + BitVec.toNat ((chanSt (moving (1 : Byte) leg7)).chan 5).tile * 4096, owner := (1 : Holder) } = 0 ∧ 1 = 1 ∧ (chanSt (moving (1 : Byte) leg7)).TilePermits (leg7.source.toNat + BitVec.toNat ((chanSt (moving (1 : Byte) leg7)).chan 5).tile * 4096) (1 : Holder) 0 ∧ (chanSt (moving (1 : Byte) leg7)).slotOf (tileNo (leg7.source.toNat + BitVec.toNat ((chanSt (moving (1 : Byte) leg7)).chan 5).tile * 4096)) = none ∧ (chanSt (moving (1 : Byte) leg7)).beingTaken (tileNo (leg7.source.toNat + BitVec.toNat ((chanSt (moving (1 : Byte) leg7)).chan 5).tile * 4096)) = false ∧ (chanSt (moving (1 : Byte) leg7)).tileBank (tileNo (leg7.source.toNat + BitVec.toNat ((chanSt (moving (1 : Byte) leg7)).chan 5).tile * 4096)) = none ∧ ((chanSt (moving (1 : Byte) leg7)).fresh.readTile (tileNo (leg7.source.toNat + BitVec.toNat ((chanSt (moving (1 : Byte) leg7)).chan 5).tile * 4096)) TileRead.plain).1.hops = [] ∧ ([] : List Nat) = [] ∧ (chanSt (moving (1 : Byte) leg7)).storesFor (tileNo (leg7.source.toNat + BitVec.toNat ((chanSt (moving (1 : Byte) leg7)).chan 5).tile * 4096)) = false ∧ (∀ w ∈ (chanSt (moving (1 : Byte) leg7)).link.waits, ¬w.tile = tileNo (leg7.source.toNat + BitVec.toNat ((chanSt (moving (1 : Byte) leg7)).chan 5).tile * 4096)) ∧ (chanSt (moving (1 : Byte) leg7)).pickFor (1 : Holder) none = Pick.free 256) ∧
    (transfersCompleteTiles6.Moves 5 1 leg7 (1 : Holder) ∧ transfersCompleteTiles6.ferry.chans.length = 64 ∧ BitVec.toNat
      (transfersCompleteTiles6.chan 5).tile + 1 < BitVec.toNat leg7.count ∧ BitVec.toNat (transfersCompleteTiles6.chan 5).done + 1 < BitVec.toNat
      (transfersCompleteTiles6.chan 5).total ∧ transfersCompleteTiles6.inFlightOf 5 = false ∧ transfersCompleteTiles6.engineFull 5 = false ∧
      transfersCompleteTiles6.stepCause 5 1
      { src := leg7.source.toNat + BitVec.toNat (transfersCompleteTiles6.chan 5).tile * 4096, dst := leg7.dest.toNat + BitVec.toNat (transfersCompleteTiles6.chan 5).tile * 4096, owner := (1 : Holder) } = 0 ∧ 1 = 1 ∧ transfersCompleteTiles6.TilePermits (leg7.source.toNat + BitVec.toNat (transfersCompleteTiles6.chan 5).tile * 4096) (1 : Holder) 0 ∧ (transfersCompleteTiles6.slotOf (tileNo (leg7.source.toNat + BitVec.toNat (transfersCompleteTiles6.chan 5).tile * 4096))).isSome = true) ∧
    ((chanSt (moving (2 : Byte) leg7)).Moves 5 2 leg7 (1 : Holder) ∧ (chanSt (moving (2 : Byte) leg7)).ferry.chans.length = 64 ∧ BitVec.toNat
      ((chanSt (moving (2 : Byte) leg7)).chan 5).tile + 1 < BitVec.toNat leg7.count ∧ BitVec.toNat ((chanSt (moving (2 : Byte) leg7)).chan 5).done +
      1 < BitVec.toNat ((chanSt (moving (2 : Byte) leg7)).chan 5).total ∧ (chanSt (moving (2 : Byte) leg7)).inFlightOf 5 = false ∧ (chanSt (moving (2
      : Byte) leg7)).engineFull 5 = false ∧ (chanSt (moving (2 : Byte) leg7)).stepCause 5 2
      { src := leg7.source.toNat + BitVec.toNat ((chanSt (moving (2 : Byte) leg7)).chan 5).tile * 4096, dst := leg7.dest.toNat + BitVec.toNat ((chanSt (moving (2 : Byte) leg7)).chan 5).tile * 4096, owner := (1 : Holder) } = 0 ∧ 2 = 2 ∧ (chanSt (moving (2 : Byte) leg7)).TilePermits (leg7.source.toNat + BitVec.toNat ((chanSt (moving (2 : Byte) leg7)).chan 5).tile * 4096) (1 : Holder) 1 ∧ (chanSt (moving (2 : Byte) leg7)).slotOf (tileNo (leg7.source.toNat + BitVec.toNat ((chanSt (moving (2 : Byte) leg7)).chan 5).tile * 4096)) = none) ∧
    (transfersCompleteTiles7.Moves 5 2 leg7 (1 : Holder) ∧ transfersCompleteTiles7.ferry.chans.length = 64 ∧ BitVec.toNat
      (transfersCompleteTiles7.chan 5).tile + 1 < BitVec.toNat leg7.count ∧ BitVec.toNat (transfersCompleteTiles7.chan 5).done + 1 < BitVec.toNat
      (transfersCompleteTiles7.chan 5).total ∧ transfersCompleteTiles7.inFlightOf 5 = false ∧ transfersCompleteTiles7.engineFull 5 = false ∧
      transfersCompleteTiles7.stepCause 5 2
      { src := leg7.source.toNat + BitVec.toNat (transfersCompleteTiles7.chan 5).tile * 4096, dst := leg7.dest.toNat + BitVec.toNat (transfersCompleteTiles7.chan 5).tile * 4096, owner := (1 : Holder) } = 0 ∧ 2 = 2 ∧ transfersCompleteTiles7.TilePermits (leg7.source.toNat + BitVec.toNat (transfersCompleteTiles7.chan 5).tile * 4096) (1 : Holder) 1 ∧ (transfersCompleteTiles7.slotOf (tileNo (leg7.source.toNat + BitVec.toNat (transfersCompleteTiles7.chan 5).tile * 4096))).any (fun x => decide (x.dirty = (0 : Mask))) = true) ∧
    (transfersCompleteTiles1.Moves 5 3 copyLeg (1 : Holder) ∧ transfersCompleteTiles1.ferry.chans.length = 64 ∧ BitVec.toNat
      (transfersCompleteTiles1.chan 5).tile + 1 < BitVec.toNat copyLeg.count ∧ BitVec.toNat (transfersCompleteTiles1.chan 5).done + 1 < BitVec.toNat
      (transfersCompleteTiles1.chan 5).total ∧ transfersCompleteTiles1.inFlightOf 5 = false ∧ transfersCompleteTiles1.engineFull 5 = false ∧
      transfersCompleteTiles1.stepCause 5 3
      { src := copyLeg.source.toNat + BitVec.toNat (transfersCompleteTiles1.chan 5).tile * 4096, dst := copyLeg.dest.toNat + BitVec.toNat (transfersCompleteTiles1.chan 5).tile * 4096, owner := (1 : Holder) } = 0 ∧ 3 = 3 ∧ transfersCompleteTiles1.TilePermits transfersCompleteTiles5 (1 : Holder) 0 ∧ transfersCompleteTiles1.TilePermits (copyLeg.dest.toNat + BitVec.toNat (transfersCompleteTiles1.chan 5).tile * 4096) (1 : Holder) 1 ∧ isFast transfersCompleteTiles5 = false ∧ isFast (copyLeg.dest.toNat + BitVec.toNat (transfersCompleteTiles1.chan 5).tile * 4096) = true ∧ transfersCompleteTiles1.slotOf (tileNo transfersCompleteTiles5) = none ∧ transfersCompleteTiles1.beingTaken (tileNo transfersCompleteTiles5) = false ∧ transfersCompleteTiles1.tileBank (tileNo transfersCompleteTiles5) = none ∧ (transfersCompleteTiles1.fresh.readTile (tileNo transfersCompleteTiles5) TileRead.plain).1.hops = [] ∧ ([] : List Nat) = [] ∧ transfersCompleteTiles1.storesFor (tileNo transfersCompleteTiles5) = false ∧ (∀ w ∈ transfersCompleteTiles1.link.waits, ¬w.tile = tileNo transfersCompleteTiles5) ∧ (transfersCompleteTiles1.fresh.readTile (tileNo transfersCompleteTiles5) TileRead.plain).1.stored = (0 : Mask) ∧ (transfersCompleteTiles1.fresh.readTile (tileNo transfersCompleteTiles5) TileRead.plain).1.failed = (0 : Mask)) ∧
    ((sealedWaySt transfersCompleteTiles1).Moves 5 3 copyLeg (1 : Holder) ∧ (sealedWaySt transfersCompleteTiles1).ferry.chans.length = 64 ∧
      BitVec.toNat ((sealedWaySt transfersCompleteTiles1).chan 5).tile + 1 < BitVec.toNat copyLeg.count ∧ BitVec.toNat ((sealedWaySt
      transfersCompleteTiles1).chan 5).done + 1 < BitVec.toNat ((sealedWaySt transfersCompleteTiles1).chan 5).total ∧ (sealedWaySt
      transfersCompleteTiles1).inFlightOf 5 = false ∧ (sealedWaySt transfersCompleteTiles1).engineFull 5 = false ∧ (sealedWaySt
      transfersCompleteTiles1).stepCause 5 3
      { src := copyLeg.source.toNat + BitVec.toNat ((sealedWaySt transfersCompleteTiles1).chan 5).tile * 4096, dst := copyLeg.dest.toNat + BitVec.toNat ((sealedWaySt transfersCompleteTiles1).chan 5).tile * 4096, owner := (1 : Holder) } = 0 ∧ 3 = 3 ∧ (sealedWaySt transfersCompleteTiles1).TilePermits transfersCompleteTiles4 (1 : Holder) 0 ∧ (sealedWaySt transfersCompleteTiles1).TilePermits (copyLeg.dest.toNat + BitVec.toNat ((sealedWaySt transfersCompleteTiles1).chan 5).tile * 4096) (1 : Holder) 1 ∧ isFast transfersCompleteTiles4 = false ∧ isFast (copyLeg.dest.toNat + BitVec.toNat ((sealedWaySt transfersCompleteTiles1).chan 5).tile * 4096) = true ∧ (sealedWaySt transfersCompleteTiles1).slotOf (tileNo transfersCompleteTiles4) = none ∧ (sealedWaySt transfersCompleteTiles1).beingTaken (tileNo transfersCompleteTiles4) = false ∧ (sealedWaySt transfersCompleteTiles1).tileBank (tileNo transfersCompleteTiles4) = none ∧ ((sealedWaySt transfersCompleteTiles1).fresh.readTile (tileNo transfersCompleteTiles4) TileRead.plain).1.hops = [] ∧ ([] : List Nat) = [] ∧ (sealedWaySt transfersCompleteTiles1).storesFor (tileNo transfersCompleteTiles4) = false ∧ (∀ w ∈ (sealedWaySt transfersCompleteTiles1).link.waits, ¬w.tile = tileNo transfersCompleteTiles4) ∧ ¬((sealedWaySt transfersCompleteTiles1).fresh.readTile (tileNo transfersCompleteTiles4) TileRead.plain).1.stored ||| ((sealedWaySt transfersCompleteTiles1).fresh.readTile (tileNo transfersCompleteTiles4) TileRead.plain).1.failed = (0 : Mask)) ∧
    (transfersCompleteTiles9.Moves 5 4 fillLeg (1 : Holder) ∧ transfersCompleteTiles9.ferry.chans.length = 64 ∧ BitVec.toNat
      (transfersCompleteTiles9.chan 5).tile + 1 < BitVec.toNat fillLeg.count ∧ BitVec.toNat (transfersCompleteTiles9.chan 5).done + 1 < BitVec.toNat
      (transfersCompleteTiles9.chan 5).total ∧ transfersCompleteTiles9.inFlightOf 5 = false ∧ transfersCompleteTiles9.engineFull 5 = false ∧
      transfersCompleteTiles9.stepCause 5 4
      { src := fillLeg.source.toNat + BitVec.toNat (transfersCompleteTiles9.chan 5).tile * 4096, dst := fillLeg.dest.toNat + BitVec.toNat (transfersCompleteTiles9.chan 5).tile * 4096, owner := (1 : Holder) } = 0 ∧ 4 = 4 ∧ transfersCompleteTiles9.TilePermits (fillLeg.dest.toNat + BitVec.toNat (transfersCompleteTiles9.chan 5).tile * 4096) (1 : Holder) 1 ∧ ([] : List Nat) = []) ∧
    (transfersCompleteTiles9.Moves 5 4 fillLeg (1 : Holder) ∧ transfersCompleteTiles9.ferry.chans.length = 64 ∧ BitVec.toNat
      (transfersCompleteTiles9.chan 5).tile + 1 < BitVec.toNat fillLeg.count ∧ BitVec.toNat (transfersCompleteTiles9.chan 5).done + 1 < BitVec.toNat
      (transfersCompleteTiles9.chan 5).total ∧ transfersCompleteTiles9.inFlightOf 5 = false ∧ transfersCompleteTiles9.engineFull 5 = false ∧
      transfersCompleteTiles9.stepCause 5 4
      { src := fillLeg.source.toNat + BitVec.toNat (transfersCompleteTiles9.chan 5).tile * 4096, dst := fillLeg.dest.toNat + BitVec.toNat (transfersCompleteTiles9.chan 5).tile * 4096, owner := (1 : Holder) } = 0 ∧ 4 = 4 ∧ transfersCompleteTiles9.TilePermits (fillLeg.dest.toNat + BitVec.toNat (transfersCompleteTiles9.chan 5).tile * 4096) (1 : Holder) 1 ∧ moveTile (List.replicate 64 (LineRead.of (pack 512 (List.map (fun j ↦ (4 * j, 4, BitVec.toNat (transfersCompleteTiles9.chan 5).pattern)) (List.range 16))))) hurt (fillLeg.dest.toNat + BitVec.toNat (transfersCompleteTiles9.chan 5).tile * 4096) (1 : Holder) = none) ∧
    ((chanSt (moving (5 : Byte) leg7)).Moves 5 5 leg7 (1 : Holder) ∧ (chanSt (moving (5 : Byte) leg7)).ferry.chans.length = 64 ∧ BitVec.toNat
      ((chanSt (moving (5 : Byte) leg7)).chan 5).tile + 1 < BitVec.toNat leg7.count ∧ BitVec.toNat ((chanSt (moving (5 : Byte) leg7)).chan 5).done +
      1 < BitVec.toNat ((chanSt (moving (5 : Byte) leg7)).chan 5).total ∧ (chanSt (moving (5 : Byte) leg7)).inFlightOf 5 = false ∧ (chanSt (moving (5
      : Byte) leg7)).engineFull 5 = false ∧ (chanSt (moving (5 : Byte) leg7)).stepCause 5 5
      { src := leg7.source.toNat + BitVec.toNat ((chanSt (moving (5 : Byte) leg7)).chan 5).tile * 4096, dst := leg7.dest.toNat + BitVec.toNat ((chanSt (moving (5 : Byte) leg7)).chan 5).tile * 4096, owner := (1 : Holder) } = 0 ∧ 5 = 5 ∧ (chanSt (moving (5 : Byte) leg7)).TilePermits (leg7.source.toNat + BitVec.toNat ((chanSt (moving (5 : Byte) leg7)).chan 5).tile * 4096) (1 : Holder) 0 ∧ isFast (leg7.source.toNat + BitVec.toNat ((chanSt (moving (5 : Byte) leg7)).chan 5).tile * 4096) = false ∧ tget (chanSt (moving (5 : Byte) leg7)).t2.tileMap (tileNo (leg7.source.toNat + BitVec.toNat ((chanSt (moving (5 : Byte) leg7)).chan 5).tile * 4096)) = none) ∧
    (transfersCompleteTiles8.Moves 5 6 leg7 (1 : Holder) ∧ transfersCompleteTiles8.ferry.chans.length = 64 ∧ BitVec.toNat
      (transfersCompleteTiles8.chan 5).tile + 1 < BitVec.toNat leg7.count ∧ BitVec.toNat (transfersCompleteTiles8.chan 5).done + 1 < BitVec.toNat
      (transfersCompleteTiles8.chan 5).total ∧ transfersCompleteTiles8.inFlightOf 5 = false ∧ transfersCompleteTiles8.engineFull 5 = false ∧
      transfersCompleteTiles8.stepCause 5 6
      { src := leg7.source.toNat + BitVec.toNat (transfersCompleteTiles8.chan 5).tile * 4096, dst := leg7.dest.toNat + BitVec.toNat (transfersCompleteTiles8.chan 5).tile * 4096, owner := (1 : Holder) } = 0 ∧ 6 = 6 ∧ transfersCompleteTiles8.TilePermits (leg7.source.toNat + BitVec.toNat (transfersCompleteTiles8.chan 5).tile * 4096) (1 : Holder) 0 ∧ transfersCompleteTiles8.windowOf 5 = some (0, 8, 4) ∧ BitVec.toNat (transfersCompleteTiles8.chan 5).mark - (8 - 4) ≤ BitVec.toNat (transfersCompleteTiles8.chan 5).filled ∧ BitVec.toNat (transfersCompleteTiles8.chan 5).filled < min (BitVec.toNat (transfersCompleteTiles8.chan 5).mark + 4) (BitVec.toNat (transfersCompleteTiles8.chan 5).total) ∧ transfersCompleteTiles8.slotOf (tileNo (leg7.source.toNat + BitVec.toNat (transfersCompleteTiles8.chan 5).tile * 4096)) = none ∧ transfersCompleteTiles8.beingTaken (tileNo (leg7.source.toNat + BitVec.toNat (transfersCompleteTiles8.chan 5).tile * 4096)) = false ∧ transfersCompleteTiles8.tileBank (tileNo (leg7.source.toNat + BitVec.toNat (transfersCompleteTiles8.chan 5).tile * 4096)) = none ∧ (transfersCompleteTiles8.fresh.readTile (tileNo (leg7.source.toNat + BitVec.toNat (transfersCompleteTiles8.chan 5).tile * 4096)) TileRead.plain).1.hops = [] ∧ ([] : List Nat) = [] ∧ transfersCompleteTiles8.storesFor (tileNo (leg7.source.toNat + BitVec.toNat (transfersCompleteTiles8.chan 5).tile * 4096)) = false ∧ (∀ w ∈ transfersCompleteTiles8.link.waits, ¬w.tile = tileNo (leg7.source.toNat + BitVec.toNat (transfersCompleteTiles8.chan 5).tile * 4096)) ∧ transfersCompleteTiles8.pickFor (1 : Holder) (some 0) = Pick.free 256) ∧
    (transfersCompleteTiles2.Moves 5 6 leg7 (1 : Holder) ∧ transfersCompleteTiles2.ferry.chans.length = 64 ∧ BitVec.toNat
      (transfersCompleteTiles2.chan 5).tile + 1 < BitVec.toNat leg7.count ∧ BitVec.toNat (transfersCompleteTiles2.chan 5).done + 1 < BitVec.toNat
      (transfersCompleteTiles2.chan 5).total ∧ transfersCompleteTiles2.inFlightOf 5 = false ∧ transfersCompleteTiles2.engineFull 5 = false ∧
      transfersCompleteTiles2.stepCause 5 6
      { src := leg7.source.toNat + BitVec.toNat (transfersCompleteTiles2.chan 5).tile * 4096, dst := leg7.dest.toNat + BitVec.toNat (transfersCompleteTiles2.chan 5).tile * 4096, owner := (1 : Holder) } = 0 ∧ 6 = 6 ∧ transfersCompleteTiles2.TilePermits (leg7.source.toNat + BitVec.toNat (transfersCompleteTiles2.chan 5).tile * 4096) (1 : Holder) 0 ∧ transfersCompleteTiles2.windowOf 5 = some (0, 8, 4) ∧ BitVec.toNat (transfersCompleteTiles2.chan 5).mark - (8 - 4) ≤ BitVec.toNat (transfersCompleteTiles2.chan 5).filled ∧ BitVec.toNat (transfersCompleteTiles2.chan 5).filled < min (BitVec.toNat (transfersCompleteTiles2.chan 5).mark + 4) (BitVec.toNat (transfersCompleteTiles2.chan 5).total) ∧ (transfersCompleteTiles2.slotOf (tileNo (leg7.source.toNat + BitVec.toNat (transfersCompleteTiles2.chan 5).tile * 4096))).any (fun x => decide (¬x.win = some 0)) = true) ∧
    (transfersCompleteTiles3.Moves 5 5 (legAt (17179869184 : BitVec 40) (0 : BitVec 40)) (1 : Holder) ∧ transfersCompleteTiles3.ferry.chans.length =
      64 ∧ BitVec.toNat (transfersCompleteTiles3.chan 5).tile + 1 < BitVec.toNat (legAt (17179869184 : BitVec 40) (0 : BitVec 40)).count ∧
      BitVec.toNat (transfersCompleteTiles3.chan 5).done + 1 < BitVec.toNat (transfersCompleteTiles3.chan 5).total ∧
      transfersCompleteTiles3.inFlightOf 5 = false ∧ transfersCompleteTiles3.engineFull 5 = false ∧ transfersCompleteTiles3.stepCause 5 5
      { src := (legAt (17179869184 : BitVec 40) (0 : BitVec 40)).source.toNat + BitVec.toNat (transfersCompleteTiles3.chan 5).tile * 4096, dst := (legAt (17179869184 : BitVec 40) (0 : BitVec 40)).dest.toNat + BitVec.toNat (transfersCompleteTiles3.chan 5).tile * 4096, owner := (1 : Holder) } = 0 ∧ 5 = 5 ∧ transfersCompleteTiles3.TilePermits ((legAt (17179869184 : BitVec 40) (0 : BitVec 40)).source.toNat + BitVec.toNat (transfersCompleteTiles3.chan 5).tile * 4096) (1 : Holder) 0 ∧ isFast ((legAt (17179869184 : BitVec 40) (0 : BitVec 40)).source.toNat + BitVec.toNat (transfersCompleteTiles3.chan 5).tile * 4096) = true ∧ (∀ i < 64, (decLine (lineFold (((legAt (17179869184 : BitVec 40) (0 : BitVec 40)).source.toNat + BitVec.toNat (transfersCompleteTiles3.chan 5).tile * 4096 - fastBase) / 64 + i)) (transfersCompleteTiles3.t1Words (((legAt (17179869184 : BitVec 40) (0 : BitVec 40)).source.toNat + BitVec.toNat (transfersCompleteTiles3.chan 5).tile * 4096 - fastBase) / 64 + i))).cls = LineClass.clean)) := by
  refine ⟨?_, ?_, ?_, ?_, ?_, ?_, ?_, ?_, ?_, ?_, ?_, ?_⟩ <;> and_intros <;> first
    | exact fun i h => by
        have e : ((legAt (17179869184 : BitVec 40) (0 : BitVec 40)).source.toNat + BitVec.toNat (transfersCompleteTiles3.chan 5).tile * 4096 -
          fastBase) / 64 = 0 := by decide +kernel
        rw [e, Nat.zero_add]
        exact fastTile_clean _ i h
    | decide +kernel

def stallsAbortsAndParkingSt (x : Chan) := chanSt x
def stallsAbortsAndParkingSt0 : State :=
  stallsAbortsAndParkingSt {moving 1 leg7 with state := .stalled, stall := 1}
def stallsAbortsAndParkingSt1 : State :=
  poolChan {moving 1 leg7 with state := .stalled, stall := 1} (slotOf7 .writing 4)
def stallsAbortsAndParkingSt2 : State :=
  stallsAbortsAndParkingSt {moving 1 leg7 with state := .stalled, stall := 1, stallSince := some (svc.clk.ts - 1600000)}
def stallsAbortsAndParkingSt3 : State :=
  stallsAbortsAndParkingSt {moving 1 leg7 with state := .aborting}
def stallsAbortsAndParkingSt4 : State :=
  poolChan {moving 6 leg7 with state := .aborting} (windowSlot 4)
def stallsAbortsAndParkingSt5 : State :=
  cwSt {moving 1 leg7 with state := .aborting}
def stallsAbortsAndParkingSt6 : State :=
  stallsAbortsAndParkingSt {moving 1 leg7 with bankWait := true}
theorem witness_StallsAbortsAndParking :
    (stallsAbortsAndParkingSt6.ferry.chans.length = 64 ∧ stallsAbortsAndParkingSt6.Moves 5 1 leg7 (1 : Holder) ∧ stallsAbortsAndParkingSt6.engineFull
      5 = false ∧ (stallsAbortsAndParkingSt6.inFlightOf 5 = true ∨ (1 = 4 ∨ stallsAbortsAndParkingSt6.TilePermits (leg7.source.toNat + BitVec.toNat
      (stallsAbortsAndParkingSt6.chan 5).tile * 4096) (1 : Holder) (if 1 = 2 then 1 else 0)) ∧ (¬(1 = 3 ∨ 1 = 4) ∨
      stallsAbortsAndParkingSt6.TilePermits (leg7.dest.toNat + BitVec.toNat (stallsAbortsAndParkingSt6.chan 5).tile * 4096) (1 : Holder) 1))) ∧
    (stallsAbortsAndParkingSt0.ferry.chans.length = 64 ∧ stallsAbortsAndParkingSt0.md.mode = Mode.service ∧ (stallsAbortsAndParkingSt0.chan 5).state
      = ChState.stalled ∧ stallsAbortsAndParkingSt0.stallNow 5 = 0) ∧
    (stallsAbortsAndParkingSt1.ferry.chans.length = 64 ∧ stallsAbortsAndParkingSt1.md.mode = Mode.service ∧ (stallsAbortsAndParkingSt1.chan 5).state
      = ChState.stalled ∧ ¬stallsAbortsAndParkingSt1.stallNow 5 = 0) ∧
    (stallsAbortsAndParkingSt2.ferry.chans.length = 64 ∧ (stallsAbortsAndParkingSt2.chan 5).state = ChState.stalled ∧ (stallsAbortsAndParkingSt2.chan
      5).stallTold = false ∧ (stallsAbortsAndParkingSt2.chan 5).stallSince = some (svc.clk.ts - (1600000 : Stamp)) ∧ stallsAbortsAndParkingSt2.since
      (svc.clk.ts - (1600000 : Stamp)) msec = true) ∧
    (stallsAbortsAndParkingSt3.ferry.chans.length = 64 ∧ stallsAbortsAndParkingSt3.md.mode = Mode.service ∧ (stallsAbortsAndParkingSt3.chan 5).state
      = ChState.aborting ∧ stallsAbortsAndParkingSt3.inFlightOf 5 = false ∧ ¬(stallsAbortsAndParkingSt3.chan 5).op = (6 : Byte)) ∧
    (stallsAbortsAndParkingSt4.ferry.chans.length = 64 ∧ stallsAbortsAndParkingSt4.md.mode = Mode.service ∧ (stallsAbortsAndParkingSt4.chan 5).state
      = ChState.aborting ∧ stallsAbortsAndParkingSt4.inFlightOf 5 = false ∧ (stallsAbortsAndParkingSt4.chan 5).op = (6 : Byte) ∧ rising (List.map
      (fun y ↦ (y.idx, y)) stallsAbortsAndParkingSt4.t0.pool) = true) ∧
    (stallsAbortsAndParkingSt5.ferry.chans.length = 64 ∧ stallsAbortsAndParkingSt5.md.mode = Mode.causeway ∧ ((stallsAbortsAndParkingSt5.chan
      5).state.active = true ∨ (stallsAbortsAndParkingSt5.chan 5).state = ChState.aborting) ∧ stallsAbortsAndParkingSt5.inFlightOf 5 = false) := by
  refine ⟨?_, ?_, ?_, ?_, ?_, ?_, ?_⟩ <;> and_intros <;> decide +kernel

def demandPathServesTilesSt0 : State :=
  poolSt (slotOf7 .filling 0)
def demandPathServesTilesSt1 : State :=
  {waitSt with t2 := storedTileSt.t2}
def demandPathServesTilesSt2 : State :=
  storeSt (slotOf7 .clean 0)
theorem witness_DemandPathServesTiles :
    ((demandPathServesTilesSt0.fillingSlot 7).any (fun x => decide (x.doomed = false ∧ demandPathServesTilesSt0.slotAt x.idx = some x ∧
      demandPathServesTilesSt0.slotOf 7 = some x ∧ demandPathServesTilesSt0.mayFetch = true ∧ demandPathServesTilesSt0.BankGrants
      (demandPathServesTilesSt0.tileBank 7) (Req.host x.port) ∧ demandPathServesTilesSt0.t0.stores = [] ∧ (∀ w ∈ demandPathServesTilesSt0.link.waits,
      w.tile = 7 ∧ w.line < 64))) = true) ∧
    ((demandPathServesTilesSt1.link.waits[0]?).any (fun x => decide (x.tile = 7 ∧ demandPathServesTilesSt1.since x.since (12 * usec) = true ∧
      demandPathServesTilesSt1.slotOf 7 = none ∧ demandPathServesTilesSt1.beingTaken 7 = false ∧ demandPathServesTilesSt1.mayFetch = true ∧
      demandPathServesTilesSt1.BankGrants (demandPathServesTilesSt1.tileBank 7) (Req.host (some x.port)) ∧ x.out = none)) = true) ∧
    ((demandPathServesTilesSt2.slotOf 7).any (fun x => decide (demandPathServesTilesSt2.storesFor 7 = true)) = true) := by
  refine ⟨?_, ?_, ?_⟩ <;> and_intros <;> decide +kernel

def writeBackReachesTheMapZsnap : Snapshot := { snap7 .keep with lines := [] }
def writeBackReachesTheMapVal0 : Slot :=
  { readOutSlot .keep with wb := some { snap7 .keep with lines := [] } }
def writeBackReachesTheMapVal1 : Snapshot :=
  { snap7 .keep with lines := [] }
def writeBackReachesTheMapSt2 : State :=
  poolSt (readOutSlot .keep)
def writeBackReachesTheMapSt3 : State :=
  poolSt (readOutSlot takeFor)
def writeBackReachesTheMapSt4 : State :=
  fullDenseSt (readOutSlot .keep)
def writeBackReachesTheMapSt5 : State :=
  fillIn storedTileSt { readOutSlot .keep with wb := some writeBackReachesTheMapZsnap }
def writeBackReachesTheMapSt6 : State :=
  {storedTileSt with t2 := {storedTileSt.t2 with moving := placedSt.t2.moving}}
def writeBackReachesTheMap1 := wayOf record7 (4505 : BitVec 832) (some (100, 40, (0 : Word)))
def writeBackReachesTheMap2 := wayOf record7 (4505 : BitVec 832) none
theorem witness_WriteBackReachesTheMap :
    (writeBackReachesTheMapSt2.slotAt 300 = some (readOutSlot AfterWb.keep) ∧ (readOutSlot AfterWb.keep).wb = some (snap7 AfterWb.keep) ∧
      writeBackReachesTheMapSt2.mayPack = true ∧ writeBackReachesTheMapSt2.md.mode = Mode.service ∧ (readOutSlot AfterWb.keep).doomed = false ∧
      (readOutSlot AfterWb.keep).dirty &&& ~~~(snap7 AfterWb.keep).dirty = (0 : Mask) ∧ writeBackReachesTheMapSt2.fresh.build (readOutSlot
      AfterWb.keep).tile (readOutSlot AfterWb.keep).holder (snap7 AfterWb.keep).lines (snap7 AfterWb.keep).poison (snap7 AfterWb.keep).crc bigPack =
      (Built.record record7, writeBackReachesTheMapSt2.fresh) ∧ writeBackReachesTheMapSt2.growthOk (readOutSlot AfterWb.keep).tile record7.sectors =
      true ∧ (snap7 AfterWb.keep).next = AfterWb.keep ∧ (readOutSlot AfterWb.keep).win = none ∧ writeBackReachesTheMapSt2.link.waits = [] ∧
      writeBackReachesTheMapSt2.t0.stores = []) ∧
    (writeBackReachesTheMapSt3.slotAt 300 = some (readOutSlot takeFor) ∧ (readOutSlot takeFor).wb = some (snap7 takeFor) ∧
      writeBackReachesTheMapSt3.mayPack = true ∧ writeBackReachesTheMapSt3.md.mode = Mode.service ∧ (readOutSlot takeFor).doomed = false ∧
      (readOutSlot takeFor).dirty &&& ~~~(snap7 takeFor).dirty = (0 : Mask) ∧ writeBackReachesTheMapSt3.fresh.build (readOutSlot takeFor).tile
      (readOutSlot takeFor).holder (snap7 takeFor).lines (snap7 takeFor).poison (snap7 takeFor).crc bigPack = (Built.record record7,
      writeBackReachesTheMapSt3.fresh) ∧ writeBackReachesTheMapSt3.growthOk (readOutSlot takeFor).tile record7.sectors = true ∧ (snap7 takeFor).next
      = AfterWb.take 11 (2 : Holder) (some (1 : Port)) none none 0) ∧
    (writeBackReachesTheMapSt4.slotAt 300 = some (readOutSlot AfterWb.keep) ∧ (readOutSlot AfterWb.keep).wb = some (snap7 AfterWb.keep) ∧
      writeBackReachesTheMapSt4.mayPack = true ∧ writeBackReachesTheMapSt4.md.mode = Mode.service ∧ (readOutSlot AfterWb.keep).doomed = false ∧
      (readOutSlot AfterWb.keep).dirty &&& ~~~(snap7 AfterWb.keep).dirty = (0 : Mask) ∧ writeBackReachesTheMapSt4.fresh.build (readOutSlot
      AfterWb.keep).tile (readOutSlot AfterWb.keep).holder (snap7 AfterWb.keep).lines (snap7 AfterWb.keep).poison (snap7 AfterWb.keep).crc bigPack =
      (Built.record record7, writeBackReachesTheMapSt4.fresh) ∧ writeBackReachesTheMapSt4.growthOk (readOutSlot AfterWb.keep).tile record7.sectors =
      false) ∧
    (writeBackReachesTheMapSt5.slotAt 300 = some writeBackReachesTheMapVal0 ∧ writeBackReachesTheMapVal0.wb = some writeBackReachesTheMapVal1 ∧
      writeBackReachesTheMapSt5.mayPack = true ∧ writeBackReachesTheMapSt5.md.mode = Mode.service ∧ writeBackReachesTheMapVal0.doomed = false ∧
      writeBackReachesTheMapVal0.dirty &&& ~~~writeBackReachesTheMapVal1.dirty = (0 : Mask) ∧ writeBackReachesTheMapSt5.fresh.build
      writeBackReachesTheMapVal0.tile writeBackReachesTheMapVal0.holder writeBackReachesTheMapVal1.lines writeBackReachesTheMapVal1.poison
      writeBackReachesTheMapVal1.crc bigPack = (Built.zero, writeBackReachesTheMapSt5.fresh) ∧ writeBackReachesTheMapVal1.next = AfterWb.keep ∧
      writeBackReachesTheMapVal0.win = none ∧ writeBackReachesTheMapSt5.link.waits = [] ∧ writeBackReachesTheMapSt5.t0.stores = [] ∧ rising
      writeBackReachesTheMapSt5.t2.tileMap = true ∧ (∀ y ∈ writeBackReachesTheMapSt5.t0.pool, ¬y.st = SlotState.pinned)) ∧
    (rising imageSt.t2.bufs = true ∧ tgetD imageSt.t2.bufs 0 [] = [bufOf record7] ∧ ((bufOf record7).rejectedAt = none ∧ Instr.pageProgram (0 : Fin
      8) 100 ProgramOutcome.plain = Instr.pageProgram (0 : Fin 8) 100 ProgramOutcome.plain ∨ (∃ at3, (bufOf record7).rejectedAt = some at3 ∧
      imageSt.since at3 msec = true) ∧ Instr.pageProgram (0 : Fin 8) 100 ProgramOutcome.plain = Instr.pageProgramRetry (0 : Fin 8) 100
      ProgramOutcome.plain) ∧ (bufOf record7).lastBank = none ∧ imageSt.denseWriteOk = true ∧ imageSt.imageDue (0) (bufOf record7) [] = true ∧
      imageSt.pageFree 100 = true ∧ tgetD imageSt.t2.left 100 ([] : List Nat) = [] ∧ imageSt.t2.toPreset.contains 100 = false ∧ imageSt.ceilingReady
      = true ∧ imageSt.BankGrants (some (imageSt.part.pageBank 100)) imageSt.programReq ∧ (∀ p ∈ (bufOf record7).pieces, ∀ k ∈ (pieceLines
      imageSt.t2.moving (0) p ProgramOutcome.plain.sram).2, badLine k = false) ∧ ProgramOutcome.plain.wrong.dedup.length * 4 ≤ (bufOf record7).t) ∧
    (rising imageSt.t2.bufs = true ∧ tgetD imageSt.t2.bufs 0 [] = [bufOf record7] ∧ ((bufOf record7).rejectedAt = none ∧ Instr.pageProgram (0 : Fin
      8) 100 spoiled = Instr.pageProgram (0 : Fin 8) 100 spoiled ∨ (∃ at3, (bufOf record7).rejectedAt = some at3 ∧ imageSt.since at3 msec = true) ∧
      Instr.pageProgram (0 : Fin 8) 100 spoiled = Instr.pageProgramRetry (0 : Fin 8) 100 spoiled) ∧ (bufOf record7).lastBank = none ∧
      imageSt.denseWriteOk = true ∧ imageSt.imageDue (0) (bufOf record7) [] = true ∧ imageSt.pageFree 100 = true ∧ tgetD imageSt.t2.left 100 ([] :
      List Nat) = [] ∧ imageSt.t2.toPreset.contains 100 = false ∧ imageSt.ceilingReady = true ∧ imageSt.BankGrants (some (imageSt.part.pageBank 100))
      imageSt.programReq ∧ (bufOf record7).pieces = [pieceOf record7] ∧ imageSt.t2.moving = [wayOf record7 (4505 : BitVec 832) none] ∧
      writeBackReachesTheMap2.has (0) (pieceOf record7) = true ∧ writeBackReachesTheMap2.head = none ∧ writeBackReachesTheMap2.tail = none ∧
      writeBackReachesTheMap2.origin = none ∧ (∃ k ∈ (pieceLines imageSt.t2.moving (0) (pieceOf record7) spoiled.sram).2, badLine k = true)) ∧
    (rising imageSt.t2.bufs = true ∧ tgetD imageSt.t2.bufs 0 [] = [bufOf record7] ∧ ((bufOf record7).rejectedAt = none ∧ Instr.pageProgram (0 : Fin
      8) 100 rejected = Instr.pageProgram (0 : Fin 8) 100 rejected ∨ (∃ at3, (bufOf record7).rejectedAt = some at3 ∧ imageSt.since at3 msec = true) ∧
      Instr.pageProgram (0 : Fin 8) 100 rejected = Instr.pageProgramRetry (0 : Fin 8) 100 rejected) ∧ (bufOf record7).lastBank = none ∧
      imageSt.denseWriteOk = true ∧ imageSt.imageDue (0) (bufOf record7) [] = true ∧ imageSt.pageFree 100 = true ∧ tgetD imageSt.t2.left 100 ([] :
      List Nat) = [] ∧ imageSt.t2.toPreset.contains 100 = false ∧ imageSt.ceilingReady = true ∧ imageSt.BankGrants (some (imageSt.part.pageBank 100))
      imageSt.programReq ∧ (∀ p ∈ (bufOf record7).pieces, ∀ k ∈ (pieceLines imageSt.t2.moving (0) p rejected.sram).2, badLine k = false) ∧
      ¬rejected.wrong.dedup.length * 4 ≤ (bufOf record7).t) ∧
    (takeFirst (fun m ↦ m.tile == 7) writeBackReachesTheMapSt6.t2.moving = some (wayOf record7 (4505 : BitVec 832) (some (100, 40, (0 : Word))), [])
      ∧ writeBackReachesTheMap1.head = some (100, 40, (0 : Word)) ∧ writeBackReachesTheMap1.split = false ∧ writeBackReachesTheMap1.tail = none ∧
      writeBackReachesTheMapSt6.moveStale writeBackReachesTheMap1 = false ∧ writeBackReachesTheMapSt6.releaseHolds 7 = false ∧
      writeBackReachesTheMapSt6.mayCommit = true ∧ (∀ y ∈ writeBackReachesTheMapSt6.t0.pool, ¬y.st = SlotState.pinned)) := by
  refine ⟨?_, ?_, ?_, ?_, ?_, ?_, ?_, ?_⟩ <;> and_intros <;> decide +kernel

def denseUpkeep1 := (regionSt 0 10922).region 128 0
def denseUpkeep2 := (regionSt 0 10922).part.regionPages 128 0
def denseUpkeep3 := (regionSt 0 1).part.regionPages 128 0
def denseUpkeep4 := (regionSt 1 0).part.regionPages 128 0
theorem witness_DenseUpkeep :
    (presetSt.denseOn = true ∧ (presetSt.md.mode = Mode.service ∨ presetSt.md.mode = Mode.recall) ∧ presetSt.t2.toPreset.contains 300 = true ∧
      presetSt.BankGrants (some (presetSt.part.pageBank 300)) Req.steward ∧ rising presetSt.t2.pages = true ∧ rising presetSt.t2.left = true) ∧
    (tget sharedSt.t2.pages 100 = some page100 ∧ page100.pieces = [piece7] ∧ sharedSt.beingMoved piece7.tile = false ∧ tget sharedSt.t2.tileMap
      piece7.tile = some entry7 ∧ (entry7.page = 100 ∨ entry7.page2 = some 100) ∧ sharedSt.readRecord piece7.tile entry7 [] = (some stored7,
      sharedSt) ∧ sharedSt.denseCareOk = true ∧ page100.freed ≠ [] ∧ sharedSt.releaseHolds piece7.tile = false ∧ (∀ q ∈ sharedSt.t2.pages,
      sharedSt.reclaimable q.1 q.2 = true → page100.live ≤ q.2.live) ∧ sharedSt.BankGrants (some (sharedSt.part.pageBank 100)) sharedSt.reclaimReq) ∧
    (tget sharedSt.t2.pages 100 = some page100 ∧ page100.pieces = [piece7] ∧ sharedSt.beingMoved piece7.tile = false ∧ tget sharedSt.t2.tileMap
      piece7.tile = some entry7 ∧ (entry7.page = 100 ∨ entry7.page2 = some 100) ∧ sharedSt.readRecord piece7.tile entry7 [] = (some stored7,
      sharedSt) ∧ sharedSt.part.dense = true ∧ sharedSt.denseCareOk = true ∧ takeFirst (fun q ↦ !sharedSt.pageHeld q) sharedSt.t2.relocQ = some (100,
      []) ∧ sharedSt.charterOf 100 = none ∧ sharedSt.BankGrants (some (sharedSt.part.pageBank 100)) Req.steward) ∧
    (takeFirst (fun q ↦ !charterSt.pageHeld q) charterSt.t2.relocQ = some (svc.part.charterHome 5, []) ∧ charterSt.charterOf (svc.part.charterHome 5)
      = some 5 ∧ charterSt.mayRelocate = true ∧ charterSt.BankGrants (some (charterSt.pageBank (svc.part.charterHome 5))) Req.steward ∧
      (charterSt.decodePage (svc.part.charterHome 5) 72 (charterSt.charterAt 5).gen (165 : Byte) (fun x ↦ true) (readOf [] (svc.part.charterHome
      5))).1 = PageGot.clean (svc.charterImg 5) ∧ charterSt.part.dense = true ∧ charterSt.pageFree 100 = true ∧ charterSt.ceilingReady = true ∧ tgetD
      charterSt.t2.left 100 ([] : List Nat) = [] ∧ charterSt.t2.toPreset.contains 100 = false ∧ rejected.wrong.dedup.length * 4 ≤ 72) ∧
    (takeFirst (fun q ↦ !charter9204St.pageHeld q) charter9204St.t2.relocQ = some (5, []) ∧ charter9204St.charterOf 5 = some 5 ∧
      charter9204St.mayRelocate = true ∧ charter9204St.BankGrants (some (charter9204St.pageBank 5)) Req.steward ∧ (charter9204St.decodePage 5 72
      (charter9204St.charterAt 5).gen (165 : Byte) (fun x ↦ true) (readOf [] 5)).1 = PageGot.clean (svc.charterImg 5) ∧ charter9204St.part.dense =
      false) ∧
    ((regionSt 0 1).denseCareOk = true ∧ 128 ≤ 128 ∧ 128 < 128 + (regionSt 0 1).part.denseBanks ∧ 128 ≤ ((regionSt 0 1).region 128 0).programs ∧
      (regionSt 0 1).BankGrants (some 128) Req.steward ∧ ((regionSt 0 1).decodePage ((regionSt 0 1).part.pageAt 128 (regionPageAt denseUpkeep3
      ((regionSt 0 1).region 128 0).start ((regionSt 0 1).region 128 0).gap (if ((regionSt 0 1).region 128 0).gap = 0 then (regionSt 0
      1).part.regionPages 128 0 else ((regionSt 0 1).region 128 0).gap - 1) * 8 + 0)) ((regionSt 0 1).stored ((regionSt 0 1).part.pageAt 128
      (regionPageAt denseUpkeep3 ((regionSt 0 1).region 128 0).start ((regionSt 0 1).region 128 0).gap (if ((regionSt 0 1).region 128 0).gap = 0 then
      (regionSt 0 1).part.regionPages 128 0 else ((regionSt 0 1).region 128 0).gap - 1) * 8 + 0))).1.t ((regionSt 0 1).stored ((regionSt 0
      1).part.pageAt 128 (regionPageAt denseUpkeep3 ((regionSt 0 1).region 128 0).start ((regionSt 0 1).region 128 0).gap (if ((regionSt 0 1).region
      128 0).gap = 0 then (regionSt 0 1).part.regionPages 128 0 else ((regionSt 0 1).region 128 0).gap - 1) * 8 + 0))).1.gen ((regionSt 0 1).stored
      ((regionSt 0 1).part.pageAt 128 (regionPageAt denseUpkeep3 ((regionSt 0 1).region 128 0).start ((regionSt 0 1).region 128 0).gap (if ((regionSt
      0 1).region 128 0).gap = 0 then (regionSt 0 1).part.regionPages 128 0 else ((regionSt 0 1).region 128 0).gap - 1) * 8 + 0))).1.magic (fun x ↦
      true) PageRead.plain).1 = PageGot.clean (svc.charterImg 5) ∧ (wrongCells (svc.charterImg 5) rejected.preset.left rejected.wrong).length * 4 ≤
      (svc.charterImg 5).t) ∧
    ((regionSt 1 0).denseCareOk = true ∧ 128 ≤ 128 ∧ 128 < 128 + (regionSt 1 0).part.denseBanks ∧ 128 ≤ ((regionSt 1 0).region 128 0).programs ∧
      (regionSt 1 0).BankGrants (some 128) Req.steward ∧ ((regionSt 1 0).decodePage ((regionSt 1 0).part.pageAt 128 (regionPageAt denseUpkeep4
      ((regionSt 1 0).region 128 0).start ((regionSt 1 0).region 128 0).gap (if ((regionSt 1 0).region 128 0).gap = 0 then (regionSt 1
      0).part.regionPages 128 0 else ((regionSt 1 0).region 128 0).gap - 1) * 8 + 0)) ((regionSt 1 0).stored ((regionSt 1 0).part.pageAt 128
      (regionPageAt denseUpkeep4 ((regionSt 1 0).region 128 0).start ((regionSt 1 0).region 128 0).gap (if ((regionSt 1 0).region 128 0).gap = 0 then
      (regionSt 1 0).part.regionPages 128 0 else ((regionSt 1 0).region 128 0).gap - 1) * 8 + 0))).1.t ((regionSt 1 0).stored ((regionSt 1
      0).part.pageAt 128 (regionPageAt denseUpkeep4 ((regionSt 1 0).region 128 0).start ((regionSt 1 0).region 128 0).gap (if ((regionSt 1 0).region
      128 0).gap = 0 then (regionSt 1 0).part.regionPages 128 0 else ((regionSt 1 0).region 128 0).gap - 1) * 8 + 0))).1.gen ((regionSt 1 0).stored
      ((regionSt 1 0).part.pageAt 128 (regionPageAt denseUpkeep4 ((regionSt 1 0).region 128 0).start ((regionSt 1 0).region 128 0).gap (if ((regionSt
      1 0).region 128 0).gap = 0 then (regionSt 1 0).part.regionPages 128 0 else ((regionSt 1 0).region 128 0).gap - 1) * 8 + 0))).1.magic (fun x ↦
      true) PageRead.plain).1 = PageGot.clean PageImg.preset ∧ ¬(wrongCells PageImg.preset rejected.preset.left rejected.wrong).length * 4 ≤
      PageImg.preset.t) ∧
    ((regionSt 0 10922).denseCareOk = true ∧ 128 ≤ 128 ∧ 128 < 128 + (regionSt 0 10922).part.denseBanks ∧ 128 ≤ denseUpkeep1.programs ∧ (regionSt 0
      10922).BankGrants (some 128) Req.steward ∧ ((regionSt 0 10922).decodePage ((regionSt 0 10922).part.pageAt 128 (regionPageAt denseUpkeep2
      denseUpkeep1.start denseUpkeep1.gap (if denseUpkeep1.gap = 0 then (regionSt 0 10922).part.regionPages 128 0 else denseUpkeep1.gap - 1) * 8 +
      0)) ((regionSt 0 10922).stored ((regionSt 0 10922).part.pageAt 128 (regionPageAt denseUpkeep2 denseUpkeep1.start denseUpkeep1.gap (if
      denseUpkeep1.gap = 0 then (regionSt 0 10922).part.regionPages 128 0 else denseUpkeep1.gap - 1) * 8 + 0))).1.t ((regionSt 0 10922).stored
      ((regionSt 0 10922).part.pageAt 128 (regionPageAt denseUpkeep2 denseUpkeep1.start denseUpkeep1.gap (if denseUpkeep1.gap = 0 then (regionSt 0
      10922).part.regionPages 128 0 else denseUpkeep1.gap - 1) * 8 + 0))).1.gen ((regionSt 0 10922).stored ((regionSt 0 10922).part.pageAt 128
      (regionPageAt denseUpkeep2 denseUpkeep1.start denseUpkeep1.gap (if denseUpkeep1.gap = 0 then (regionSt 0 10922).part.regionPages 128 0 else
      denseUpkeep1.gap - 1) * 8 + 0))).1.magic (fun x ↦ true) badRead).1 = PageGot.uncorrectable) ∧
    (lgetD reloadSt.cad.reload (0) false = true ∧ reloadSt.stewardUp = true) := by
  refine ⟨?_, ?_, ?_, ?_, ?_, ?_, ?_, ?_, ?_⟩ <;> and_intros <;> decide +kernel

def fastTierPrograms1 := wqOf (4660 : Line) (255 : Mask) none
theorem witness_FastTierPrograms :
    (queuedSt.mayProgramT1 = true ∧ queuedSt.mayProgram 0 = some fastTierPrograms1 ∧ queuedSt.programWords fastTierPrograms1 = some
      ((queuedSt.programWords fastTierPrograms1).getD []) ∧ queuedSt.BankGrants (some (queuedSt.lineBank fastTierPrograms1.line))
      fastTierPrograms1.req ∧ queuedSt.inlineVerify fastTierPrograms1.line = false) ∧
    (cautionSt.mayProgramT1 = true ∧ cautionSt.mayProgram 0 = some fastTierPrograms1 ∧ cautionSt.programWords fastTierPrograms1 = some
      ((queuedSt.programWords fastTierPrograms1).getD []) ∧ cautionSt.BankGrants (some (cautionSt.lineBank fastTierPrograms1.line))
      fastTierPrograms1.req ∧ cautionSt.inlineVerify fastTierPrograms1.line = true) ∧
    (rwSt.mayVerify = true ∧ rwSt.t1.rwq = [rwOf3] ∧ (rwSt.group (rwOf3.line / gapN)).programs < 64 ∧ rwSt.BankGrants (some (rwSt.lineBank
      rwOf3.line)) (rwSt.verifyReq rwOf3) ∧ rwSt.lateSince rwOf3.ts = false ∧ (decPast rwOf3.line (rwSt.t1Words rwOf3.line)).cls = LineClass.clean) ∧
    (rwBadSt.mayVerify = true ∧ rwBadSt.t1.rwq = [rwOf3] ∧ (rwBadSt.group (rwOf3.line / gapN)).programs < 64 ∧ rwBadSt.BankGrants (some
      (rwBadSt.lineBank rwOf3.line)) (rwBadSt.verifyReq rwOf3) ∧ rwBadSt.lateSince rwOf3.ts = false ∧ (decPast rwOf3.line (rwBadSt.t1Words
      rwOf3.line)).cls = LineClass.corrected ∧ (decPast rwOf3.line (rwBadSt.t1Words rwOf3.line)).fixes = [(9, encByte (lineFold 3) (0 : Byte))] ∧ 9 <
      64 ∧ BitVec.getLsbD rwOf3.mask 9 = true ∧ triesOf [] 9 ≤ 3) ∧
    (List.find? (fun x ↦ !x.t1 || (fixSt fix3).correctionReady x) (fixSt fix3).t1.corrections = some fix3 ∧ fix3.byte < 64 ∧ List.partition (fun x ↦
      x.t1 == fix3.t1 && x.gap == fix3.gap && x.line == fix3.line) (fixSt fix3).t1.corrections = ([fix3], []) ∧ fix3.t1 = true ∧ (fixSt
      fix3).BankGrants (some ((fixSt fix3).correctionBank fix3)) Req.correction ∧ regionOf fix3.line = none ∧ (∀ i ∈ [], ¬↑i = fix3.byte)) ∧
    (List.find? (fun x ↦ !x.t1 || (fixSt fix3).correctionReady x) (fixSt fix3).t1.corrections = some fix3 ∧ fix3.byte < 64 ∧ List.partition (fun x ↦
      x.t1 == fix3.t1 && x.gap == fix3.gap && x.line == fix3.line) (fixSt fix3).t1.corrections = ([fix3], []) ∧ fix3.t1 = true ∧ (fixSt
      fix3).BankGrants (some ((fixSt fix3).correctionBank fix3)) Req.correction ∧ (∃ i ∈ [(63 : Fin 64)], ↑i = fix3.byte) ∧ regionOf fix3.line =
      none) ∧
    (List.find? (fun x ↦ !x.t1 || (fixSt fixRegion).correctionReady x) (fixSt fixRegion).t1.corrections = some fixRegion ∧ fixRegion.byte < 64 ∧
      List.partition (fun x ↦ x.t1 == fixRegion.t1 && x.gap == fixRegion.gap && x.line == fixRegion.line) (fixSt fixRegion).t1.corrections =
      ([fixRegion], []) ∧ fixRegion.t1 = true ∧ (fixSt fixRegion).BankGrants (some ((fixSt fixRegion).correctionBank fixRegion)) Req.correction ∧
      (regionOf fixRegion.line).any (fun x => decide ((∀ i ∈ [], ¬↑i = fixRegion.byte))) = true) ∧
    (List.find? (fun x ↦ !x.t1 || (fixSt fix1).correctionReady x) (fixSt fix1).t1.corrections = some fix1 ∧ fix1.byte < 64 ∧ List.partition (fun x ↦
      x.t1 == fix1.t1 && x.gap == fix1.gap && x.line == fix1.line) (fixSt fix1).t1.corrections = ([fix1], []) ∧ fix1.t1 = false ∧ fix1.line < 256 *
      (fixSt fix1).t0.scratchMiB * 64 ∧ (tget (fixSt fix1).t0.scratch fix1.line).isSome = true) ∧
    ((gapSt 5 0).pd 7 = true ∧ 0 < (gapSt 5 0).part.groups ∧ 64 ≤ ((gapSt 5 0).group 0).programs ∧ rising (gapSt 5 0).t1.groups = true) := by
  refine ⟨?_, ?_, ?_, ?_, ?_, ?_, ?_, ?_, ?_⟩ <;> and_intros <;> decide +kernel

theorem witness_GapMoveKeepsData :
    ((gapSt 5 0).pd 7 = true ∧ 0 < (gapSt 5 0).part.groups ∧ 64 ≤ ((gapSt 5 0).group 0).programs ∧ ((gapSt 5 0).group 0).start < gapN ∧ ((gapSt 5
      0).group 0).gap ≤ gapN ∧ 0 / gapN = 0 ∧ 0 < 64) := by
  and_intros <;> decide +kernel

def traverseMovesOnLineBad : State := passSt 4 { rwBadSt with t1 := { rwBadSt.t1 with rwq := [] } }
def traverseMovesOnSt0 : State :=
  passSt (svc.part.groups * 65537 + 7) svc
theorem witness_TraverseMovesOn :
    (traverseMovesOnSt0.mayTraverse Tier.t1 = true ∧ traverseMovesOnSt0.trav.t1.esc = false ∧ traverseMovesOnSt0.BankGrants (some
      (traverseMovesOnSt0.placeBank (traverseMovesOnSt0.t1Place traverseMovesOnSt0.trav.t1.done))) traverseMovesOnSt0.trav.t1.req ∧ ((∃ a,
      traverseMovesOnSt0.t1Place traverseMovesOnSt0.trav.t1.done = T1Place.line a ∧ decRegion 7 (svc.regionWords 7) = decPast a
      (traverseMovesOnSt0.t1Words a)) ∨ (∃ g a, traverseMovesOnSt0.t1Place traverseMovesOnSt0.trav.t1.done = T1Place.gap g a ∧ decRegion 7
      (svc.regionWords 7) = decPast a (traverseMovesOnSt0.t1.physWords (traverseMovesOnSt0.gapLine g))) ∨ ∃ n, traverseMovesOnSt0.t1Place
      traverseMovesOnSt0.trav.t1.done = T1Place.region n ∧ decRegion 7 (svc.regionWords 7) = decRegion n (traverseMovesOnSt0.regionWords n)) ∧
      traverseMovesOnSt0.trav.t1.done + 1 < traverseMovesOnSt0.passTotal Tier.t1 ∧ (decRegion 7 (svc.regionWords 7)).cls = LineClass.clean) ∧
    (traverseMovesOnSt0.mayTraverse Tier.t2 = true ∧ traverseMovesOnSt0.trav.t2en = true ∧ traverseMovesOnSt0.trav.t2.esc = false ∧
      traverseMovesOnSt0.nextPage traverseMovesOnSt0.trav.t2.pos = some 0 ∧ (traverseMovesOnSt0.nextPage (0 + 1)).isSome = true ∧
      traverseMovesOnSt0.BankGrants (some (traverseMovesOnSt0.pageBank 0)) traverseMovesOnSt0.trav.t2.req ∧ (traverseMovesOnSt0.decodePage 0
      (traverseMovesOnSt0.pageExpected 0).1 (traverseMovesOnSt0.pageExpected 0).2.1 (traverseMovesOnSt0.pageExpected 0).2.2.1
      (traverseMovesOnSt0.pageExpected 0).2.2.2 PageRead.plain).1 = PageGot.clean (svc.charterImg 0)) ∧
    (rising traverseMovesOnSt0.err.banks = true ∧ traverseMovesOnSt0.md.mode = Mode.service ∧ ¬(((traverseMovesOnSt0.bankErr 0).roll
      traverseMovesOnSt0.second).trimDue ≤ traverseMovesOnSt0.second ∧ (if 0 < 128 then 1048576 else 1024) ≤ ((traverseMovesOnSt0.bankErr 0).roll
      traverseMovesOnSt0.second).prevPrograms)) ∧
    (traverseMovesOnLineBad.mayTraverse Tier.t1 = true ∧ traverseMovesOnLineBad.trav.t1.esc = false ∧ traverseMovesOnLineBad.BankGrants (some
      (traverseMovesOnLineBad.placeBank (traverseMovesOnLineBad.t1Place traverseMovesOnLineBad.trav.t1.done))) traverseMovesOnLineBad.trav.t1.req ∧
      ((∃ a, traverseMovesOnLineBad.t1Place traverseMovesOnLineBad.trav.t1.done = T1Place.line a ∧ decPast 3 (traverseMovesOnLineBad.t1Words 3) =
      decPast a (traverseMovesOnLineBad.t1Words a)) ∨ (∃ g a, traverseMovesOnLineBad.t1Place traverseMovesOnLineBad.trav.t1.done = T1Place.gap g a ∧
      decPast 3 (traverseMovesOnLineBad.t1Words 3) = decPast a (traverseMovesOnLineBad.t1.physWords (traverseMovesOnLineBad.gapLine g))) ∨ ∃ n,
      traverseMovesOnLineBad.t1Place traverseMovesOnLineBad.trav.t1.done = T1Place.region n ∧ decPast 3 (traverseMovesOnLineBad.t1Words 3) =
      decRegion n (traverseMovesOnLineBad.regionWords n)) ∧ traverseMovesOnLineBad.trav.t1.done + 1 < traverseMovesOnLineBad.passTotal Tier.t1 ∧
      (decPast 3 (traverseMovesOnLineBad.t1Words 3)).cls = LineClass.corrected ∧ traverseMovesOnLineBad.md.restrict.witnessExpired = false) ∧
    (suspectSt.mayTraverse Tier.t1 = true ∧ suspectSt.trav.t1.esc = false ∧ suspectSt.BankGrants (some (suspectSt.placeBank (suspectSt.t1Place
      suspectSt.trav.t1.done))) suspectSt.trav.t1.req ∧ ((∃ a, suspectSt.t1Place suspectSt.trav.t1.done = T1Place.line a ∧ decRegion 7
      (svc.regionWords 7) = decPast a (suspectSt.t1Words a)) ∨ (∃ g a, suspectSt.t1Place suspectSt.trav.t1.done = T1Place.gap g a ∧ decRegion 7
      (svc.regionWords 7) = decPast a (suspectSt.t1.physWords (suspectSt.gapLine g))) ∨ ∃ n, suspectSt.t1Place suspectSt.trav.t1.done =
      T1Place.region n ∧ decRegion 7 (svc.regionWords 7) = decRegion n (suspectSt.regionWords n)) ∧ suspectSt.trav.t1.done + 1 = suspectSt.passTotal
      Tier.t1 ∧ (decRegion 7 (svc.regionWords 7)).cls = LineClass.clean ∧ rising suspectSt.comp.wrongCells = true) := by
  refine ⟨?_, ?_, ?_, ?_, ?_⟩ <;> and_intros <;> first
    | decide +kernel
    | exact Or.inr (Or.inr ⟨7, by decide +kernel, by decide +kernel⟩)
    | exact Or.inl ⟨3, by decide +kernel, by decide +kernel⟩
    | exact Or.inr (Or.inr ⟨2097151, by decide +kernel, by decide +kernel⟩)

def sensorsAreSampled1 := levelSt (1 : BitVec 2) (some (0 : Stamp))
theorem witness_SensorsAreSampled :
    (hottest svc.part 0 [(600 : ℤ)] = some (0, (600 : ℤ)) ∧ svc.clk.run = true) ∧
    (readingOf svc.comp.valid (List.map (fun k ↦ if (svc.comp.valid.getLsbD k && !svc.checking == some k) = true then axesMagnitude (lgetD (List.map
      axesClamped [axis (0 : ℤ), axis (0 : ℤ), axis (0 : ℤ)]) k { x := (0 : ℤ), y := (0 : ℤ), z := (0 : ℤ) }) else lgetD svc.comp.mags k 0)
      (List.range 3)) = some (0, 0) ∧ svc.compassOn = true ∧ svc.comp.up 0 ≤ svc.comp.level.toNat ∧ svc.comp.sampled = true ∧ (decide (0 <
      svc.comp.level.toNat) && decide (0 < svc.comp.falling svc.comp.level.toNat)) = false) ∧
    (readingOf svc.comp.valid (List.map (fun k ↦ if (svc.comp.valid.getLsbD k && !svc.checking == some k) = true then axesMagnitude (lgetD (List.map
      axesClamped [axis (0 : ℤ), axis (0 : ℤ), axis (900 : ℤ)]) k { x := (0 : ℤ), y := (0 : ℤ), z := (0 : ℤ) }) else lgetD svc.comp.mags k 0)
      (List.range 3)) = some (2, 900) ∧ svc.compassOn = true ∧ svc.comp.level.toNat < svc.comp.up 900 ∧ (svc.t0.pool.all fun x ↦ !decide (x.st =
      SlotState.pinned)) = true) ∧
    (svc.clk.run = true ∧ svc.md.mode = Mode.service ∧ svc.comp.valid.getLsbD 0 = true ∧ svc.checking = none) ∧
    (readingOf sensorsAreSampled1.comp.valid (List.map (fun k ↦ if (sensorsAreSampled1.comp.valid.getLsbD k && !sensorsAreSampled1.checking == some
      k) = true then axesMagnitude (lgetD (List.map axesClamped [axis (0 : ℤ), axis (0 : ℤ), axis (0 : ℤ)]) k
      { x := (0 : ℤ), y := (0 : ℤ), z := (0 : ℤ) }) else lgetD sensorsAreSampled1.comp.mags k 0) (List.range 3)) = some (0, 0) ∧
      sensorsAreSampled1.compassOn = true ∧ sensorsAreSampled1.comp.up 0 ≤ sensorsAreSampled1.comp.level.toNat ∧ sensorsAreSampled1.comp.sampled =
      true ∧ (decide (0 < sensorsAreSampled1.comp.level.toNat) && decide (0 < sensorsAreSampled1.comp.falling sensorsAreSampled1.comp.level.toNat)) =
      true ∧ sensorsAreSampled1.since (sensorsAreSampled1.comp.belowSince.getD sensorsAreSampled1.clk.ts) (100 * msec) = true ∧
      sensorsAreSampled1.Quiet ∧ sensorsAreSampled1.md.mode = Mode.service) ∧
    (readingOf (levelSt (3 : BitVec 2) none).comp.valid (List.map (fun k ↦ if ((levelSt (3 : BitVec 2) none).comp.valid.getLsbD k && !(levelSt (3 :
      BitVec 2) none).checking == some k) = true then axesMagnitude (lgetD (List.map axesClamped [axis (0 : ℤ), axis (0 : ℤ), axis (0 : ℤ)]) k
      { x := (0 : ℤ), y := (0 : ℤ), z := (0 : ℤ) }) else lgetD (levelSt (3 : BitVec 2) none).comp.mags k 0) (List.range 3)) = some (0, 0) ∧ (levelSt
      (3 : BitVec 2) none).compassOn = true ∧ (levelSt (3 : BitVec 2) none).comp.up 0 ≤ (levelSt (3 : BitVec 2) none).comp.level.toNat ∧ (levelSt (3
      : BitVec 2) none).comp.sampled = true ∧ (decide (0 < (levelSt (3 : BitVec 2) none).comp.level.toNat) && decide (0 < (levelSt (3 : BitVec 2)
      none).comp.falling (levelSt (3 : BitVec 2) none).comp.level.toNat)) = true ∧ (levelSt (3 : BitVec 2) none).since ((levelSt (3 : BitVec 2)
      none).comp.belowSince.getD (levelSt (3 : BitVec 2) none).clk.ts) (100 * msec) = false) := by
  refine ⟨?_, ?_, ?_, ?_, ?_, ?_⟩ <;> and_intros <;> decide +kernel

theorem witness_TideSetsTheBudget :
    (svc.gaugeOn = true ∧ ((0 : ℤ) ≤ (0 : ℤ) ∨ (20000000 : ℤ) < (0 : ℤ))) ∧
    (svc.gaugeOn = true ∧ (0 : ℤ) < (1 : ℤ) ∧ (1 : ℤ) ≤ (20000000 : ℤ)) := by
  refine ⟨?_, ?_⟩ <;> and_intros <;> decide +kernel

def commitsRunToTheirReport1 := commitSt false CommitPhase.validating
def commitsRunToTheirReport2 := lowCeilingOf (commitSt true CommitPhase.persisting)
def commitsRunToTheirReport3 := inhibitOf commitsRunToTheirReport1
def commitsRunToTheirReport4 := commitSt false CommitPhase.persisting
theorem witness_CommitsRunToTheirReport :
    ((commitsRunToTheirReport1.commit).any (fun x => decide (commitsRunToTheirReport1.stewardUp = true ∧ x.phase = CommitPhase.validating ∧ x.isPlan
      = false ∧ commitsRunToTheirReport1.validateCad.code = 0 ∧ (commitsRunToTheirReport1.part.dense && decide (2 ≤
      commitsRunToTheirReport1.comp.level.toNat)) = false)) = true) ∧
    ((commitsRunToTheirReport3.commit).any (fun x => decide (commitsRunToTheirReport3.stewardUp = true ∧ x.phase = CommitPhase.validating ∧ x.isPlan
      = false ∧ commitsRunToTheirReport3.validateCad.code = 0 ∧ (commitsRunToTheirReport3.part.dense && decide (2 ≤
      commitsRunToTheirReport3.comp.level.toNat)) = true)) = true) ∧
    ((commitsRunToTheirReport4.commit).any (fun x => decide (commitsRunToTheirReport4.stewardUp = true ∧ x.phase = CommitPhase.persisting ∧ x.isPlan
      = false ∧ commitsRunToTheirReport4.md.mode = Mode.service ∧ commitsRunToTheirReport4.charterReady 97 = true)) = true) ∧
    ((commitsRunToTheirReport2.commit).any (fun x => decide (commitsRunToTheirReport2.stewardUp = true ∧ x.phase = CommitPhase.persisting ∧
      commitsRunToTheirReport2.md.mode = Mode.service ∧ commitsRunToTheirReport2.charterReady 97 = false)) = true) ∧
    (((commitSt false CommitPhase.reporting).commit).any (fun x => decide ((commitSt false CommitPhase.reporting).stewardUp = true ∧ x.phase =
      CommitPhase.reporting ∧ x.isPlan = false)) = true) ∧
    ((badPlanSt.commit).any (fun x => decide (badPlanSt.stewardUp = true ∧ x.phase = CommitPhase.validating ∧ x.isPlan = true ∧
      ¬badPlanSt.validatePlan.1 = 0)) = true) ∧
    ((sealPlanSt.commit).any (fun x => decide (sealPlanSt.stewardUp = true ∧ x.phase = CommitPhase.persisting ∧ x.isPlan = true ∧ sealPlanSt.md.mode
      = Mode.service ∧ sealPlanSt.charterReady 97 = true)) = true) ∧
    ((heldBellSt.commit).any (fun x => decide (heldBellSt.stewardUp = true ∧ x.phase = CommitPhase.reporting ∧ x.isPlan = true)) = true) ∧
    ((badCadSt.commit).any (fun x => decide (badCadSt.stewardUp = true ∧ x.phase = CommitPhase.validating ∧ x.isPlan = false ∧
      ¬badCadSt.validateCad.code = 0)) = true) ∧
    ((goodPlanSt.commit).any (fun x => decide (goodPlanSt.stewardUp = true ∧ x.phase = CommitPhase.validating ∧ x.isPlan = true ∧
      goodPlanSt.validatePlan.1 = 0 ∧ (goodPlanSt.part.dense && decide (2 ≤ goodPlanSt.comp.level.toNat)) = false)) = true) ∧
    (((inhibitOf goodPlanSt).commit).any (fun x => decide ((inhibitOf goodPlanSt).stewardUp = true ∧ x.phase = CommitPhase.validating ∧ x.isPlan =
      true ∧ (inhibitOf goodPlanSt).validatePlan.1 = 0 ∧ ((inhibitOf goodPlanSt).part.dense && decide (2 ≤ (inhibitOf goodPlanSt).comp.level.toNat))
      = true)) = true) := by
  refine ⟨?_, ?_, ?_, ?_, ?_, ?_, ?_, ?_, ?_, ?_, ?_⟩ <;> and_intros <;> decide +kernel

theorem witness_CommitCommandsStart :
    (svc.commit = none ∧ svc.DexOpen (0 : Port) ∧ svc.verdict (3 : Fin 5) (tableAddr 3 0) (4093 : Holder) 1 = none) ∧
    (svc.commit = none ∧ svc.DexOpen (0 : Port) ∧ svc.verdict (3 : Fin 5) 192 (4093 : Holder) 1 = none) ∧
    (svc.commit = none ∧ svc.RegOpen Path.mailbox 192) := by
  refine ⟨?_, ?_, ?_⟩ <;> and_intros <;> decide +kernel

theorem witness_MailboxCommandsAnswer :
    (svc.mboxUp (0 : Port) = true ∧ (∀ h ∈ ([] : List (BitVec 16)), ∃ x ∈ (lgetD svc.mbox.logs (0) CxlLog.empty).records, x.1 = h)) ∧
    (svc.mboxUp (0 : Port) = true ∧ ([(1 : BitVec 16)]).any (fun x => decide ((∀ x_1 ∈ (lgetD svc.mbox.logs (0) CxlLog.empty).records, ¬x_1.1 = x)))
      = true) ∧
    (svc.mboxUp (0 : Port) = true ∧ svc.mbox.time = none) ∧
    (svc.mboxUp (0 : Port) = true ∧ ¬(0 : BitVec 128) = celUuid) ∧
    (svc.mboxUp (0 : Port) = true ∧ (svc.part = Part.rbk9216E ∨ svc.part = Part.rbk9216)) ∧
    (svc.mboxUp (0 : Port) = true ∧ (1 : BitVec 16) ∉ mailboxOpcodes) ∧
    (timedSt.mboxUp (0 : Port) = true ∧ (timedSt.mbox.time).isSome = true) ∧
    ((partSt Part.rbk9208).mboxUp (0 : Port) = true ∧ (partSt Part.rbk9208).part = Part.rbk9208) ∧
    ((partSt Part.rbk9204).mboxUp (0 : Port) = true ∧ (partSt Part.rbk9204).part = Part.rbk9204) := by
  refine ⟨?_, ?_, ?_, ?_, ?_, ?_, ?_, ?_, ?_⟩ <;> and_intros <;> first
    | (intro _ h; cases h; done)
    | decide +kernel

theorem witness_FirmwareCommands :
    (fwSt.FwOpen (0 : Port) ∧ fwSt.stew.slotB = !true ∧ (2 : Byte) = (if true = true then (2 : Byte) else (1 : Byte)) ∧ ([] : List Nat).length ≤ 3968
      ∧ fwSt.stew.xfer = none ∧ ¬fwSt.stew.writing = some !true) ∧
    (fwSt.FwOpen (0 : Port) ∧ fwSt.stew.slotB = !true ∧ (2 : Byte) = (if true = true then (2 : Byte) else (1 : Byte)) ∧ ([] : List Nat).length ≤ 3968
      ∧ (fwSt.bootable true).any (fun x => decide (BitVec.toNat fwSt.stew.boot0.gen < 2 ^ 32 - 1 ∧ BitVec.toNat fwSt.stew.boot1.gen < 2 ^ 32 - 1 ∧
      x.installUcode = false ∧ fwSt.fitsUcode x = true ∧ fwSt.tbl.latch = none)) = true) ∧
    (fwSt.FwOpen (0 : Port) ∧ fwSt.stew.slotB = !true ∧ (2 : Byte) = (if true = true then (2 : Byte) else (1 : Byte)) ∧ ([] : List Nat).length ≤ 3968
      ∧ (fwSt.bootable true).any (fun x => decide (BitVec.toNat fwSt.stew.boot0.gen < 2 ^ 32 - 1 ∧ BitVec.toNat fwSt.stew.boot1.gen < 2 ^ 32 - 1)) =
      true) ∧
    (transferSt.FwOpen (0 : Port) ∧ transferSt.stew.slotB = !true ∧ (2 : Byte) = (if true = true then (2 : Byte) else (1 : Byte)) ∧ ([] : List
      Nat).length ≤ 3968 ∧ (transferSt.stew.xfer).any (fun x => decide (x.path = Path.mailbox ∧ x.slotB = true ∧ ¬transferSt.stew.writing = some
      !true)) = true) := by
  refine ⟨?_, ?_, ?_, ?_⟩ <;> and_intros <;> decide +kernel

theorem witness_DexarisAccess :
    (svc.DexOpen (0 : Port) ∧ (readPayload 48 1).length = 4 ∧ num (readPayload 48 1) 0 2 = 48 ∧ num (readPayload 48 1) 2 2 = 1 ∧ 48 % 4 = 0 ∧ 1 ≤ 1 ∧
      1 ≤ 256 ∧ 48 + 4 * 1 ≤ 1024 ∧ (∀ k < 17, svc.verdict (3 : Fin 5) ((48 / 64 : ℕ) * 64 + k * 64) (4093 : Holder) 0 = none) ∧ (48 + 4 * 1 ≤ 452 ∨
      452 < 48) ∧ parBytes (wordBytes (List.map (fun i ↦ svc.reg (48 + 4 * i)) (List.range 1))) oneFlip = none) ∧
    (svc.DexOpen (0 : Port) ∧ (sramPayload writePayload twoFlips).2.any badLine = true) ∧
    (svc.DexOpen (0 : Port) ∧ writePayload.length = 12 ∧ num writePayload 0 2 = 52 ∧ num writePayload 2 2 = 1 ∧ svc.verdict (3 : Fin 5) 0 (4093 :
      Holder) 1 = none) ∧
    (svc.DexOpen (0 : Port) ∧ (tablePayload 6 500 1).length = 8 ∧ byteAt (tablePayload 6 500 1) 0 = 6 ∧ num (tablePayload 6 500 1) 2 2 = 500 ∧ num
      (tablePayload 6 500 1) 4 2 = 1 ∧ 1 ≤ 6 ∧ 6 ≤ 13 ∧ 500 < (tableSize 6).getD 0 ∧ svc.readNotReady 6 500 = false ∧ svc.verdict (entryGate 6 500).1
      (entryGate 6 500).2 (4093 : Holder) 0 = none ∧ svc.badWord 6 500 = none) ∧
    (svc.DexOpen (0 : Port) ∧ (entryPayload 1 4095).length = 64 ∧ byteAt (entryPayload 1 4095) 0 = 1 ∧ num (entryPayload 1 4095) 2 2 = 4095 ∧ num
      (entryPayload 1 4095) 4 2 = 1 ∧ 4095 < 4096 ∧ svc.verdict (3 : Fin 5) (tableAddr 1 4095) (4093 : Holder) 1 = none ∧ svc.writeRefusal 1 4095 =
      none) ∧
    (svc.DexOpen (0 : Port) ∧ (entryPayload 1 4095).length = 64 ∧ num (entryPayload 1 4095) 2 2 = 4095 ∧ num (entryPayload 1 4095) 4 2 = 1 ∧ 1 ≤ 4095
      ∧ 4095 < 4096 ∧ svc.verdict (3 : Fin 5) (tableAddr 3 4095) (4093 : Holder) 1 = none ∧ svc.writeRefusal 3 4095 = none) := by
  refine ⟨?_, ?_, ?_, ?_, ?_, ?_⟩ <;> and_intros <;> decide +kernel

def releaseAndCapacity1 := releaseSt ReleasePhase.prepare
theorem witness_ReleaseAndCapacity :
    (svc.DexOpen (0 : Port) ∧ svc.part.dense = true ∧ (runPayload 7 1).length = 16 ∧ num (runPayload 7 1) 0 2 = 1 ∧ num (runPayload 7 1) 8 4 = 7 ∧
      num (runPayload 7 1) 12 4 = 1 ∧ 1 ≤ 1 ∧ 7 + 1 ≤ svc.part.tiles ∧ (∀ (tile i : ℕ), 7 ≤ tile → tile < 7 + 1 → i < 64 → svc.verdict (2 : Fin 5)
      (denseBase + tile * 4096 + i * 64) (4093 : Holder) 1 = none)) ∧
    ((releaseAndCapacity1.t2.release).any (fun x => decide (x.phase = ReleasePhase.prepare ∧ releaseAndCapacity1.stewardUp = true ∧
      releaseAndCapacity1.md.mode = Mode.service ∧ releaseAndCapacity1.comp.level.toNat < 2)) = true) ∧
    (((releaseSt ReleasePhase.persisted).t2.release).any (fun x => decide (x.phase = ReleasePhase.persisted ∧ (releaseSt
      ReleasePhase.persisted).clk.run = true)) = true) ∧
    (((releaseSt ReleasePhase.cleanup).t2.release).any (fun x => decide (x.phase = ReleasePhase.cleanup ∧ (releaseSt ReleasePhase.cleanup).stewardUp
      = true)) = true) := by
  refine ⟨?_, ?_, ?_, ?_⟩ <;> and_intros <;> first
    | decide +kernel
    | exact fun tile i h1 h2 h3 => by
        have e : tile = 7 := by omega
        subst e
        exact (by decide +kernel : ∀ i < 64, svc.verdict (2 : Fin 5) (denseBase + 7 * 4096 + i * 64) (4093 : Holder) 1 = none) i h3

def keyCommandsSt0 : State :=
  {keySt with own := ⟨some .strait, 0⟩}
def keyCommandsSt1 : State :=
  {busyStore keySt with own := ⟨some .strait, 0⟩}
theorem witness_KeyCommands :
    (keySt.part.encrypt = true ∧ 3 < 256 ∧ keySt.md.restrict.fieldRo = false ∧ keySt.verdict (3 : Fin 5) (tableAddr 13 3) (4093 : Holder) 1 = none ∧
      keySt.DexOpen (0 : Port) ∧ (payload8 3).length = 8 ∧ byteAt (payload8 3) 0 = 3 ∧ ¬(keySt.keySlot 3).state = 0 ∧ rising keySt.keys.slots = true
      ∧ rising keySt.keys.records = true) ∧
    (keySt.part.encrypt = true ∧ 255 < 256 ∧ keySt.md.restrict.fieldRo = false ∧ keySt.verdict (3 : Fin 5) (tableAddr 13 255) (4093 : Holder) 1 =
      none ∧ keySt.DexOpen (0 : Port) ∧ (payload8 255).length = 8 ∧ byteAt (payload8 255) 0 = 255 ∧ keySt.ent.ready = true ∧ (keySt.keySlot
      255).state = 0 ∧ keySt.recordAsked 255 = false ∧ keySt.keyHeld 255 = false ∧ rising keySt.keys.records = true ∧ keyAddr 255 ≤ keyAddr 255 / 128
      * 128 + 100 ∧ keyAddr 255 / 128 * 128 + 100 < keyAddr 255 + 32 ∧ keySt.RecordNow) ∧
    (keySt.part.encrypt = true ∧ 255 < 256 ∧ keySt.md.restrict.fieldRo = false ∧ keySt.verdict (3 : Fin 5) (tableAddr 13 255) (4093 : Holder) 1 =
      none ∧ keySt.DexOpen (0 : Port) ∧ (blobPayload 0).length = 184 ∧ byteAt (blobPayload 0) 0 = 255 ∧ num (blobPayload 0) 2 2 = 176 ∧
      (keySt.keySlot 255).state = 0 ∧ keySt.recordAsked 255 = false ∧ keySt.keyHeld 255 = false ∧ keySt.RecordNow) ∧
    (keyCommandsSt0.part.encrypt = true ∧ 3 < 256 ∧ keyCommandsSt0.md.restrict.fieldRo = false ∧ keyCommandsSt0.verdict (3 : Fin 5) (tableAddr 13 3)
      (4093 : Holder) 1 = none ∧ keyCommandsSt0.EntryOpen Path.strait 13 3 ∧ ¬(keyCommandsSt0.keySlot 3).state = 0 ∧ rising keyCommandsSt0.keys.slots
      = true ∧ rising keyCommandsSt0.keys.records = true) ∧
    (keyCommandsSt0.part.encrypt = true ∧ 255 < 256 ∧ keyCommandsSt0.md.restrict.fieldRo = false ∧ keyCommandsSt0.verdict (3 : Fin 5) (tableAddr 13
      255) (4093 : Holder) 1 = none ∧ keyCommandsSt0.EntryOpen Path.strait 13 255 ∧ keyCommandsSt0.ent.ready = true ∧ (keyCommandsSt0.keySlot
      255).state = 0 ∧ keyCommandsSt0.recordAsked 255 = false ∧ keyCommandsSt0.keyHeld 255 = false ∧ rising keyCommandsSt0.keys.records = true ∧
      keyAddr 255 ≤ keyAddr 255 / 128 * 128 + 100 ∧ keyAddr 255 / 128 * 128 + 100 < keyAddr 255 + 32 ∧ keyCommandsSt0.RecordNow) ∧
    (heldKeySt.part.encrypt = true ∧ 255 < 256 ∧ heldKeySt.md.restrict.fieldRo = false ∧ heldKeySt.verdict (3 : Fin 5) (tableAddr 13 255) (4093 :
      Holder) 1 = none ∧ heldKeySt.DexOpen (0 : Port) ∧ (payload8 255).length = 8 ∧ byteAt (payload8 255) 0 = 255 ∧ heldKeySt.ent.ready = true ∧
      (heldKeySt.keySlot 255).state = 0 ∧ heldKeySt.recordAsked 255 = false ∧ heldKeySt.keyHeld 255 = false ∧ rising heldKeySt.keys.records = true ∧
      ¬heldKeySt.RecordNow) ∧
    (keyCommandsSt1.part.encrypt = true ∧ 255 < 256 ∧ keyCommandsSt1.md.restrict.fieldRo = false ∧ keyCommandsSt1.verdict (3 : Fin 5) (tableAddr 13
      255) (4093 : Holder) 1 = none ∧ keyCommandsSt1.EntryOpen Path.strait 13 255 ∧ keyCommandsSt1.ent.ready = true ∧ (keyCommandsSt1.keySlot
      255).state = 0 ∧ keyCommandsSt1.recordAsked 255 = false ∧ keyCommandsSt1.keyHeld 255 = false ∧ rising keyCommandsSt1.keys.records = true ∧
      ¬keyCommandsSt1.RecordNow) := by
  refine ⟨?_, ?_, ?_, ?_, ?_, ?_, ?_⟩ <;> and_intros <;> decide +kernel

def straitFrames1 := BitVec.toNat (0 : Byte) + 256 * BitVec.toNat (0 : Byte)
theorem witness_StraitFrames :
    (stratSt.md.mode = Mode.service ∧ stratSt.straitServes = true ∧ (stratSt.strap.msel = true → ([] : List Nat) = []) ∧ straitFrames1 % 4 = 0 ∧
      BitVec.toNat (0 : Byte) + 256 * BitVec.toNat (0 : Byte) ≤ 1020 ∧ 1 ≤ BitVec.toNat (1 : Byte) ∧ BitVec.toNat (1 : Byte) ≤ 16 ∧ straitFrames1 /
      64 = (BitVec.toNat (0 : Byte) + 256 * BitVec.toNat (0 : Byte) + 4 * (BitVec.toNat (1 : Byte) - 1)) / 64 ∧ stratSt.verdict (3 : Fin 5)
      (straitFrames1 / 64 * 64) (4094 : Holder) 0 = none ∧ (BitVec.toNat (0 : Byte) + 256 * BitVec.toNat (0 : Byte) + 4 * BitVec.toNat (1 : Byte) ≤
      452 ∨ 452 < BitVec.toNat (0 : Byte) + 256 * BitVec.toNat (0 : Byte)) ∧ parWords (List.map (fun i ↦ (stratSt.touch Path.strait).reg
      (BitVec.toNat (0 : Byte) + 256 * BitVec.toNat (0 : Byte) + 4 * i)) (List.range (BitVec.toNat (1 : Byte)))) [] = some (List.map (fun i ↦
      (stratSt.touch Path.strait).reg (BitVec.toNat (0 : Byte) + 256 * BitVec.toNat (0 : Byte) + 4 * i)) (List.range (BitVec.toNat (1 : Byte))))) ∧
    (stratSt.md.mode = Mode.service ∧ stratSt.straitServes = true ∧ (stratSt.strap.msel = true → ([] : List Nat) = []) ∧ straitFrames1 % 4 = 0 ∧
      BitVec.toNat (0 : Byte) + 256 * BitVec.toNat (0 : Byte) ≤ 1020 ∧ 1 ≤ BitVec.toNat (1 : Byte) ∧ BitVec.toNat (1 : Byte) ≤ 16 ∧ straitFrames1 /
      64 = (BitVec.toNat (0 : Byte) + 256 * BitVec.toNat (0 : Byte) + 4 * (BitVec.toNat (1 : Byte) - 1)) / 64 ∧ stratSt.verdict (3 : Fin 5)
      (straitFrames1 / 64 * 64) (4094 : Holder) 0 = none ∧ (BitVec.toNat (0 : Byte) + 256 * BitVec.toNat (0 : Byte) + 4 * BitVec.toNat (1 : Byte) ≤
      452 ∨ 452 < BitVec.toNat (0 : Byte) + 256 * BitVec.toNat (0 : Byte)) ∧ parWords (List.map (fun i ↦ (stratSt.touch Path.strait).reg
      (BitVec.toNat (0 : Byte) + 256 * BitVec.toNat (0 : Byte) + 4 * i)) (List.range (BitVec.toNat (1 : Byte)))) [(1, 3)] = none) ∧
    (stratSt.md.mode = Mode.service ∧ stratSt.straitServes = true ∧ (stratSt.strap.msel = true → ([] : List Nat) = []) ∧ stratSt.own.holder = some
      Path.strait ∧ stratSt.md.restrict.versionLimited = false ∧ stratSt.verdict (3 : Fin 5) 0 (4094 : Holder) 1 = none) ∧
    (stratSt.md.mode = Mode.service ∧ ¬(0 : Byte) = (2 : Byte) ∧ stratSt.straitServes = true ∧ frameOutside (BitVec.toNat (0 : Byte)) straitFrames1
      (BitVec.toNat (0 : Byte)) = true) ∧
    (svc.md.mode = Mode.service ∧ svc.straitServes = true ∧ frameBad svc.strap.msel [] = true) ∧
    (joinSt.md.mode = Mode.service ∧ joinSt.straitServes = false) ∧
    ((notReadySt true).md.mode = Mode.service ∧ (notReadySt true).clk.run = true ∧ (notReadySt true).strait.ready = false ∧ (notReadySt
      true).strap.msel = true) ∧
    ((notReadySt false).md.mode = Mode.service ∧ (notReadySt false).clk.run = true ∧ (notReadySt false).strait.ready = false ∧ (notReadySt
      false).strap.msel = false) := by
  refine ⟨?_, ?_, ?_, ?_, ?_, ?_, ?_, ?_⟩ <;> and_intros <;> decide +kernel

theorem witness_I3cTargetIsAddressed :
    (i3cSt.Addressed (50 : BitVec 7)) ∧
    (i3cSt.i3cUp = true ∧ (53 : BitVec 7) = (48 : BitVec 7) + BitVec.setWidth 7 i3cSt.strap.saddr) ∧
    (joinSt.i3cUp = true ∧ joinSt.i3c.addr = none) := by
  refine ⟨?_, ?_, ?_⟩ <;> and_intros <;> decide +kernel

theorem witness_I3cTargetAnswers :
    (i3cSt.Addressed (50 : BitVec 7) ∧ ¬i3cSt.strait.response = []) ∧
    (i3cSt.Addressed (50 : BitVec 7) ∧ BitVec.toNat (0 : Byte) ≤ 2) ∧
    (i3cSt.Addressed (50 : BitVec 7) ∧ 2 < BitVec.toNat (3 : Byte)) ∧
    (i3cSt.Addressed (50 : BitVec 7) ∧ (2 : Byte) ∉ i3cSupported) ∧
    (silentSt.Addressed (50 : BitVec 7) ∧ silentSt.strait.response = []) ∧
    (armedSt.Addressed (50 : BitVec 7) ∧ ¬armedSt.i3c.rstAct = (0 : Byte)) := by
  refine ⟨?_, ?_, ?_, ?_, ?_, ?_⟩ <;> and_intros <;> decide +kernel

def i3cTargetRequestsSt0 : State :=
  {flagSt false with i3c := {(flagSt false).i3c with ibiSeen := 0x800000}}
theorem witness_I3cTargetRequests :
    (i3cSt.i3cUp = true ∧ i3cSt.enabledFlags &&& ~~~(i3cSt.i3c.ibiSeen ||| i3cSt.i3c.withdrawn) = (0 : BitVec 24)) ∧
    (joinSt.i3cUp = true ∧ (joinSt.i3c.hotJoin).any (fun x => decide (joinSt.since x msec = true ∧ joinSt.i3c.hjEn = true ∧ joinSt.i3c.hjStopped =
      false ∧ joinSt.i3c.addr = none)) = true) ∧
    (armedSt.i3cUp = true ∧ armedSt.i3c.intEn = true ∧ armedSt.i3c.addr.isSome = true ∧ armedSt.i3c.ibi = true ∧ ¬armedSt.enabledFlags = (0 : BitVec
      24)) ∧
    (i3cTargetRequestsSt0.i3cUp = true ∧ nat_lit 23 < 24 ∧ i3cTargetRequestsSt0.enabledFlags.getLsbD (nat_lit 23) = true ∧ (∀ j < nat_lit 23,
      i3cTargetRequestsSt0.enabledFlags.getLsbD j = false)) ∧
    ((flagSt false).i3cUp = true ∧ (flagSt false).i3c.intEn = true ∧ (flagSt false).i3c.addr.isSome = true ∧ (flagSt false).i3c.ibi = false ∧
      ¬(flagSt false).enabledFlags &&& ~~~((flagSt false).i3c.ibiSeen ||| (flagSt false).i3c.withdrawn) = (0 : BitVec 24)) := by
  refine ⟨?_, ?_, ?_, ?_, ?_⟩ <;> and_intros <;> decide +kernel

theorem witness_OwnerPassesOneAtATime :
    (svc.pathUp Path.strait = true ∧ svc.md.mode = Mode.service ∧ svc.md.restrict.versionLimited = false ∧ svc.stew.restarting = false ∧ svc.verdict
      (3 : Fin 5) 0 (pathHolder Path.strait) 1 = none ∧ (svc.own.holder).any (fun x => decide (¬x = Path.strait ∧ ¬(Path.strait = Path.strait ∧
      svc.evt.cyc.mboxClaim = true))) = true) ∧
    (svc.pathUp Path.strait = true ∧ svc.md.mode = Mode.service ∧ svc.md.restrict.versionLimited = false ∧ svc.stew.restarting = false ∧ svc.verdict
      (3 : Fin 5) 0 (pathHolder Path.strait) 1 = none ∧ (svc.own.holder).any (fun x => decide (svc.since svc.own.last 1600000000 = true ∧ (x =
      Path.mailbox → svc.mbox.background = none))) = true) ∧
    (svc.pathUp Path.mailbox = true ∧ svc.md.mode = Mode.service ∧ svc.md.restrict.versionLimited = false ∧ svc.stew.restarting = false ∧ svc.verdict
      (3 : Fin 5) 0 (pathHolder Path.mailbox) 1 = none ∧ svc.own.holder = some Path.mailbox) ∧
    (freeSt.pathUp Path.strait = true ∧ freeSt.md.mode = Mode.service ∧ freeSt.md.restrict.versionLimited = false ∧ freeSt.stew.restarting = false ∧
      freeSt.verdict (3 : Fin 5) 0 (pathHolder Path.strait) 1 = none ∧ freeSt.own.holder = none) ∧
    (claimedSt.pathUp Path.strait = true ∧ claimedSt.md.mode = Mode.service ∧ claimedSt.md.restrict.versionLimited = false ∧
      claimedSt.stew.restarting = false ∧ claimedSt.verdict (3 : Fin 5) 0 (pathHolder Path.strait) 1 = none ∧ claimedSt.own.holder = some
      Path.mailbox ∧ Path.strait = Path.strait ∧ claimedSt.evt.cyc.mboxClaim = true) := by
  refine ⟨?_, ?_, ?_, ?_, ?_⟩ <;> and_intros <;> decide +kernel

def flagsAndPlainRegisters1 := latchSt (1 : BitVec 4) (1 : Byte) (0 : BitVec 16) false
theorem witness_FlagsAndPlainRegisters :
    (svc.RegOpen Path.mailbox 48) ∧
    (svc.RegOpen Path.mailbox 128 ∧ (Path.mailbox = Path.mailbox → svc.evt.cyc.straitSel = false ∧ svc.evt.cyc.straitIndex = false) ∧ svc.tbl.busy =
      false) ∧
    (svc.RegOpen Path.mailbox 480) ∧
    (svc.RegOpen Path.mailbox 452 ∧ svc.verdict (3 : Fin 5) 448 (pathHolder Path.mailbox) 0 = none ∧ svc.ent.ready = true) ∧
    (flagsAndPlainRegisters1.RegOpen Path.mailbox 128 ∧ (Path.mailbox = Path.mailbox → flagsAndPlainRegisters1.evt.cyc.straitSel = false ∧
      flagsAndPlainRegisters1.evt.cyc.straitIndex = false) ∧ flagsAndPlainRegisters1.tbl.busy = true) := by
  refine ⟨?_, ?_, ?_, ?_, ?_⟩ <;> and_intros <;> decide +kernel

def modeControlSt0 : State :=
  {commitSt true .persisting with own := ⟨some .mailbox, 0⟩}
theorem witness_ModeControl :
    (svc.RegOpen Path.mailbox 36 ∧ svc.dormantFails = none) ∧
    (svc.RegOpen Path.mailbox 36 ∧ svc.md.lock = false) ∧
    ((expiredSt true).RegOpen Path.mailbox 36 ∧ (expiredSt true).md.restrict.witnessExpired = true ∧ (expiredSt true).trav.passSinceExpired = true) ∧
    ((expiredSt false).RegOpen Path.mailbox 36 ∧ (expiredSt false).md.restrict.witnessExpired = true ∧ (expiredSt false).trav.passSinceExpired =
      false) ∧
    (lockedSt.RegOpen Path.mailbox 36 ∧ lockedSt.md.lock = true) ∧
    (modeControlSt0.RegOpen Path.mailbox 36 ∧ ¬modeControlSt0.dormantFails = none) := by
  refine ⟨?_, ?_, ?_, ?_, ?_, ?_⟩ <;> and_intros <;> decide +kernel

theorem witness_RecalledFieldsAndLocks :
    (svc.RegOpen Path.mailbox 92 ∧ svc.tide.lock = false) ∧
    (svc.RegOpen Path.mailbox 112 ∧ (svc.comp.lock = true ∨ ¬(15 ≤ BitVec.toNat (15 : BitVec 10) ∧ BitVec.toNat (15 : BitVec 10) ≤ 30 ∧ 40 ≤
      BitVec.toNat (15 : BitVec 10) ∧ BitVec.toNat (15 : BitVec 10) ≤ 80 ∧ 125 ≤ BitVec.toNat (15 : BitVec 10) ∧ BitVec.toNat (15 : BitVec 10) ≤
      250))) ∧
    (svc.RegOpen Path.mailbox 116 ∧ ¬(60 ≤ BitVec.toNat (59 : Byte) ∧ BitVec.toNat (59 : Byte) ≤ 110)) ∧
    (svc.RegOpen Path.mailbox 392 ∧ ¬(60 ≤ BitVec.toNat (15 : BitVec 10) ∧ BitVec.toNat (15 : BitVec 10) ≤ 480)) ∧
    (svc.RegOpen Path.mailbox 396 ∧ ¬(24 ≤ BitVec.toNat (15 : BitVec 10) ∧ BitVec.toNat (15 : BitVec 10) ≤ 720)) ∧
    (svc.RegOpen Path.mailbox 512 ∧ svc.pwr.lock = false) ∧
    (svc.RegOpen Path.mailbox 116 ∧ 60 ≤ BitVec.toNat (60 : Byte) ∧ BitVec.toNat (60 : Byte) ≤ 110) ∧
    (svc.RegOpen Path.mailbox 392 ∧ 60 ≤ BitVec.toNat (125 : BitVec 10) ∧ BitVec.toNat (125 : BitVec 10) ≤ 480) ∧
    (svc.RegOpen Path.mailbox 396 ∧ 24 ≤ BitVec.toNat (40 : BitVec 10) ∧ BitVec.toNat (40 : BitVec 10) ≤ 720) ∧
    (svc.RegOpen Path.mailbox 112 ∧ svc.comp.lock = false ∧ 15 ≤ BitVec.toNat (15 : BitVec 10) ∧ BitVec.toNat (15 : BitVec 10) ≤ 30 ∧ 40 ≤
      BitVec.toNat (40 : BitVec 10) ∧ BitVec.toNat (40 : BitVec 10) ≤ 80 ∧ 125 ≤ BitVec.toNat (125 : BitVec 10) ∧ BitVec.toNat (125 : BitVec 10) ≤
      250) ∧
    (lockedSt.RegOpen Path.mailbox 92 ∧ lockedSt.tide.lock = true) ∧
    (lockedSt.RegOpen Path.mailbox 512 ∧ lockedSt.pwr.lock = true) := by
  refine ⟨?_, ?_, ?_, ?_, ?_, ?_, ?_, ?_, ?_, ?_, ?_, ?_⟩ <;> and_intros <;> decide +kernel

def registerCommandsSt0 : State :=
  latchSt 1 12 4095 true
def registerCommandsSt1 : State :=
  {stratSt with store := {stratSt.store with page := 24}}
def registerCommands1 := latchSt (3 : BitVec 4) (3 : Byte) (0 : BitVec 16) true
def registerCommands2 := latchSt (4 : BitVec 4) (6 : Byte) (500 : BitVec 16) true
theorem witness_RegisterCommands :
    (svc.RegOpen Path.mailbox 136 ∧ svc.tbl.busy = false) ∧
    (svc.RegOpen Path.mailbox 384) ∧
    ((registerCommandsSt0.tbl.latch).any (fun x => decide (x.inStore = false ∧ registerCommandsSt0.clk.run = true ∧ x.index.toNat < (tableSize
      (BitVec.toNat x.sel)).getD 0 ∧ registerCommandsSt0.readNotReady (BitVec.toNat x.sel) x.index.toNat = false ∧ registerCommandsSt0.badWord
      (BitVec.toNat x.sel) x.index.toNat = none ∧ registerCommandsSt0.verdict (entryGate (BitVec.toNat x.sel) x.index.toNat).1 (entryGate
      (BitVec.toNat x.sel) x.index.toNat).2 (pathHolder x.path) 0 = none ∧ x.cmd = (1 : BitVec 4))) = true) ∧
    (registerCommandsSt0.RegOpen Path.mailbox 136 ∧ registerCommandsSt0.tbl.busy = true ∧ registerCommandsSt0.evt.cyc.mboxCmd = false) ∧
    ((registerCommands2.tbl.latch).any (fun x => decide (x.inStore = false ∧ registerCommands2.clk.run = true ∧ x.index.toNat < (tableSize
      (BitVec.toNat x.sel)).getD 0 ∧ registerCommands2.readNotReady (BitVec.toNat x.sel) x.index.toNat = false ∧ registerCommands2.badWord
      (BitVec.toNat x.sel) x.index.toNat = none ∧ registerCommands2.verdict (entryGate (BitVec.toNat x.sel) x.index.toNat).1 (entryGate (BitVec.toNat
      x.sel) x.index.toNat).2 (pathHolder x.path) 0 = none ∧ x.cmd = (4 : BitVec 4))) = true) ∧
    ((registerCommands1.tbl.latch).any (fun x => decide (x.inStore = false ∧ registerCommands1.clk.run = true ∧ x.cmd = (3 : BitVec 4) ∧
      registerCommands1.verdict (3 : Fin 5) (tableAddr 3 0) (pathHolder x.path) 1 = none ∧ registerCommands1.md.mode = Mode.service ∧
      registerCommands1.commit = none ∧ registerCommands1.stew.restarting = false ∧ registerCommands1.md.restrict.versionLimited = false)) = true) ∧
    (registerCommandsSt1.RegOpen Path.strait 256 ∧ registerCommandsSt1.store.ready = true ∧ registerCommandsSt1.store.busy = false ∧ appliancePage
      registerCommandsSt1.store.page.toNat = true ∧ registerCommandsSt1.md.restrict.fieldRo = false ∧ (∀ i < 8, registerCommandsSt1.verdict (4 : Fin
      5) (registerCommandsSt1.store.page.toNat * 512 + 64 * i) (pathHolder Path.strait) 1 = none)) := by
  refine ⟨?_, ?_, ?_, ?_, ?_, ?_, ?_⟩ <;> and_intros <;> decide +kernel

def entryWritesSt0 : State :=
  {countedSt with own := ⟨some .strait,0⟩}
def entryWrites1 := BitVec.toNat (0 : BitVec 16)
theorem witness_EntryWrites :
    (svc.EntryOpen Path.mailbox 1 entryWrites1) ∧
    (svc.EntryOpen Path.mailbox 2 entryWrites1) ∧
    (svc.EntryOpen Path.mailbox 3 entryWrites1) ∧
    (svc.EntryOpen Path.mailbox 5 entryWrites1 ∧ svc.ferry.chans.length = 64) ∧
    (svc.EntryOpen Path.mailbox 9 entryWrites1 ∧ rising svc.err.banks = true) ∧
    (svc.EntryOpen Path.mailbox 10 entryWrites1 ∧ BitVec.toNat (0 : BitVec 16) < 24 ∧ svc.evt.cnt.length = 24) ∧
    (entryWritesSt0.EntryOpen Path.strait 5 (BitVec.toNat (5 : BitVec 16)) ∧ entryWritesSt0.ferry.chans.length = 64 ∧ (entryWritesSt0.chan
      (BitVec.toNat (5 : BitVec 16))).state.active = true) := by
  refine ⟨?_, ?_, ?_, ?_, ?_, ?_, ?_⟩ <;> and_intros <;> decide +kernel

def storeCommandsStartSt0 : State :=
  mcountSt (BitVec.allOnes 64) 2
def storeCommandsStartSt1 : State :=
  mcountSt (BitVec.allOnes 64 - 2) 2
def storeCommandsStart1 := BitVec.toNat (2050 : BitVec 16)
def storeCommandsStart2 := autoSt (1 : Word) (some 3098)
def storeCommandsStart3 := BitVec.toNat (387 : BitVec 16) / 16 * 128
def storeCommandsStart4 := BitVec.toNat (387 : BitVec 16) * 8
def storeCommandsStart5 := svc.store.view storeCommandsStart1
def storeCommandsStart6 := BitVec.toNat (387 : BitVec 16)
theorem witness_StoreCommandsStart :
    (svc.EntryOpen Path.mailbox 6 storeCommandsStart6 ∧ swAnyWritten svc.store.words storeCommandsStart4 8 = false) ∧
    (svc.EntryOpen Path.mailbox 12 storeCommandsStart1 ∧ ¬storeCommandsStart5.state = 3 ∧ storeCommandsStart5.value.toNat + max 1 (BitVec.toNat (0 :
      BitVec 64)) < 2 ^ 64) ∧
    (svc.EntryOpen Path.mailbox 12 storeCommandsStart1 ∧ ¬storeCommandsStart5.state = 3 ∧ BitVec.toNat (0 : BitVec 64) ≤
      storeCommandsStart5.value.toNat) ∧
    (svc.EntryOpen Path.mailbox 12 storeCommandsStart1 ∧ ¬storeCommandsStart5.state = 3 ∧ storeCommandsStart5.value.toNat < BitVec.toNat (1 : BitVec
      64)) ∧
    ((autoSt (0 : Word) none).EntryOpen Path.mailbox 6 storeCommandsStart6 ∧ swAnyBad (autoSt (0 : Word) none).store.words storeCommandsStart4 8 =
      false ∧ swAnyWritten (autoSt (0 : Word) none).store.words storeCommandsStart4 8 = true ∧ (swBad (autoSt (0 : Word) none).store.words
      storeCommandsStart3 = true ∨ BitVec.getLsbD (swVal (autoSt (0 : Word) none).store.words storeCommandsStart3) 0 = false)) ∧
    ((autoSt (1 : Word) none).EntryOpen Path.mailbox 6 storeCommandsStart6 ∧ swAnyBad (autoSt (1 : Word) none).store.words storeCommandsStart4 8 =
      false ∧ swAnyWritten (autoSt (1 : Word) none).store.words storeCommandsStart4 8 = true ∧ swBad (autoSt (1 : Word) none).store.words
      storeCommandsStart3 = false ∧ BitVec.getLsbD (swVal (autoSt (1 : Word) none).store.words storeCommandsStart3) 0 = true ∧ swAnyBad (autoSt (1 :
      Word) none).store.words storeCommandsStart3 128 = false) ∧
    (storeCommandsStart2.EntryOpen Path.mailbox 6 storeCommandsStart6 ∧ swAnyBad storeCommandsStart2.store.words storeCommandsStart4 8 = true) ∧
    (storeCommandsStart2.EntryOpen Path.mailbox 6 (BitVec.toNat (384 : BitVec 16)) ∧ swAnyBad storeCommandsStart2.store.words (BitVec.toNat (384 :
      BitVec 16) * 8) 8 = false ∧ swAnyWritten storeCommandsStart2.store.words (BitVec.toNat (384 : BitVec 16) * 8) 8 = true ∧ swBad
      storeCommandsStart2.store.words (BitVec.toNat (384 : BitVec 16) / 16 * 128) = false ∧ BitVec.getLsbD (swVal storeCommandsStart2.store.words
      (BitVec.toNat (384 : BitVec 16) / 16 * 128)) 0 = true ∧ swAnyBad storeCommandsStart2.store.words (BitVec.toNat (384 : BitVec 16) / 16 * 128)
      128 = true) ∧
    (storeCommandsStartSt1.EntryOpen Path.mailbox 12 storeCommandsStart1 ∧ ¬(storeCommandsStartSt1.store.view storeCommandsStart1).state = 3 ∧ 2 ^ 64
      ≤ (storeCommandsStartSt1.store.view storeCommandsStart1).value.toNat + max 1 (BitVec.toNat (5 : BitVec 64)) ∧
      ¬(storeCommandsStartSt1.store.view storeCommandsStart1).value = BitVec.allOnes 64) ∧
    ((mcountSt (4 : BitVec 64) 3).EntryOpen Path.mailbox 12 storeCommandsStart1 ∧ ((mcountSt (4 : BitVec 64) 3).store.view storeCommandsStart1).state
      = 3) ∧
    (storeCommandsStartSt0.EntryOpen Path.mailbox 12 storeCommandsStart1 ∧ ¬(storeCommandsStartSt0.store.view storeCommandsStart1).state = 3 ∧
      (storeCommandsStartSt0.store.view storeCommandsStart1).value = BitVec.allOnes 64) := by
  refine ⟨?_, ?_, ?_, ?_, ?_, ?_, ?_, ?_, ?_, ?_, ?_⟩ <;> and_intros <;> decide +kernel

def storeOperationsEnd1 := storeOpSt (StoreOp.mcount 1600 (77 : BitVec 64) false)
theorem witness_StoreOperationsEnd :
    ((storeOpSt (StoreOp.pageProgram 24 [(3097, (7 : Word)), (3100, (8 : Word))])).clk.run = true ∧ (storeOpSt (StoreOp.pageProgram 24 [(3097, (7 :
      Word)), (3100, (8 : Word))])).store.op = some (StoreOp.pageProgram 24 [(3097, (7 : Word)), (3100, (8 : Word))], StoreWait.table) ∧ (storeOpSt
      (StoreOp.pageProgram 24 [(3097, (7 : Word)), (3100, (8 : Word))])).tbl.latch = some
      { path := Path.mailbox, cmd := (2 : BitVec 4), sel := (6 : Byte), index := (387 : BitVec 16), data := (5 : Entry), inStore := false, tell := true } ∧ StoreOp.pageProgram 24 [(3097, (7 : Word)), (3100, (8 : Word))] = StoreOp.pageProgram 24 [(3097, (7 : Word)), (3100, (8 : Word))] ∧ (List.map (fun x ↦ x.1) [(3097, (7 : Word)), (3100, (8 : Word))]).Nodup ∧ 24 * 128 + 25 ∈ List.map (fun x ↦ x.1) [(3097, (7 : Word)), (3100, (8 : Word))]) ∧
    ((storeOpSt (StoreOp.autoPreset 24 [(3097, (7 : Word)), (3100, (8 : Word))])).clk.run = true ∧ (storeOpSt (StoreOp.autoPreset 24 [(3097, (7 :
      Word)), (3100, (8 : Word))])).store.op = some (StoreOp.autoPreset 24 [(3097, (7 : Word)), (3100, (8 : Word))], StoreWait.table) ∧ (storeOpSt
      (StoreOp.autoPreset 24 [(3097, (7 : Word)), (3100, (8 : Word))])).tbl.latch = some
      { path := Path.mailbox, cmd := (2 : BitVec 4), sel := (6 : Byte), index := (387 : BitVec 16), data := (5 : Entry), inStore := false, tell := true } ∧ StoreOp.autoPreset 24 [(3097, (7 : Word)), (3100, (8 : Word))] = StoreOp.autoPreset 24 [(3097, (7 : Word)), (3100, (8 : Word))] ∧ (List.map (fun x ↦ x.1) [(3097, (7 : Word)), (3100, (8 : Word))]).Nodup) ∧
    ((storeOpSt (StoreOp.mcount 2050 (5 : BitVec 64) true)).clk.run = true ∧ (storeOpSt (StoreOp.mcount 2050 (5 : BitVec 64) true)).store.op = some
      (StoreOp.mcount 2050 (5 : BitVec 64) true, StoreWait.table) ∧ (storeOpSt (StoreOp.mcount 2050 (5 : BitVec 64) true)).tbl.latch = some
      { path := Path.mailbox, cmd := (2 : BitVec 4), sel := (6 : Byte), index := (387 : BitVec 16), data := (5 : Entry), inStore := false, tell := true } ∧ StoreOp.mcount 2050 (5 : BitVec 64) true = StoreOp.mcount 2050 (5 : BitVec 64) true) ∧
    (storeOperationsEnd1.clk.run = true ∧ storeOperationsEnd1.store.op = some (StoreOp.mcount 1600 (77 : BitVec 64) false, StoreWait.table) ∧
      storeOperationsEnd1.tbl.latch = some
      { path := Path.mailbox, cmd := (2 : BitVec 4), sel := (6 : Byte), index := (387 : BitVec 16), data := (5 : Entry), inStore := false, tell := true } ∧ StoreOp.mcount 1600 (77 : BitVec 64) false = StoreOp.mcount 1600 (77 : BitVec 64) false ∧ slotAddr 1600 (if (storeOperationsEnd1.store.view 1600).state = 1 then 1 else 0) ≤ (256 + (1600 / 16 : ℕ)) * 128 + 4 ∧ (256 + (1600 / 16 : ℕ)) * 128 + 4 < slotAddr 1600 (if (storeOperationsEnd1.store.view 1600).state = 1 then 1 else 0) + 4) ∧
    ((storeOpSt (StoreOp.mcountNone 1600 (0 : Byte))).clk.run = true ∧ (storeOpSt (StoreOp.mcountNone 1600 (0 : Byte))).store.op = some
      (StoreOp.mcountNone 1600 (0 : Byte), StoreWait.table) ∧ (storeOpSt (StoreOp.mcountNone 1600 (0 : Byte))).tbl.latch = some
      { path := Path.mailbox, cmd := (2 : BitVec 4), sel := (6 : Byte), index := (387 : BitVec 16), data := (5 : Entry), inStore := false, tell := true } ∧ StoreOp.mcountNone 1600 (0 : Byte) = StoreOp.mcountNone 1600 (0 : Byte)) ∧
    ((storeOpSt (StoreOp.refused 24 (12 : Byte))).clk.run = true ∧ (storeOpSt (StoreOp.refused 24 (12 : Byte))).store.op = some (StoreOp.refused 24
      (12 : Byte), StoreWait.table) ∧ (storeOpSt (StoreOp.refused 24 (12 : Byte))).tbl.latch = some
      { path := Path.mailbox, cmd := (2 : BitVec 4), sel := (6 : Byte), index := (387 : BitVec 16), data := (5 : Entry), inStore := false, tell := true } ∧ StoreOp.refused 24 (12 : Byte) = StoreOp.refused 24 (12 : Byte)) ∧
    (presetRunSt.clk.run = true ∧ presetRunSt.store.op = some (StoreOp.pagePreset 24, StoreWait.preset)) := by
  refine ⟨?_, ?_, ?_, ?_, ?_, ?_, ?_⟩ <;> and_intros <;> decide +kernel

def logsAndCountersC1 : IntOp := .counter 1600 77 false
def logsAndCountersR1 : IntOp := .record 77 (some (5, 1)) true 9 .nothing
def logsAndCountersSt0 : State :=
  deviceSt (.int logsAndCountersC1 [])
def logsAndCountersSt1 : State :=
  deviceSt (.int logsAndCountersR1 [])
def logsAndCountersSt2 : State :=
  deviceSt (.int (.param 1) (List.replicate 126 3))
def logsAndCountersSt3 : State :=
  deviceSt (.int .tracePreset [])
def logsAndCountersSt4 : State :=
  {svc with cad := {svc.cad with tokenAt := svc.clk.ts - 15999999}}
def logsAndCountersSt5 : State :=
  {placeSt svc with mbox := {(placeSt svc).mbox with policy := 0}}
theorem witness_LogsAndCounters :
    (appendSt.clk.run = true ∧ (appendSt.store.dev = some (DevOp.append 2) ∨ appendSt.store.dev = none ∧ appendSt.appendDue = true ∧ 2 =
      appendSt.appendCount) ∧ 2 ≤ 16 - appendSt.elog.head % 16 ∧ appendSt.elog.head < 2048) ∧
    (svc.clk.run = true ∧ svc.since svc.cad.tokenAt (10 * msec) = true) ∧
    (logsAndCountersSt0.clk.run = true ∧ ((∃ img, logsAndCountersSt0.store.dev = some (DevOp.int (IntOp.counter 1600 (77 : BitVec 64) false) img) ∧
      [] = logsAndCountersSt0.store.queue) ∨ logsAndCountersSt0.store.dev = none ∧ logsAndCountersSt0.nextDue = some (IntOp.counter 1600 (77 : BitVec
      64) false, [])) ∧ slotAddr 1600 (if (logsAndCountersSt0.store.view 1600).state = 1 then 1 else 0) ≤ (256 + (1600 / 16 : ℕ)) * 128 + 0 ∧ (256 +
      (1600 / 16 : ℕ)) * 128 + 0 < slotAddr 1600 (if (logsAndCountersSt0.store.view 1600).state = 1 then 1 else 0) + 4) ∧
    (logsAndCountersSt1.clk.run = true ∧ ((∃ img, logsAndCountersSt1.store.dev = some (DevOp.int (IntOp.record 77 (some ((5 : BitVec 512), (1 :
      Byte))) true (9 : BitVec 16) KeyWait.nothing) img) ∧ [] = logsAndCountersSt1.store.queue) ∨ logsAndCountersSt1.store.dev = none ∧
      logsAndCountersSt1.nextDue = some (IntOp.record 77 (some ((5 : BitVec 512), (1 : Byte))) true (9 : BitVec 16) KeyWait.nothing, [])) ∧ 77 < 256)
      ∧
    (logsAndCountersSt2.clk.run = true ∧ (logsAndCountersSt2.store.dev = some (DevOp.int (IntOp.param 1) (List.replicate 126 (3 : Word))) ∧ [] =
      logsAndCountersSt2.store.queue ∨ (logsAndCountersSt2.store.dev = none ∧ logsAndCountersSt2.nextDue = some (IntOp.param 1, [])) ∧ List.replicate
      126 (3 : Word) = logsAndCountersSt2.paramContent 1) ∧ 1 < 8 ∧ (List.replicate 126 (3 : Word)).length = 126 ∧
      logsAndCountersSt2.store.params.length = 8) ∧
    (logsAndCountersSt3.clk.run = true ∧ ((∃ img, logsAndCountersSt3.store.dev = some (DevOp.int IntOp.tracePreset img) ∧ [] =
      logsAndCountersSt3.store.queue) ∨ logsAndCountersSt3.store.dev = none ∧ logsAndCountersSt3.nextDue = some (IntOp.tracePreset, []))) ∧
    (saveSt.md.mode = Mode.causeway ∧ saveSt.drain.step = 9 ∧ saveSt.drain.traceSaved = false ∧ saveSt.mayStart 0 = true ∧ (∀ o ∈ saveSt.store.queue,
      ¬o.rank = 0)) ∧
    (logsAndCountersSt5.clk.run = true ∧ logsAndCountersSt5.mbox.toPlace = [evRec1, evRec1] ∧ evRec1.bit = some (3 : Fin 24) ∧ mirrorLog 3 = some 2 ∧
      logsAndCountersSt5.mbox.logs.length = 4 ∧ (lgetD logsAndCountersSt5.mbox.logs 2 CxlLog.empty).records.length < 64) ∧
    ((placeSt fullLogSt).clk.run = true ∧ (placeSt fullLogSt).mbox.toPlace = [evRec1, evRec1] ∧ evRec1.bit = some (3 : Fin 24) ∧ mirrorLog 3 = some 2
      ∧ (placeSt fullLogSt).mbox.logs.length = 4 ∧ 64 ≤ (lgetD (placeSt fullLogSt).mbox.logs 2 CxlLog.empty).records.length) ∧
    (logsAndCountersSt4.clk.run = true ∧ logsAndCountersSt4.since logsAndCountersSt4.cad.tokenAt (10 * msec) = false) ∧
    (wrapSt.clk.run = true ∧ wrapSt.ts48 = BitVec.allOnes 48 ∧ ¬wrapSt.clk.ts = BitVec.allOnes 64) := by
  refine ⟨?_, ?_, ?_, ?_, ?_, ?_, ?_, ?_, ?_, ?_, ?_⟩ <;> and_intros <;> first
    | decide +kernel
    | exact Or.inl ⟨[], by decide +kernel, by decide +kernel⟩

def powerAndSuppliesSt0 : State :=
  {strapSt with pwr := {strapSt.pwr with vaon := true}}
theorem witness_PowerAndSupplies :
    (svc.strap.latched = true) ∧
    (svc.md.mode = Mode.service ∧ svc.pd 3 = true) ∧
    (svc.pwr.vaon = true) ∧
    (offSt.pwr.vaon = false) ∧
    (powerAndSuppliesSt0.pwr.vaon = true ∧ powerAndSuppliesSt0.strap.latched = false) ∧
    (BitVec.getLsbD powerAndSuppliesSt0.pwr.ramping 3 = true) ∧
    (copySt.md.mode = Mode.causeway) ∧
    ((recallSt (5 : BitVec 4)).md.mode = Mode.recall ∧ ¬(recallSt (5 : BitVec 4)).rcl.stage = (0 : BitVec 4) ∧ ¬(recallSt (5 : BitVec 4)).rcl.stage =
      (15 : BitVec 4) ∧ (recallSt (5 : BitVec 4)).pd 3 = true) := by
  refine ⟨?_, ?_, ?_, ?_, ?_, ?_, ?_, ?_⟩ <;> and_intros <;> decide +kernel

def clockStartsAndStopsSt0 : State :=
  {wakeSt with pwr := {wakeSt.pwr with vdd := true, vddm := true, vpp := true, vdda := true, vddio := true}}
theorem witness_ClockStartsAndStops :
    ((pllSt Mode.recall).pd 3 = true ∧ (pllSt Mode.recall).clk.run = false ∧ (pllSt Mode.recall).strap.latched = true ∧ (pllSt
      Mode.recall).strap.scanmode = false ∧ (pllSt Mode.recall).pin.pfail = false ∧ (pllSt Mode.recall).pin.pfailLatched = false ∧ (pllSt
      Mode.recall).pin.musterLatched = false ∧ (pllSt Mode.recall).commit = none ∧ (pllSt Mode.recall).Quiet ∧ (pllSt Mode.recall).md.mode =
      Mode.recall ∧ (pllSt Mode.recall).rcl.stage = (0 : BitVec 4)) ∧
    ((pllSt Mode.dormant).pd 3 = true ∧ (pllSt Mode.dormant).clk.run = false ∧ (pllSt Mode.dormant).strap.latched = true ∧ (pllSt
      Mode.dormant).strap.scanmode = false ∧ (pllSt Mode.dormant).pin.pfail = false ∧ (pllSt Mode.dormant).pin.pfailLatched = false ∧ (pllSt
      Mode.dormant).pin.musterLatched = false ∧ (pllSt Mode.dormant).commit = none ∧ (pllSt Mode.dormant).Quiet ∧ (pllSt Mode.dormant).md.mode =
      Mode.dormant) ∧
    (poweringDownSt.atSettle 7 = true ∧ poweringDownSt.pwr.down = true) ∧
    (clockStartsAndStopsSt0.asleep = true ∧ clockStartsAndStopsSt0.pin.armed = true ∧ clockStartsAndStopsSt0.pin.pfailSinceDormant = true ∧
      clockStartsAndStopsSt0.pin.pfail = false) := by
  refine ⟨?_, ?_, ?_, ?_⟩ <;> and_intros <;> decide +kernel

theorem witness_ControlPins :
    (svc.pwr.vaon = true ∧ svc.strap.scanmode = false ∧ svc.clk.run = true ∧ svc.commit = none ∧ svc.pin.pfail = false ∧ svc.requestNow = none ∧
      svc.md.mode = Mode.service) ∧
    (svc.pwr.vaon = true ∧ svc.strap.scanmode = false ∧ svc.clk.run = true ∧ svc.commit = none ∧ svc.musterCounts = true ∧ svc.requestNow = none ∧
      svc.md.mode = Mode.service ∧ svc.md.musterEn = true) ∧
    ((drainSt 4 true).pwr.vaon = true ∧ (drainSt 4 true).strap.scanmode = false ∧ (drainSt 4 true).clk.run = true ∧ (drainSt 4 true).commit = none ∧
      (drainSt 4 true).pin.pfail = true) ∧
    ((drainSt 4 false).pwr.vaon = true ∧ (drainSt 4 false).strap.scanmode = false ∧ (drainSt 4 false).clk.run = true ∧ (drainSt 4 false).commit =
      none ∧ (drainSt 4 false).pin.pfail = false ∧ (drainSt 4 false).requestNow = none ∧ (drainSt 4 false).md.mode = Mode.causeway) ∧
    ((recallSt (3 : BitVec 4)).pwr.vaon = true ∧ (recallSt (3 : BitVec 4)).strap.scanmode = false ∧ (recallSt (3 : BitVec 4)).clk.run = true ∧
      (recallSt (3 : BitVec 4)).commit = none ∧ (recallSt (3 : BitVec 4)).pin.pfail = false ∧ (recallSt (3 : BitVec 4)).requestNow = none ∧ (recallSt
      (3 : BitVec 4)).md.mode = Mode.recall ∧ (recallSt (3 : BitVec 4)).rcl.stage.toNat < 9) ∧
    ((settleSt 1 false).pwr.vaon = true ∧ (settleSt 1 false).strap.scanmode = false ∧ (settleSt 1 false).clk.run = true ∧ (settleSt 1 false).commit =
      none ∧ (settleSt 1 false).pin.pfail = false ∧ (settleSt 1 false).requestNow = none ∧ (settleSt 1 false).md.mode = Mode.dormant ∧ 1 ≤ (settleSt
      1 false).drain.settle ∧ (settleSt 1 false).drain.settle ≤ 3 ∧ (settleSt 1 false).drain.settleDrain = false) ∧
    ((settleSt 1 false).pwr.vaon = true ∧ (settleSt 1 false).strap.scanmode = false ∧ (settleSt 1 false).clk.run = true ∧ (settleSt 1 false).commit =
      none ∧ (settleSt 1 false).musterCounts = true ∧ (settleSt 1 false).requestNow = none ∧ (settleSt 1 false).md.mode = Mode.dormant ∧ (settleSt 1
      false).md.musterEn = true ∧ 1 ≤ (settleSt 1 false).drain.settle ∧ (settleSt 1 false).drain.settle ≤ 3 ∧ (settleSt 1 false).drain.settleDrain =
      false) ∧
    (requestedSt.pwr.vaon = true ∧ requestedSt.strap.scanmode = false ∧ requestedSt.clk.run = true ∧ requestedSt.commit = none ∧
      requestedSt.pin.pfail = false ∧ requestedSt.requestNow = some 1) ∧
    (requestedSt.pwr.vaon = true ∧ requestedSt.strap.scanmode = false ∧ requestedSt.clk.run = true ∧ requestedSt.commit = none ∧
      requestedSt.musterCounts = true ∧ requestedSt.requestNow = some 1 ∧ requestedSt.md.musterEn = true) ∧
    (noMusterSt.pwr.vaon = true ∧ noMusterSt.strap.scanmode = false ∧ noMusterSt.clk.run = true ∧ noMusterSt.commit = none ∧ noMusterSt.musterCounts
      = true ∧ noMusterSt.requestNow = none ∧ noMusterSt.md.musterEn = false) := by
  refine ⟨?_, ?_, ?_, ?_, ?_, ?_, ?_, ?_, ?_, ?_⟩ <;> and_intros <;> decide +kernel

def recallStagesFollowSt0 : State :=
  {recallSt 1 with elog := {svc.elog with numbered := false, queue := [evRec1]}, store := {svc.store with ready := false, words := [(1023, ⟨5,0⟩)]}}
def recallStagesFollowSt1 : State :=
  {recallSt 3 with t2 := {svc.t2 with bch := (List.replicate 8 false).set 1 true}}
theorem witness_RecallStagesFollow :
    (recallStagesFollowSt0.atStage 1 = true ∧ (recallStagesFollowSt0.store.words.any fun q ↦ decide (q.1 < 1024) && decide (2 ≤ q.2.err)) = false) ∧
    (recallStagesFollowSt0.atStage 1 = true ∧ 1023 < 1024 ∧ swBlank recallStagesFollowSt0.store.words 1023 = false) ∧
    ((recallSt (2 : BitVec 4)).atStage 2 = true ∧ (vecPasses [] = true ∨ vecPasses [] = true) ∧
      (({ (recallSt (2 : BitVec 4)) with stew := { (recallSt (2 : BitVec 4)).stew with unread := 0 } } : State).bootChoice).isSome = true) ∧
    (noImageSt.atStage 2 = true ∧ (vecPasses [] = true ∨ vecPasses [] = true) ∧ ({ noImageSt with stew := { noImageSt.stew with unread := 0 } } :
      State).bootChoice = none) ∧
    (noImageSt.atStage 2 = true ∧ vecPasses [((2 : Fin 3), 5)] = false ∧ vecPasses [((2 : Fin 3), 5)] = false) ∧
    (recallStagesFollowSt1.atStage 3 = true ∧ recallStagesFollowSt1.t2.bch.length = 8 ∧ recallStagesFollowSt1.t2.lz4.length = 4 ∧ 1 <
      recallStagesFollowSt1.part.bchEngines ∧ lgetD recallStagesFollowSt1.t2.bch 1 true = true ∧ recallStagesFollowSt1.faultShows
      { cls := (3 : Fin 6), inst := (7 : Fin 64), test := (3 : Fin 5), vector := 26, wrong := 5 } = true ∧
      ({ cls := (3 : Fin 6), inst := (7 : Fin 64), test := (3 : Fin 5), vector := 26, wrong := 5 } : EngineFault).cls = (3 : Fin 6) ∧
      ¬↑({ cls := (3 : Fin 6), inst := (7 : Fin 64), test := (3 : Fin 5), vector := 26, wrong := 5 } : EngineFault).inst = 1) ∧
    (recallStagesFollowSt1.atStage 3 = true ∧ recallStagesFollowSt1.t2.bch.length = 8 ∧ recallStagesFollowSt1.t2.lz4.length = 4 ∧ 1 <
      recallStagesFollowSt1.part.bchEngines ∧ lgetD recallStagesFollowSt1.t2.bch 1 true = true ∧ recallStagesFollowSt1.faultShows
      { cls := (5 : Fin 6), inst := (3 : Fin 64), test := (4 : Fin 5), vector := 0, wrong := 1 } = true ∧
      ({ cls := (5 : Fin 6), inst := (3 : Fin 64), test := (4 : Fin 5), vector := 0, wrong := 1 } : EngineFault).cls = (5 : Fin 6)) ∧
    (recallStagesFollowSt1.atStage 3 = true ∧ recallStagesFollowSt1.t2.bch.length = 8 ∧ recallStagesFollowSt1.t2.lz4.length = 4 ∧
      recallStagesFollowSt1.faultShows { cls := (4 : Fin 6), inst := (6 : Fin 64), test := (4 : Fin 5), vector := 0, wrong := 1 } = true ∧
      ¬({ cls := (4 : Fin 6), inst := (6 : Fin 64), test := (4 : Fin 5), vector := 0, wrong := 1 } : EngineFault).cls = (3 : Fin 6) ∧
      ¬({ cls := (4 : Fin 6), inst := (6 : Fin 64), test := (4 : Fin 5), vector := 0, wrong := 1 } : EngineFault).cls = (5 : Fin 6)) ∧
    ((recallSt (4 : BitVec 4)).atStage 4 = true ∧ (recallSt (4 : BitVec 4)).ent.ready = true) ∧
    ((witnessSt 0).atStage 5 = true ∧ (∀ d ∈ (witnessSt 0).part.dieList, popcount (tgetD (witnessSt 0).comp.wrongCells d (0 : BitVec 4096)) < 8)) ∧
    ((witnessSt 64).atStage 5 = true ∧ ((witnessSt 64).part.dieList).any (fun x => decide (x < 5 ∧ 64 ≤ popcount (tgetD (witnessSt
      64).comp.wrongCells x (0 : BitVec 4096)))) = true) ∧
    (copiesSt.atStage 6 = true ∧ copiesSt.cad.loaded = false ∧ ¬copiesSt.comp.level = (3 : BitVec 2)) ∧
    ((recallSt (7 : BitVec 4)).atStage 7 = true ∧ (recallSt (7 : BitVec 4)).rcl.deferred = [] ∧ (recallSt (7 : BitVec 4)).drain.region = []) ∧
    (lostRecordSt.atStage 7 = true ∧ lostRecordSt.rcl.deferred = [] ∧ (lostRecordSt.findRecord []).1 = Found.lost 1) ∧
    (heldSt.md.mode = Mode.recall ∧ heldSt.rcl.stage = (9 : BitVec 4) ∧ heldSt.clk.run = true ∧ heldSt.pin.pfail = false ∧ heldSt.rcl.pd3Lost = false
      ∧ (∃ t0, heldSt.pin.pfailHighSince = some t0 ∧ heldSt.since t0 (50 * usec) = true) ∧ ¬heldSt.rcl.heldStage = (7 : BitVec 4)) ∧
    (heldReplaySt.md.mode = Mode.recall ∧ heldReplaySt.rcl.stage = (9 : BitVec 4) ∧ heldReplaySt.clk.run = true ∧ heldReplaySt.pin.pfail = false ∧
      heldReplaySt.rcl.pd3Lost = false ∧ (∃ t0, heldReplaySt.pin.pfailHighSince = some t0 ∧ heldReplaySt.since t0 (50 * usec) = true) ∧
      heldReplaySt.rcl.heldStage = (7 : BitVec 4) ∧ ¬heldReplaySt.comp.level = (3 : BitVec 2)) ∧
    (pd3LostSt.md.mode = Mode.recall ∧ pd3LostSt.rcl.stage = (9 : BitVec 4) ∧ pd3LostSt.clk.run = true ∧ pd3LostSt.pin.pfail = false ∧
      pd3LostSt.rcl.pd3Lost = true) := by
  refine ⟨?_, ?_, ?_, ?_, ?_, ?_, ?_, ?_, ?_, ?_, ?_, ?_, ?_, ?_, ?_, ?_, ?_⟩ <;> and_intros <;> first
    | exact ⟨_, rfl, by decide +kernel⟩
    | decide +kernel

def drainStepsFollowSt0 : State :=
  recordSt (drainSt 4 false)
def drainStepsFollowSt1 : State :=
  {drainSt 2 true with drain := {(recordSt (drainSt 4 false)).drain with step := 2}}
def drainStepsFollowSt2 : State :=
  {drainSt 5 true with t1 := {svc.t1 with rwq := [rwOf3]}}
def drainStepsFollowSt3 : State :=
  {drainSt 7 true with drain := {(recordSt (drainSt 4 false)).drain with step := 7}}
theorem witness_DrainStepsFollow :
    (drainStepsFollowSt0.md.mode = Mode.causeway ∧ drainStepsFollowSt0.requestNow = none) ∧
    (drainStepsFollowSt0.atDrain 4 = true ∧ drainStepsFollowSt0.drain.target = some false) ∧
    (drainStepsFollowSt1.atDrain 2 = true ∧ drainStepsFollowSt1.ferry.chans.length = 64 ∧ rising drainStepsFollowSt1.drain.region = true) ∧
    ((drainSt 5 true).atDrain 5 = true ∧ (drainSt 5 true).t1.rwq = []) ∧
    (drainStepsFollowSt2.atDrain 5 = true ∧ ¬drainStepsFollowSt2.t1.rwq = []) ∧
    ((drainSt 6 true).atDrain 6 = true) ∧
    (drainStepsFollowSt3.atDrain 7 = true ∧ drainStepsFollowSt3.drain.target = some false) ∧
    ((drainSt 8 true).atDrain 8 = true) ∧
    ((drainSt 9 true).atDrain 9 = true ∧ (drainSt 9 true).drain.traceSaved = true ∧ (drainSt 9 true).causewayOpsDone = true ∧ (drainSt 9 true).commit
      = none ∧ (drainSt 9 true).pin.pfail = true) ∧
    ((drainSt 9 false).atDrain 9 = true ∧ (drainSt 9 false).drain.traceSaved = true ∧ (drainSt 9 false).causewayOpsDone = true ∧ (drainSt 9
      false).commit = none ∧ (drainSt 9 false).pin.pfail = false) ∧
    ((drainSt 10 true).atDrain 10 = true ∧ (drainSt 10 true).causewayOpsDone = true ∧ (drainSt 10 true).commit = none ∧ (drainSt 10
      true).pin.pfailInCauseway = true) ∧
    (musterDrainSt.atDrain 10 = true ∧ musterDrainSt.causewayOpsDone = true ∧ musterDrainSt.commit = none ∧ musterDrainSt.pin.pfailInCauseway =
      false) := by
  refine ⟨?_, ?_, ?_, ?_, ?_, ?_, ?_, ?_, ?_, ?_, ?_, ?_⟩ <;> and_intros <;> decide +kernel

theorem witness_SettleStepsFollow :
    ((settleSt (nat_lit 1) false).atSettle 1 = true ∧ (settleSt (nat_lit 1) false).t1.wq = [] ∧ (settleSt (nat_lit 1) false).t0.stores = []) ∧
    ((settleSt (nat_lit 2) false).atSettle 2 = true ∧ (settleSt (nat_lit 2) false).drain.settleDrain = false ∧ (settleSt (nat_lit 2) false).t2.moving
      = [] ∧ (settleSt (nat_lit 2) false).t2.bufs = [] ∧ (∀ x ∈ (settleSt (nat_lit 2) false).t0.pool, x.dirty = (0 : Mask) ∧ x.wb = none)) ∧
    ((settleSt (nat_lit 3) false).atSettle 3 = true ∧ (settleSt (nat_lit 3) false).t1.rwq = []) ∧
    ((settleSt (nat_lit 4) false).atSettle 4 = true ∧ (settleSt (nat_lit 4) false).store.busy = false ∧ (∀ o ∈ (settleSt (nat_lit 4)
      false).store.queue, 2 ≤ o.rank)) ∧
    ((settleSt (nat_lit 5) false).atSettle 5 = true) ∧
    ((settleSt (nat_lit 6) false).atSettle 6 = true ∧ (settleSt (nat_lit 6) false).store.busy = false ∧ (settleSt (nat_lit 6) false).store.queue = []
      ∧ (settleSt (nat_lit 6) false).elog.queue = [] ∧ (settleSt (nat_lit 6) false).evt.cyc.events = []) ∧
    ((settleSt 2 true).atSettle 2 = true ∧ (settleSt 2 true).drain.settleDrain = true) := by
  refine ⟨?_, ?_, ?_, ?_, ?_, ?_, ?_⟩ <;> and_intros <;> decide +kernel

def stewardTrapsAndRestartsSt0 : State :=
  restartSt (some true)
theorem witness_StewardTrapsAndRestarts :
    (svc.clk.run = true ∧ svc.stewardUp = true ∧ ¬svc.md.mode = Mode.recall) ∧
    (secondTrapSt.clk.run = true ∧ secondTrapSt.stewardUp = true ∧ secondTrapSt.md.mode = Mode.recall ∧ ¬secondTrapSt.rcl.stage = (15 : BitVec 4) ∧ 1
      ≤ secondTrapSt.rcl.traps) ∧
    ((recallSt (5 : BitVec 4)).clk.run = true ∧ (recallSt (5 : BitVec 4)).stewardUp = true ∧ (recallSt (5 : BitVec 4)).md.mode = Mode.recall ∧
      ¬(recallSt (5 : BitVec 4)).rcl.stage = (15 : BitVec 4) ∧ (recallSt (5 : BitVec 4)).rcl.traps = 0) ∧
    (stewardTrapsAndRestartsSt0.clk.run = true ∧ stewardTrapsAndRestartsSt0.stew.restarting = true ∧ ¬stewardTrapsAndRestartsSt0.md.mode =
      Mode.recall ∧ (stewardTrapsAndRestartsSt0.stew.restartTo).isSome = true) ∧
    ((restartSt none).clk.run = true ∧ (restartSt none).stew.restarting = true ∧ ¬(restartSt none).md.mode = Mode.recall ∧ (restartSt
      none).stew.restartTo = none ∧ ((restartSt none).bootable !(restartSt none).stew.slotB).any (fun x => decide ((restartSt none).fitsUcode x =
      true)) = true) ∧
    (noOtherSt.clk.run = true ∧ noOtherSt.stew.restarting = true ∧ ¬noOtherSt.md.mode = Mode.recall ∧ noOtherSt.stew.restartTo = none ∧
      (noOtherSt.bootable !noOtherSt.stew.slotB) = none) ∧
    (misfitSt.clk.run = true ∧ misfitSt.stew.restarting = true ∧ ¬misfitSt.md.mode = Mode.recall ∧ misfitSt.stew.restartTo = none ∧
      (misfitSt.bootable !misfitSt.stew.slotB).any (fun x => decide (misfitSt.fitsUcode x = false)) = true) ∧
    (recallRestartSt.clk.run = true ∧ recallRestartSt.stew.restarting = true ∧ recallRestartSt.md.mode = Mode.recall ∧
      recallRestartSt.rcl.stage.toNat ≤ 7) := by
  refine ⟨?_, ?_, ?_, ?_, ?_, ?_, ?_, ?_⟩ <;> and_intros <;> decide +kernel

def stagingWindowSt0 : State :=
  stageSt 1 1 (some xferB)
def stagingWindowSt1 : State :=
  stageSt 2 0 (some xferB)
def stagingWindowSt2 : State :=
  stageSt 3 0 (some xferB)
def stagingWindowSt3 : State :=
  {stageSt 4 0 none with stew := installSt.stew}
def stagingWindowSt4 : State :=
  {stageSt 5 0 none with stew := installSt.stew}
theorem witness_StagingWindow :
    ((stageSt 1 0 none).md.mode = Mode.service ∧ (stageSt 1 0 none).fwReady = true ∧ bits ((stageSt 1 0 none).descriptor 1) 8 8 = (if true = true
      then 2 else 1) ∧ (stageSt 1 0 none).stew.slotB = !true ∧ (stageSt 1 0 none).stagingDue 1 = true ∧ (stageSt 1 0 none).stew.xfer = none ∧
      BitVec.toNat ((stageSt 1 0 none).descriptor 2) = 0 ∧ (stageSt 1 0 none).windowOk = true) ∧
    (stagingWindowSt0.md.mode = Mode.service ∧ stagingWindowSt0.fwReady = true ∧ bits (stagingWindowSt0.descriptor 1) 8 8 = (if true = true then 2
      else 1) ∧ stagingWindowSt0.stew.slotB = !true ∧ (stagingWindowSt0.stew.xfer).any (fun x => decide (x.path = Path.strait ∧ x.slotB = true ∧
      stagingWindowSt0.stagingDue 1 = true ∧ BitVec.toNat (stagingWindowSt0.descriptor 2) * 4096 = x.data.length ∧ stagingWindowSt0.windowOk = true))
      = true) ∧
    (badCrcSt.md.mode = Mode.service ∧ badCrcSt.fwReady = true ∧ bits (badCrcSt.descriptor 1) 8 8 = (if true = true then 2 else 1) ∧
      badCrcSt.stew.slotB = !true ∧ badCrcSt.stagingDue 1 = true ∧ badCrcSt.stew.xfer = none ∧ BitVec.toNat (badCrcSt.descriptor 2) = 0 ∧
      badCrcSt.windowOk = false) ∧
    (stagingWindowSt1.md.mode = Mode.service ∧ stagingWindowSt1.fwReady = true ∧ bits (stagingWindowSt1.descriptor 1) 8 8 = (if true = true then 2
      else 1) ∧ stagingWindowSt1.stew.slotB = !true ∧ (stagingWindowSt1.stew.xfer).any (fun x => decide (x.path = Path.strait ∧ x.slotB = true ∧
      stagingWindowSt1.stagingDue 2 = true)) = true) ∧
    (stagingWindowSt2.md.mode = Mode.service ∧ stagingWindowSt2.fwReady = true ∧ bits (stagingWindowSt2.descriptor 1) 8 8 = (if true = true then 2
      else 1) ∧ stagingWindowSt2.stew.slotB = !true ∧ (stagingWindowSt2.stew.xfer).any (fun x => decide (x.path = Path.strait ∧ x.slotB = true ∧
      stagingWindowSt2.stagingDue 3 = true)) = true) ∧
    ((stageSt 4 0 none).md.mode = Mode.service ∧ (stageSt 4 0 none).fwReady = true ∧ bits ((stageSt 4 0 none).descriptor 1) 8 8 = (if true = true
      then 2 else 1) ∧ (stageSt 4 0 none).stew.slotB = !true ∧ ((stageSt 4 0 none).bootable true).any (fun x => decide (BitVec.toNat (stageSt 4 0
      none).stew.boot0.gen < 2 ^ 32 - 1 ∧ BitVec.toNat (stageSt 4 0 none).stew.boot1.gen < 2 ^ 32 - 1 ∧ (stageSt 4 0 none).stagingDue 4 = true ∧
      (stageSt 4 0 none).commit = none ∧ (stageSt 4 0 none).Quiet ∧ x.installUcode = false ∧ (stageSt 4 0 none).fitsUcode x = true)) = true) ∧
    (stagingWindowSt4.md.mode = Mode.service ∧ stagingWindowSt4.fwReady = true ∧ bits (stagingWindowSt4.descriptor 1) 8 8 = (if true = true then 2
      else 1) ∧ stagingWindowSt4.stew.slotB = !true ∧ (stagingWindowSt4.bootable true).any (fun x => decide (BitVec.toNat
      stagingWindowSt4.stew.boot0.gen < 2 ^ 32 - 1 ∧ BitVec.toNat stagingWindowSt4.stew.boot1.gen < 2 ^ 32 - 1 ∧ stagingWindowSt4.stagingDue 5 =
      true)) = true) ∧
    (stagingWindowSt3.md.mode = Mode.service ∧ stagingWindowSt3.fwReady = true ∧ bits (stagingWindowSt3.descriptor 1) 8 8 = (if true = true then 2
      else 1) ∧ stagingWindowSt3.stew.slotB = !true ∧ (stagingWindowSt3.bootable true).any (fun x => decide (BitVec.toNat
      stagingWindowSt3.stew.boot0.gen < 2 ^ 32 - 1 ∧ BitVec.toNat stagingWindowSt3.stew.boot1.gen < 2 ^ 32 - 1 ∧ stagingWindowSt3.stagingDue 4 = true
      ∧ x.installUcode = true)) = true) ∧
    ((stagedSt.stew.staged).any (fun x => decide (stagedSt.md.mode = Mode.service ∧ stagedSt.stewardUp = true ∧ stagedSt.comp.level.toNat < 2 ∧
      stagedSt.fwReady = true ∧ BitVec.toNat stagedSt.stew.boot0.gen < 2 ^ 32 - 1 ∧ BitVec.toNat stagedSt.stew.boot1.gen < 2 ^ 32 - 1)) = true) ∧
    (bits (stoppedSt.descriptor 1) 8 8 = (if true = true then 2 else 1) ∧ stoppedSt.stagingDue 5 = true ∧ stoppedSt.loadStop = true ∧
      stoppedSt.pin.pfail = false ∧ (stoppedSt.stew.staged).any (fun x => decide (x.1 = true ∧ stoppedSt.stew.stagedAuth = true ∧ stoppedSt.accepts
      x.2.steppings = true)) = true) := by
  refine ⟨?_, ?_, ?_, ?_, ?_, ?_, ?_, ?_, ?_, ?_⟩ <;> and_intros <;> decide +kernel

def entropyReachesReadySt0 : State :=
  entSt .stored true 0 []
def entropyReachesReadySt1 : State :=
  entSt .stored true 2 []
def entropyReachesReadySt2 : State :=
  entSt .restarting false 0 [5]
theorem witness_EntropyReachesReady :
    (svc.clk.run = true ∧ svc.ent.source = true ∧ svc.ent.startup = false ∧ svc.ent.blocks = []) ∧
    (svc.clk.run = true ∧ svc.ent.source = true ∧ svc.ent.startup = false ∧ svc.ent.st = EntState.ready) ∧
    (entropyReachesReadySt0.clk.run = true ∧ entropyReachesReadySt0.ent.source = true ∧ entropyReachesReadySt0.ent.startup = true ∧
      entropyReachesReadySt0.ent.blocks.length < 2) ∧
    (entropyReachesReadySt0.clk.run = true ∧ entropyReachesReadySt0.ent.source = true ∧ entropyReachesReadySt0.ent.startup = true ∧
      entropyReachesReadySt0.ent.fails < 2) ∧
    (entropyReachesReadySt0.clk.run = true ∧ entropyReachesReadySt0.ent.seedDue = true) ∧
    (entropyReachesReadySt1.clk.run = true ∧ entropyReachesReadySt1.ent.source = true ∧ entropyReachesReadySt1.ent.startup = true ∧ 2 ≤
      entropyReachesReadySt1.ent.fails) ∧
    (entropyReachesReadySt2.clk.run = true ∧ entropyReachesReadySt2.ent.source = true ∧ entropyReachesReadySt2.ent.startup = false ∧
      entropyReachesReadySt2.ent.blocks.length = 1 ∧ (entropyReachesReadySt2.ent.st = EntState.stored ∨ entropyReachesReadySt2.ent.st =
      EntState.restarting)) := by
  refine ⟨?_, ?_, ?_, ?_, ?_, ?_, ?_⟩ <;> and_intros <;> decide +kernel

theorem witness_TapInstructions :
    (svc.pwr.vaon = true ∧ nat_lit 0 < 18 ∧ ¬nat_lit 0 = 4 ∧ ¬nat_lit 0 = 7) ∧
    (svc.pwr.vaon = true ∧ svc.strap.scanmode = false) ∧
    (svc.pwr.vaon = true ∧ 5 ≤ BitVec.toNat (5 : BitVec 4)) ∧
    (scanSt.pwr.vaon = true ∧ scanSt.strap.scanmode = true) := by
  refine ⟨?_, ?_, ?_, ?_⟩ <;> and_intros <;> decide +kernel

/-! ### Witnesses of the statements over all states -/

theorem witness_StepRunsFrontCommand : (step { svc with pending := [.idcode, .tapReset] }) = exec .idcode { svc with pending := [.tapReset] } := rfl

theorem witness_IdleStepIsOneCycle : (svc.pending = [] ∧ svc.clk.run = true) ∧ (asleepSt.pending = [] ∧ asleepSt.clk.run = false ∧
    asleepSt.md.mode = .dormant) := by decide +kernel

theorem witness_EveryStepKeepsBounds : svc.Inv ∧ State.reset.Inv := by decide +kernel

theorem witness_EveryStepKeepsMemoryForm : scratchSt.MemForm ∧ fastSt.MemForm ∧ imageSt.MemForm := by decide +kernel

/-- A command that changes the mode: PFAIL_N asserted in SERVICE. -/
theorem witness_ModesChangeOnlyAsTabled : ∃ t, exec .pfailNAssert svc = .next t ∧ ¬ (t.md.mode = svc.md.mode) ∧
    Mode.edge svc.md.mode t.md.mode t.md.cause = true := by
  exact ⟨_, rfl, by decide +kernel⟩

theorem witness_CommandsNeverStop : WellFormed (.bypass 5) = true ∧ WellFormed (.bypass 4) = false := by decide

theorem witness_ByteCodeCorrectsOneDetectsTwo : ¬ ((0 : Fin 13) = 12) := by decide

theorem witness_LineCodeKnowsItsAddress : (4 : BitVec 3) = 5 ^^^ 1 ∨ (4 : BitVec 3) = 5 ^^^ 2 ∨ (4 : BitVec 3) = 5 ^^^ 4 := by decide

/-! ### Values of the spec -/

/-- 03:R85, 05:R132, 12:R303: the check values over the ASCII bytes "123456789". -/
theorem test_checkValues :
    crc32c [0x31, 0x32, 0x33, 0x34, 0x35, 0x36, 0x37, 0x38, 0x39] = 0xE3069283 ∧
    crc64 [0x31, 0x32, 0x33, 0x34, 0x35, 0x36, 0x37, 0x38, 0x39] = 0x6C40DF5F0B497347 ∧
    crc8 [0x31, 0x32, 0x33, 0x34, 0x35, 0x36, 0x37, 0x38, 0x39] = 0xF4 := by decide +kernel

/-- 07, worked example: the line address 0x48D2, its fold, the word of 0x5A, a single error, an address fault, the poison word. -/
theorem test_byteCode :
    addrFold 0x48D2 = 3 ∧ encByte 3 0x5A = 0x035A ∧ decByte 3 0x034A = (.corrected, 9, 0x5A) ∧ addrFold 0x48D3 = 2 ∧
    encByte 2 0x5A = 0x0E5A ∧ (decByte 3 0x0E5A).1 = .addrFault ∧ (decByte 3 0x0E5A).2.1 = 13 ∧ poisonWord 3 = 0 ∧
    decByte 3 0 = (.double, 3, 0) := by decide +kernel

/-- 07:R172: the minimal polynomial of α is the primitive polynomial, and a codeword of strength 40 is 34,304 bits long. -/
theorem test_bch : minPoly 1 = 0x1100B ∧ bchLen 40 = 34304 := by decide +kernel

/-- 12, worked example: READ of EVT_STAT over the Strait port. -/
theorem test_straitRead :
    ∃ t, exec (.straitReadFrame [0x01, 0x5A, 0x30, 0x00, 0x01, 0xE4] []) { stratSt with evt := { stratSt.evt with stat := 0x200010 } } =
      .next t ∧ t.resp = [.strait [0x00, 0x5A, 0x10, 0x00, 0x20, 0x00, 0xEE]] := by
  exact ⟨_, rfl, by decide +kernel⟩

/-- 17, worked example: E of an 8.64 mF bank at 9.0 V and 8.5 V, and the gauge budgets. -/
theorem test_gauge :
    [9000, 8500].map (fun mv => (gaugeEnergy (some 2314814) mv, gaugeBudget 49152 (gaugeEnergy (some 2314814) mv))) =
      [(174182, 17522), (146966, 12458)] := by decide +kernel

/-- 20, worked example: four hours of DORMANT. -/
theorem test_gapAdvance : advanceOf 471859200 = 23040000000000 := by decide +kernel

/-- 21, worked example: IDCODE of the shipped part. -/
theorem test_idcode : svc.idcode = 0x192165AB := by decide +kernel

/-- 03, worked example: entry 1's bytes. -/
theorem test_planRecord : (toBytes (pack 256 [(0, 1, 1), (4, 2, 0x010), (6, 2, 4096)]) 32).take 8 = [1, 0, 0, 0, 0x10, 0, 0, 0x10] := by decide +kernel

/-- 15:R377, Table 15-5: PFAIL_N falls in SERVICE: the drain starts and no credit goes back. -/
theorem test_pfail : ∃ t, exec .pfailNAssert svc = .next t ∧ t.md.mode = .causeway ∧ t.pin.musterDriven = true := by
  exact ⟨_, rfl, by decide +kernel⟩

/-- A partial fast write goes through to the next read of the line (02:R60). -/
theorem test_fastPartialWrite :
    (match exec (.memwrptl 0 none 0x4000000C0 0x11223344 3 false none) fastSt with
     | .next t => (match exec (.memrd 0 none 0x4000000C0 none []) t with
        | .next u => u.resp
        | _ => [])
     | _ => []) = [.memData 0 (mergeLine (ofBytes 512 (List.replicate 64 0x77)) 0x3344 3) false] := by decide +kernel

end Sys2Proof.Machine.Tests
end

/-! The registers of the OWNER: what every write of an open register shares, each register's effect, and the statement on flags and plain
registers. -/

namespace Sys2Proof.Machine

open Sys2Proof

/-! ### Words and their fields -/

@[simp] theorem word_toNat (v : Word) : word v.toNat = v := by simp [word]

/-- A 24-bit mask that a row writes reaches the register unchanged. -/
theorem word_toNat_low24 (b : BitVec 24) : (word b.toNat).extractLsb' 0 24 = b := by
  have hb := b.isLt
  apply BitVec.eq_of_toNat_eq
  simp only [word, BitVec.extractLsb'_toNat, BitVec.toNat_ofNat, Nat.shiftRight_zero]
  omega

theorem bits_lt {w : Nat} (e : BitVec w) (lo n : Nat) : bits e lo n < 2 ^ n := BitVec.isLt _

theorem bits_eq_div_mod {w : Nat} (e : BitVec w) (lo n : Nat) : bits e lo n = e.toNat / 2 ^ lo % 2 ^ n := by
  rw [bits, BitVec.extractLsb'_toNat, Nat.shiftRight_eq_div_pow]

theorem getLsbD_data0Mask (i : Nat) : (0xFFFFFFFF : Entry).getLsbD i = decide (i < 32) := by
  rw [show (0xFFFFFFFF : Entry) = (BitVec.allOnes 32).setWidth 256 from rfl, BitVec.getLsbD_setWidth, BitVec.getLsbD_allOnes]
  grind

/-- A write of TBL_DATA0 replaces the lowest word of the entry (13:R332). -/
theorem getLsbD_setDataWord_zero (d : Entry) (v : Word) (i : Nat) :
    (setDataWord d 0 v).getLsbD i = if i < 32 then v.getLsbD i else d.getLsbD i := by
  simp only [setDataWord, Nat.mul_zero, BitVec.shiftLeft_zero, BitVec.getLsbD_or, BitVec.getLsbD_and, BitVec.getLsbD_not,
    getLsbD_data0Mask, BitVec.getLsbD_setWidth]
  split
  · simp [*, show i < 256 by omega]
  · have hv : v.getLsbD i = false := BitVec.getLsbD_of_ge v i (by omega)
    have hd : 256 ≤ i → d.getLsbD i = false := BitVec.getLsbD_of_ge d i
    grind

theorem setDataWord_zero_low (d : Entry) (v : Word) : (setDataWord d 0 v).extractLsb' 0 32 = v := by
  apply BitVec.eq_of_getLsbD_eq
  intro i hi
  rw [BitVec.getLsbD_extractLsb', Nat.zero_add, getLsbD_setDataWord_zero, if_pos hi, decide_eq_true hi, Bool.true_and]

theorem setDataWord_zero_high (d : Entry) (v : Word) : (setDataWord d 0 v).extractLsb' 32 224 = d.extractLsb' 32 224 := by
  apply BitVec.eq_of_getLsbD_eq
  intro i hi
  rw [BitVec.getLsbD_extractLsb', BitVec.getLsbD_extractLsb', getLsbD_setDataWord_zero, if_neg (by omega)]

/-! ### Capture with no inverted bit (06:R158) -/

theorem parByte_even (b : Byte) : parityOf (parByte b) = false := by
  revert b
  decide

theorem setWidth_parByte (b : Byte) : (parByte b).setWidth 8 = b := BitVec.setWidth_append_eq_right

theorem parBytes_of_no_flips (l : List Byte) : parBytes l [] = some l := by
  have captured : (((List.range l.length).zip l).map fun x => x.2) = l := List.map_snd_zip (by simp)
  simp [parBytes, parByte_even, Function.comp_def, setWidth_parByte, captured]

theorem ofBytes_toBytes_word (v : Word) : ofBytes 32 (toBytes v 4) = v := by
  apply BitVec.eq_of_getLsbD_eq
  intro i hi
  simp only [ofBytes, toBytes, List.range_succ, List.range_zero, List.nil_append, List.cons_append, List.map_cons, List.map_nil,
    List.reverse_cons, List.reverse_nil, List.foldl_cons, List.foldl_nil, BitVec.getLsbD_or, BitVec.getLsbD_shiftLeft,
    BitVec.getLsbD_setWidth, BitVec.getLsbD_extractLsb']
  grind

theorem parWords_of_no_flips (v : Word) : parWords [v] [] = some [v] := by
  have whole : (toBytes v 4).take 4 = toBytes v 4 := List.take_of_length_le (by simp [toBytes])
  simp [parWords, parBytes_of_no_flips, wordBytes, whole, ofBytes_toBytes_word]

/-! ### The activity of OWNER's holder and the checks of a write (12:R304, R317, R319) -/

/-- The holder of OWNER is active now. -/
def State.active (s : State) (path : Path) : State := { s with own := ⟨some path, s.clk.ts⟩ }

@[simp] theorem active_evt (s : State) (path : Path) : (s.active path).evt = s.evt := rfl
@[simp] theorem active_cad (s : State) (path : Path) : (s.active path).cad = s.cad := rfl

/-- What ends an executed write of v once the register at o has taken its effect: the WRITE trace record and the answer OK (20 Table 20-3). -/
def State.recorded (s : State) (path : Path) (o : Nat) (v : Word) : State :=
  (s.addTrace 0x07 (srcPath path) (tpay [(12, 2, o), (14, 4, v.toNat)])).respond (.write path .ok)

@[simp] theorem recorded_stat (s : State) (path : Path) (o : Nat) (v : Word) : (s.recorded path o v).evt.stat = s.evt.stat := rfl
@[simp] theorem recorded_en (s : State) (path : Path) (o : Nat) (v : Word) : (s.recorded path o v).evt.en = s.evt.en := rfl
@[simp] theorem recorded_cnt (s : State) (path : Path) (o : Nat) (v : Word) : (s.recorded path o v).evt.cnt = s.evt.cnt := rfl
@[simp] theorem recorded_cad (s : State) (path : Path) (o : Nat) (v : Word) : (s.recorded path o v).cad = s.cad := rfl

/-- `wrote` is the record of a write with no effect of its own. -/
theorem wrote_eq_recorded (s : State) (path : Path) (o v : Nat) : s.wrote path o v = (s.fresh.active path).recorded path o (word v) := rfl

section Open

variable {s : State} {path : Path}

theorem touch_eq_active (h : s.own.holder = some path) : s.touch path = s.active path := by
  simp [State.touch, State.active, h]

/-- A frame of the holder counts as activity on the Strait port before its checks, and on the mailbox path not yet (12:R319). -/
theorem heard_cases (h : s.own.holder = some path) : s.heard path = s.active path ∨ s.heard path = s := by
  cases path
  · exact .inl (touch_eq_active h)
  · exact .inr rfl

theorem heard_touch (h : s.own.holder = some path) : (s.heard path).touch path = s.active path := by
  rcases heard_cases h with e | e
  · rw [e]
    exact touch_eq_active (s := s.active path) rfl
  · rw [e]
    exact touch_eq_active h

theorem regOpen_heard {o : Nat} (h : s.RegOpen path o) : (s.heard path).RegOpen path o := by
  obtain ⟨hup, hown, hrest⟩ := h
  rcases heard_cases hown with e | e
  · rw [e]
    exact ⟨hup, rfl, hrest⟩
  · rw [e]
    exact ⟨hup, hown, hrest⟩

theorem phase_of_service (h : s.md.mode = .service) : s.phase = none := by simp [State.phase, h]

theorem writeNotReady_of_service (l : RegWrites) (h : s.md.mode = .service) : s.writeNotReady path l = false := by
  simp [State.writeNotReady, phase_of_service h]

theorem writeNotOwner_of_holder {o : Nat} (v : Word) (ho : o ≠ 0x28) (h : s.own.holder = some path) :
    s.writeNotOwner path [(o, v)] = false := by
  unfold State.writeNotOwner
  split
  · simp_all
  · simp [h]

theorem writeWrongMode_of_service (l : RegWrites) (hm : s.md.mode = .service) (hv : s.md.restrict.versionLimited = false) :
    s.writeWrongMode path l = false := by
  simp [State.writeWrongMode, hm, hv]

/-- With the steward running only CAD_CTL can find the device busy. -/
theorem writeBusy_of_running {o : Nat} (v : Word) (ho : o ≠ 0xC0) (h : s.stew.restarting = false) : s.writeBusy [(o, v)] = false := by
  simp [State.writeBusy, h, ho]

theorem lookReg_of_verdict {o right : Nat} (h : s.verdict 3 (o / 64 * 64) (pathHolder path) right = none) :
    s.lookReg path o right = (true, s) := by
  unfold State.lookReg State.look
  rw [h]

/-- A write of an open register other than OWNER and CAD_CTL passes every check and is executed. -/
theorem wardenWrite_of_open {o : Nat} (v : Word) (h : s.RegOpen path o) (howner : o ≠ 0x28) (hcad : o ≠ 0xC0) :
    s.wardenWrite path [(o, v)] = (.ok, (s.active path).putRegs path [(o, v)]) := by
  obtain ⟨-, hown, hmode, hlimited, hsteward, hgate⟩ := regOpen_heard h
  simp only [State.wardenWrite, writeNotReady_of_service _ hmode, writeNotOwner_of_holder v howner hown, lookReg_of_verdict hgate,
    writeWrongMode_of_service _ hmode hlimited, writeBusy_of_running v hcad hsteward, heard_touch h.2.1]
  rfl

/-- A row that writes an open register runs the register's effect, behind the holder's activity, and ends as every executed write does. -/
theorem writeRow_of_open {o : Nat} (v : Nat) (h : s.RegOpen path o) (howner : o ≠ 0x28) (hcad : o ≠ 0xC0) :
    s.fresh.writeRow path o v = ((s.fresh.active path).putReg path o (word v)).recorded path o (word v) := by
  have hopen : s.fresh.RegOpen path o := h
  simp only [State.writeRow, hopen.1, wardenWrite_of_open (word v) hopen howner hcad]
  rfl

theorem exec_registerWrite_of_open (offset : BitVec 10) (v : Word) (h : s.RegOpen path offset.toNat) (haligned : offset.toNat % 4 = 0)
    (howner : offset.toNat ≠ 0x28) (hcad : offset.toNat ≠ 0xC0) :
    exec (.registerWrite path offset v) s =
      .next (((s.fresh.active path).putReg path offset.toNat v).recorded path offset.toNat v) := by
  have hwell : WellFormed (.registerWrite path offset v) = true := by simp [WellFormed, haligned]
  rw [exec_registerWrite, execRegisterWrite, hwell, writeRow_of_open _ h howner hcad, word_toNat]
  rfl

end Open

/-! ### EVT_STAT and EVT_FORCE (13:R330, 01:R46, R47) -/

section Flags

variable (s : State)

/-- The bit of EVT_STAT that is flag b. -/
def flagBit (b : Fin 24) : BitVec 24 := 1 <<< b.val

theorem getLsbD_flagBit (b i : Fin 24) : (flagBit b).getLsbD i.val = decide (b = i) := by
  rw [flagBit, BitVec.natCast_eq_ofNat, BitVec.getLsbD_ofNat, Nat.one_shiftLeft, Nat.testBit_two_pow]
  simp [Fin.ext_iff]

theorem flagHit_setNow (b : Fin 24) : (s.flagHit b).evt.cyc.setNow = s.evt.cyc.setNow ||| flagBit b := rfl

/-- A hardware occurrence sets its flag and notes it as set in this cycle, so that no clear of the cycle takes it away (01:R46). -/
theorem flagHit_sets (k : Fin 24) :
    (s.flagHit k).evt.cyc.setNow.getLsbD k.val = true ∧ (s.flagHit k).evt.stat.getLsbD k.val = true := by
  have hbit : (flagBit k).getLsbD k.val = true := by rw [getLsbD_flagBit, decide_eq_true rfl]
  have hstat : (s.flagHit k).evt.stat = s.evt.stat ||| flagBit k := flagHit_stat s k
  rw [flagHit_setNow, hstat, BitVec.getLsbD_or, BitVec.getLsbD_or, hbit, Bool.or_true, Bool.or_true]
  exact ⟨rfl, rfl⟩

theorem clearFlags_frame (v : BitVec 24) :
    s.clearFlags v = { s with evt := (s.clearFlags v).evt, cad := (s.clearFlags v).cad } := by
  unfold State.clearFlags
  dsimp only
  split
  · split <;> rfl
  · rfl

/-- The written flags go but for those set in this very cycle (01:R46); CAD_FAULT's clear frees its capture (10:R268). -/
theorem clearFlags_evt (v : BitVec 24) :
    (s.clearFlags v).evt = { s.evt with
      stat := s.evt.stat &&& ~~~(v &&& ~~~s.evt.cyc.setNow)
      cyc := { s.evt.cyc with cadHeld := !v.getLsbD 1 && s.evt.cyc.cadHeld } } := by
  unfold State.clearFlags
  dsimp only
  cases h : v.getLsbD 1
  · rfl
  · simp only [if_true]
    split <;> rfl

theorem clearFlags_cad_of_kept {v : BitVec 24} (h : v.getLsbD 1 = false) : (s.clearFlags v).cad = s.cad := by
  unfold State.clearFlags
  rw [h]
  rfl

end Flags

/-- t is s with the flags of m set and noted as set in this cycle, and nothing counted; beside the events' part nothing has changed. -/
structure State.Forced (s t : State) (m : BitVec 24) : Prop where
  frame : t = { s with evt := t.evt }
  stat : t.evt.stat = s.evt.stat ||| m
  setNow : t.evt.cyc.setNow = s.evt.cyc.setNow ||| m
  en : t.evt.en = s.evt.en
  cnt : t.evt.cnt = s.evt.cnt

namespace State.Forced

theorem refl (s : State) : s.Forced s 0 := ⟨rfl, by simp, by simp, rfl, rfl⟩

theorem trans {s t u : State} {m n : BitVec 24} (h : s.Forced t m) (k : t.Forced u n) : s.Forced u (m ||| n) where
  frame := by rw [k.frame, h.frame]
  stat := by rw [k.stat, h.stat, BitVec.or_assoc]
  setNow := by rw [k.setNow, h.setNow, BitVec.or_assoc]
  en := k.en.trans h.en
  cnt := k.cnt.trans h.cnt

theorem of_force (s : State) (b : Fin 24) (source : BitVec 16) : s.Forced (s.force b source) (flagBit b) :=
  ⟨rfl, rfl, rfl, rfl, rfl⟩

end State.Forced

/-- The bits of v at the listed places. -/
def bitsAt (v : BitVec 24) : List (Fin 24) → BitVec 24
  | [] => 0
  | b :: l => (if v.getLsbD b.val then flagBit b else 0) ||| bitsAt v l

theorem getLsbD_bitsAt (v : BitVec 24) (l : List (Fin 24)) (i : Fin 24) :
    (bitsAt v l).getLsbD i.val = (v.getLsbD i.val && decide (i ∈ l)) := by
  induction l with
  | nil => simp [bitsAt]
  | cons b l ih =>
    rw [bitsAt, BitVec.getLsbD_or, ih]
    by_cases h : b = i
    · subst h
      cases hv : v.getLsbD b.val <;> simp [getLsbD_flagBit, -BitVec.getLsbD_eq_getElem]
    · have h' : i ≠ b := Ne.symm h
      split <;> simp [getLsbD_flagBit, h, h', -BitVec.getLsbD_eq_getElem]

theorem bitsAt_all (v : BitVec 24) : bitsAt v (List.finRange 24) = v := by
  apply BitVec.eq_of_getLsbD_eq
  intro i hi
  simpa using getLsbD_bitsAt v (List.finRange 24) ⟨i, hi⟩

/-- The forced sets of a list of bits, one after the other. -/
theorem foldl_force_forced (v : BitVec 24) (source : BitVec 16) (l : List (Fin 24)) (s : State) :
    s.Forced (l.foldl (fun s b => if v.getLsbD b.val then s.force b source else s) s) (bitsAt v l) := by
  induction l generalizing s with
  | nil => exact .refl s
  | cons b l ih =>
    have first : s.Forced (if v.getLsbD b.val then s.force b source else s) (if v.getLsbD b.val then flagBit b else 0) := by
      split
      · exact .of_force s b source
      · exact .refl s
    exact first.trans (ih _)

theorem forceFlags_forced (s : State) (path : Path) (v : BitVec 24) : s.Forced (s.forceFlags path v) v := by
  have h := foldl_force_forced v (srcPath path) (List.finRange 24) s
  rwa [bitsAt_all] at h

/-! ### TBL_SEL, TBL_INDEX and TBL_DATA0 (13:R328, R332) -/

section Table

variable {s : State} {path : Path}

theorem tableCodeOk_bits (v : Word) : tableCodeOk (bits v 0 8) = true ↔ 1 ≤ v.toNat % 256 ∧ v.toNat % 256 ≤ 13 := by
  simp [tableCodeOk, bits_eq_div_mod]

theorem writeTblSel_traced (v : Word) : s.Traced (s.writeTblSel path v) := by
  unfold State.writeTblSel
  dsimp only
  split <;> exact ⟨rfl, rfl, rfl, rfl⟩

/-- TBL_SEL takes a table code unless the other path has written it in this cycle. -/
theorem writeTblSel_frame (v : Word) (hfirst : path = .mailbox → s.evt.cyc.straitSel = false) :
    s.writeTblSel path v = { s with
      evt := (s.writeTblSel path v).evt
      tbl := { s.tbl with sel := if 1 ≤ v.toNat % 256 ∧ v.toNat % 256 ≤ 13 then v.extractLsb' 0 8 else s.tbl.sel } } := by
  have hnone : (decide (path = .mailbox) && s.evt.cyc.straitSel) = false := by
    simpa using hfirst
  unfold State.writeTblSel
  dsimp only
  rw [hnone, Bool.or_false]
  by_cases hcode : tableCodeOk (bits v 0 8) = true
  · rw [if_pos ((tableCodeOk_bits v).1 hcode), hcode]
    rfl
  · rw [if_neg (mt (tableCodeOk_bits v).2 hcode), Bool.eq_false_of_not_eq_true hcode]
    rfl

theorem writeTblIndex_of_first (v : Word) (hfirst : path = .mailbox → s.evt.cyc.straitIndex = false) :
    s.writeTblIndex path v = { s with
      tbl := { s.tbl with index := v.extractLsb' 0 16 }
      evt := { s.evt with cyc := { s.evt.cyc with straitIndex := s.evt.cyc.straitIndex || path = .strait } } } := by
  have hnone : (decide (path = .mailbox) && s.evt.cyc.straitIndex) = false := by
    simpa using hfirst
  unfold State.writeTblIndex
  dsimp only
  rw [hnone]
  rfl

theorem putReg_tblData0_of_free (v : Word) (hbusy : s.tbl.busy = false) :
    s.putReg path 0x90 v = { s with
      tbl := { s.tbl with data := setDataWord s.tbl.data 0 v }
      evt := { s.evt with cyc := { s.evt.cyc with capture := none } } } := by
  simp [State.putReg, hbusy]

theorem putReg_tblData0_of_busy (v : Word) (hbusy : s.tbl.busy = true) : s.putReg path 0x90 v = s := by
  simp [State.putReg, hbusy]

end Table

/-! ### The rows, register by register -/

section Rows

variable {s : State} {path : Path}

theorem exec_evtStatClear_of_open (b : BitVec 24) (h : s.RegOpen path 0x30) :
    exec (.evtStatClear path b) s = .next (((s.fresh.active path).clearFlags b).recorded path 0x30 (word b.toNat)) := by
  have heffect : (s.fresh.active path).putReg path 0x30 (word b.toNat) = (s.fresh.active path).clearFlags b :=
    congrArg (s.fresh.active path).clearFlags (word_toNat_low24 b)
  rw [exec_evtStatClear, execEvtStatClear, writeRow_of_open _ h (by decide) (by decide), heffect]

theorem evtStatClear_gives (b : BitVec 24) (h : s.RegOpen path 0x30) :
    Gives (.evtStatClear path b) s fun t => t = { s.wrote path 0x30 b.toNat with evt := t.evt, cad := t.cad } ∧
      t.evt.stat = s.evt.stat &&& ~~~(b &&& ~~~s.evt.cyc.setNow) ∧ t.evt.en = s.evt.en ∧ t.evt.cnt = s.evt.cnt ∧
      (b.getLsbD 1 = false → t.cad = s.cad) := by
  have hevt := clearFlags_evt (s.fresh.active path) b
  refine ⟨_, exec_evtStatClear_of_open b h, ?_, ?_, ?_, ?_, fun hkept => ?_⟩
  · rw [clearFlags_frame]
    rfl
  · rw [recorded_stat, hevt, active_evt, fresh_evt]
  · rw [recorded_en, hevt, active_evt, fresh_evt]
  · rw [recorded_cnt, hevt, active_evt, fresh_evt]
  · rw [recorded_cad, clearFlags_cad_of_kept _ hkept, active_cad, fresh_cad]

theorem exec_evtForce_of_open (b : BitVec 24) (h : s.RegOpen path 0x38) :
    exec (.evtForce path b) s = .next (((s.fresh.active path).forceFlags path b).recorded path 0x38 (word b.toNat)) := by
  have heffect : (s.fresh.active path).putReg path 0x38 (word b.toNat) = (s.fresh.active path).forceFlags path b :=
    congrArg ((s.fresh.active path).forceFlags path) (word_toNat_low24 b)
  rw [exec_evtForce, execEvtForce, writeRow_of_open _ h (by decide) (by decide), heffect]

theorem evtForce_gives (b : BitVec 24) (h : s.RegOpen path 0x38) :
    Gives (.evtForce path b) s fun t => t = { s.wrote path 0x38 b.toNat with evt := t.evt } ∧ t.evt.stat = s.evt.stat ||| b ∧
      t.evt.cyc.setNow = s.evt.cyc.setNow ||| b ∧ t.evt.en = s.evt.en ∧ t.evt.cnt = s.evt.cnt := by
  have forced := forceFlags_forced (s.fresh.active path) path b
  refine ⟨_, exec_evtForce_of_open b h, ?_, forced.stat, forced.setNow, forced.en, forced.cnt⟩
  rw [forced.frame]
  rfl

theorem exec_evtEnWrite_of_open (v : Word) (h : s.RegOpen path 0x34) :
    exec (.registerWrite path 0x34 v) s =
      .next { s.wrote path 0x34 v.toNat with evt := { (s.wrote path 0x34 v.toNat).evt with en := v.extractLsb' 0 24 } } := by
  rw [exec_registerWrite_of_open 0x34 v h (by decide) (by decide) (by decide), wrote_eq_recorded, word_toNat]
  rfl

theorem tblSelWrite_gives (v : Word) (h : s.RegOpen path 0x80) (hfirst : path = .mailbox → s.evt.cyc.straitSel = false) :
    Gives (.registerWrite path 0x80 v) s fun t => s.Traced t ∧ t = { s.wrote path 0x80 v.toNat with
      evt := t.evt
      tbl := { s.tbl with sel := if 1 ≤ v.toNat % 256 ∧ v.toNat % 256 ≤ 13 then v.extractLsb' 0 8 else s.tbl.sel } } := by
  refine ⟨_, exec_registerWrite_of_open 0x80 v h (by decide) (by decide) (by decide), ?_, ?_⟩
  · exact writeTblSel_traced (s := s.fresh.active path) (path := path) v
  · have hframe := writeTblSel_frame (s := s.fresh.active path) v hfirst
    rw [show (s.fresh.active path).putReg path (0x80 : BitVec 10).toNat v = (s.fresh.active path).writeTblSel path v from rfl, hframe]
    rfl

theorem tblIndexWrite_gives (v : Word) (h : s.RegOpen path 0x84) (hfirst : path = .mailbox → s.evt.cyc.straitIndex = false) :
    Gives (.registerWrite path 0x84 v) s fun t => s.Traced t ∧ t = { s.wrote path 0x84 v.toNat with
      evt := t.evt, tbl := { s.tbl with index := v.extractLsb' 0 16 } } := by
  have heffect : (s.fresh.active path).putReg path (0x84 : BitVec 10).toNat v = _ :=
    writeTblIndex_of_first (s := s.fresh.active path) v hfirst
  refine ⟨_, exec_registerWrite_of_open 0x84 v h (by decide) (by decide) (by decide), ?_⟩
  rw [heffect]
  exact ⟨⟨rfl, rfl, rfl, rfl⟩, rfl⟩

theorem tblData0Write_gives (v : Word) (h : s.RegOpen path 0x90) (hbusy : s.tbl.busy = false) :
    Gives (.registerWrite path 0x90 v) s fun t => s.Traced t ∧
      t = { s.wrote path 0x90 v.toNat with evt := t.evt, tbl := { s.tbl with data := t.tbl.data } } ∧
      t.tbl.data.extractLsb' 0 32 = v ∧ t.tbl.data.extractLsb' 32 224 = s.tbl.data.extractLsb' 32 224 := by
  have heffect : (s.fresh.active path).putReg path (0x90 : BitVec 10).toNat v = _ :=
    putReg_tblData0_of_free (s := s.fresh.active path) v hbusy
  refine ⟨_, exec_registerWrite_of_open 0x90 v h (by decide) (by decide) (by decide), ?_⟩
  rw [heffect]
  exact ⟨⟨rfl, rfl, rfl, rfl⟩, rfl, setDataWord_zero_low s.tbl.data v, setDataWord_zero_high s.tbl.data v⟩

theorem exec_tblData0Write_of_busy (v : Word) (h : s.RegOpen path 0x90) (hbusy : s.tbl.busy = true) :
    exec (.registerWrite path 0x90 v) s = .next (s.wrote path 0x90 v.toNat) := by
  have heffect : (s.fresh.active path).putReg path (0x90 : BitVec 10).toNat v = s.fresh.active path :=
    putReg_tblData0_of_busy (s := s.fresh.active path) v hbusy
  rw [exec_registerWrite_of_open 0x90 v h (by decide) (by decide) (by decide), heffect, wrote_eq_recorded, word_toNat]
  rfl

theorem exec_lhFreeze_of_open (f : Bool) (h : s.RegOpen path 0x1E0) :
    exec (.lhFreeze path f) s = .next { s.wrote path 0x1E0 (bbit f 0) with lh := { s.lh with freeze := f } } := by
  have hbit : (word (bbit f 0)).getLsbD 0 = f := by cases f <;> rfl
  have heffect : (s.fresh.active path).putReg path 0x1E0 (word (bbit f 0)) =
      { s.fresh.active path with lh := { s.lh with freeze := f } } := by
    conv_rhs => rw [← hbit]
    rfl
  rw [exec_lhFreeze, execLhFreeze, writeRow_of_open _ h (by decide) (by decide), heffect]
  rfl

/-! ### ENT_DATA (19:R469) -/

/-- The word that a ready ENT_DATA shows of a draw d: VALID, and the draw's low 24 bits. -/
def entWord (d : BitVec 64) : Word := word (2 ^ 31 + bits d 0 24)

theorem entWord_toNat (d : BitVec 64) : (entWord d).toNat = 2 ^ 31 + bits d 0 24 := by
  have hd := bits_lt d 0 24
  rw [entWord, word, BitVec.toNat_ofNat, Nat.mod_eq_of_lt (by omega)]

theorem entWord_fields (d : BitVec 64) :
    (entWord d).getLsbD 31 = true ∧ bits (entWord d) 24 7 = 0 ∧ bits (entWord d) 0 24 = bits d 0 24 := by
  have hd := bits_lt d 0 24
  refine ⟨?_, ?_, ?_⟩
  · rw [BitVec.getLsbD, entWord_toNat, Nat.testBit_eq_decide_div_mod_eq, decide_eq_true_eq]
    omega
  · rw [bits_eq_div_mod, entWord_toNat]
    omega
  · rw [bits_eq_div_mod (entWord d), entWord_toNat]
    omega

theorem readRun_entData (h : s.ent.ready = true) : s.readRun 0x1C4 1 = ([entWord s.draw.1], s.draw.2) := by
  simp [State.readRun, State.readReg, h, entWord]

theorem readPhase_of_service (h : s.md.mode = .service) : s.readPhase = none := by
  simp [State.readPhase, phase_of_service h]

/-- The holder's read of a ready ENT_DATA that gate 3 permits takes one draw. -/
theorem wardenRead_entData (hown : s.own.holder = some path) (hmode : s.md.mode = .service)
    (hgate : s.verdict 3 0x1C0 (pathHolder path) 0 = none) (hready : s.ent.ready = true) :
    s.wardenRead path 0x1C4 1 [] = (.ok, [entWord s.draw.1], (s.active path).draw.2) := by
  have hheard : (s.heard path).md.mode = .service ∧ (s.heard path).verdict 3 0x1C0 (pathHolder path) 0 = none := by
    rcases heard_cases hown with e | e <;> (rw [e]; exact ⟨hmode, hgate⟩)
  have hready' : (s.active path).ent.ready = true := hready
  simp only [State.wardenRead, readPhase_of_service hheard.1, lookReg_of_verdict (o := 0x1C4) hheard.2, heard_touch hown,
    readRun_entData hready', parWords_of_no_flips]
  rfl

theorem entDataRead_gives (h : s.RegOpen path 0x1C4) (hgate : s.verdict 3 0x1C0 (pathHolder path) 0 = none) (hready : s.ent.ready = true) :
    Gives (.entDataRead path) s fun t => t = { s with own := ⟨some path, s.clk.ts⟩, ent := s.draw.2.ent, resp := t.resp } ∧
      ∃ w : Word, t.resp = [.value path w] ∧ w.getLsbD 31 = true ∧ bits w 24 7 = 0 ∧ bits w 0 24 = bits s.draw.1 0 24 := by
  obtain ⟨hup, hown, hmode, -⟩ := h
  have hread := wardenRead_entData (s := s.fresh) hown hmode hgate hready
  refine ⟨((s.fresh.active path).draw.2).respond (.value path (entWord s.draw.1)), ?_, rfl, entWord s.draw.1, rfl, entWord_fields _⟩
  rw [exec_entDataRead, execEntDataRead, fresh_pathUp_eq, hup, hread]
  rfl

end Rows

/-- Settles O43: every write of an open register passes the checks of 12:R304, so each clause is that register's effect behind the holder's
activity, the WRITE trace record and the answer. -/
theorem flagsAndPlainRegisters : Obligations.FlagsAndPlainRegisters := by
  unfold Obligations.FlagsAndPlainRegisters
  intro s path b v f
  refine ⟨flagHit_sets s, fun h => ⟨evtStatClear_gives b h, evtForce_gives b h, exec_evtEnWrite_of_open v h⟩, ?_,
    exec_lhFreeze_of_open f, entDataRead_gives⟩
  intro h hfirst
  exact ⟨tblSelWrite_gives v h fun hp => (hfirst hp).1, tblIndexWrite_gives v h fun hp => (hfirst hp).2,
    tblData0Write_gives v h, exec_tblData0Write_of_busy v h⟩

end Sys2Proof.Machine

/-! The TAP: the balls by what the loaded instruction does with them, the capture cell by cell, each instruction with VAON, and the statement
on the instructions of the TAP (21:R507, R510, R514-R516). -/

namespace Sys2Proof.Machine

open Sys2Proof

/-! ### The output balls (21:R507, R510, R516) -/

/-- The output balls under the boundary cells v. -/
def cellBalls (v : BitVec 18) : Balls := ⟨cellBall v 3 true, cellBall v 6 true, cellBall v 12 false, cellBall v 14 false⟩

/-- The output balls where no cell drives them: released in boundary-scan mode, by function out of it. -/
def State.undrivenBalls (s : State) : Balls :=
  if s.strap.scanmode then ⟨.floats, .floats, .floats, .floats⟩
  else ⟨if s.pin.musterDriven then .low else .floats, if s.alertLow then .low else .floats, .floats, .floats⟩

/-- s after an instruction that leaves the TAP in j and shifts v out of the register that ir selects. -/
def State.tapDone (s : State) (j : Jtag) (ir : Nat) (v : Word) : State :=
  { s with jtag := j, resp := [.tdo (s.tapSelect ir) v, .balls { s with jtag := j }.outputBalls] }

section Tap

variable {s : State}

theorem outputBalls_of_undriven (hvaon : s.pwr.vaon = true) (hdrive : s.jtag.drive = false) : s.outputBalls = s.undrivenBalls := by
  simp [State.outputBalls, State.undrivenBalls, hvaon, hdrive]

theorem outputBalls_of_driven (hvaon : s.pwr.vaon = true) (hscan : s.strap.scanmode = true) (hdrive : s.jtag.drive = true) :
    s.outputBalls = cellBalls s.jtag.bsr := by
  simp [State.outputBalls, cellBalls, hvaon, hscan, hdrive]

/-! ### What an instruction shifts out -/

theorem outputBalls_respond (r : Resp) : (s.respond r).outputBalls = s.outputBalls := rfl

theorem shiftOut_fresh (ir : Nat) (v : Word) :
    s.fresh.shiftOut ir v = { s with resp := [.tdo (s.tapSelect ir) v, .balls s.outputBalls] } := by
  simp only [State.shiftOut, outputBalls_respond, fresh_tapSelect_eq, fresh_outputBalls_eq]
  rfl

/-- What SAMPLE/PRELOAD and EXTEST share: the TAP's state replaced and the selected register shifted out. -/
theorem shiftOut_fresh_jtag (j : Jtag) (ir : Nat) (v : Word) : ({ s.fresh with jtag := j } : State).shiftOut ir v = s.tapDone j ir v :=
  shiftOut_fresh (s := { s with jtag := j }) ir v

/-- What IDCODE, CLAMP, HIGHZ and BYPASS share: the instruction loaded and its register shifted out. -/
theorem shiftOut_loadIr (ir : Nat) (v : Word) :
    (s.fresh.loadIr ir).shiftOut ir v = s.tapDone
      ⟨BitVec.ofNat 4 ir, s.jtag.bsr, s.strap.scanmode && (ir == 0 || ir == 3), s.strap.scanmode && ir == 4⟩ ir v :=
  shiftOut_fresh_jtag _ ir v

/-- An instruction that drives nothing leaves the balls undriven. -/
theorem tapDone_of_undriven (hvaon : s.pwr.vaon = true) (j : Jtag) (ir : Nat) (v : Word) (hdrive : j.drive = false) :
    s.tapDone j ir v = { s with jtag := j, resp := [.tdo (s.tapSelect ir) v, .balls s.undrivenBalls] } := by
  have hballs : { s with jtag := j }.outputBalls = s.undrivenBalls := outputBalls_of_undriven (s := { s with jtag := j }) hvaon hdrive
  rw [State.tapDone, hballs]

/-- An instruction that drives in boundary-scan mode puts its cells on the balls. -/
theorem tapDone_of_driven (hvaon : s.pwr.vaon = true) (hscan : s.strap.scanmode = true) (j : Jtag) (ir : Nat) (v : Word)
    (hdrive : j.drive = true) :
    s.tapDone j ir v = { s with jtag := j, resp := [.tdo (s.tapSelect ir) v, .balls (cellBalls j.bsr)] } := by
  have hballs : { s with jtag := j }.outputBalls = cellBalls j.bsr := outputBalls_of_driven (s := { s with jtag := j }) hvaon hscan hdrive
  rw [State.tapDone, hballs]

/-! ### The capture (21:R516) -/

/-- The cells v with cell n at b. -/
def putCell (v : BitVec 18) (n : Nat) (b : Bool) : BitVec 18 := if b then v ||| BitVec.twoPow 18 n else v &&& ~~~BitVec.twoPow 18 n

theorem getLsbD_putCell_of_ne (v : BitVec 18) (b : Bool) {n i : Nat} (hi : i < 18) (hne : i ≠ n) :
    (putCell v n b).getLsbD i = v.getLsbD i := by
  have hbit : (BitVec.twoPow 18 n).getLsbD i = false := by
    rw [BitVec.getLsbD_twoPow, decide_eq_false (Ne.symm hne), Bool.and_false]
  cases b
  · simp [putCell, BitVec.getLsbD_and, BitVec.getLsbD_not, hbit, hi, -BitVec.getLsbD_eq_getElem]
  · simp [putCell, BitVec.getLsbD_or, hbit, -BitVec.getLsbD_eq_getElem]

theorem capture_eq_putCell (balls : BitVec 18) :
    s.capture balls = putCell (putCell balls 4 ((!s.strap.scanmode && s.pwr.vaon) && s.pin.musterDriven)) 7
      ((!s.strap.scanmode && s.pwr.vaon) && s.alertLow) := rfl

/-- Every cell but the two control cells that the device drives itself is captured from its ball. -/
theorem getLsbD_capture (balls : BitVec 18) (n : Nat) (hn : n < 18) (h4 : ¬ n = 4) (h7 : ¬ n = 7) :
    (s.capture balls).getLsbD n = balls.getLsbD n := by
  rw [capture_eq_putCell, getLsbD_putCell_of_ne _ _ hn h7, getLsbD_putCell_of_ne _ _ hn h4]

/-! ### The instructions with VAON (21 Table 21-6) -/

theorem exec_tapReset_of_vaon (hvaon : s.pwr.vaon = true) :
    exec .tapReset s = .next { s with jtag := ⟨2, s.jtag.bsr, false, false⟩, resp := [] } := by
  rw [exec_tapReset, execTapReset, fresh_pwr, if_pos hvaon]
  simp [State.loadIr, State.fresh]

theorem exec_idcode_of_vaon (hvaon : s.pwr.vaon = true) :
    exec .idcode s = .next { s with jtag := ⟨2, s.jtag.bsr, false, false⟩, resp := [.tdo 1 s.idcode, .balls s.undrivenBalls] } := by
  rw [exec_idcode, execIdcode, fresh_pwr, if_pos hvaon, shiftOut_loadIr, tapDone_of_undriven hvaon _ _ _ (Bool.and_false _)]
  simp [State.tapSelect]

/-- SAMPLE/PRELOAD captures, and drives nothing. -/
theorem exec_samplePreload_of_vaon (balls : BitVec 18) (hvaon : s.pwr.vaon = true) :
    exec (.samplePreload balls) s = .next { s with
      jtag := ⟨1, s.capture balls, false, false⟩
      resp := [.tdo 2 ((s.capture balls).setWidth 32), .balls s.undrivenBalls] } := by
  have hdone : execSamplePreload balls s = .next (s.tapDone ⟨1, s.capture balls, false, false⟩ 1 ((s.capture balls).setWidth 32)) := by
    rw [← shiftOut_fresh_jtag]
    simp [execSamplePreload, State.loadIr, hvaon]
  rw [exec_samplePreload, hdone, tapDone_of_undriven hvaon _ _ _ rfl]
  rfl

/-- EXTEST in boundary-scan mode shifts the cells out and drives the balls from those shifted in. -/
theorem exec_extest_of_scan (drive : BitVec 18) (hvaon : s.pwr.vaon = true) (hscan : s.strap.scanmode = true) :
    exec (.extest drive) s = .next { s with
      jtag := ⟨0, drive, true, false⟩
      resp := [.tdo 2 (s.jtag.bsr.setWidth 32), .balls (cellBalls drive)] } := by
  have hdone : execExtest drive s = .next (s.tapDone ⟨0, drive, true, false⟩ 0 (s.jtag.bsr.setWidth 32)) := by
    rw [← shiftOut_fresh_jtag]
    simp [execExtest, State.loadIr, hvaon, hscan]
  rw [exec_extest, hdone, tapDone_of_driven hvaon hscan _ _ _ rfl]
  simp [State.tapSelect, hscan]

/-- EXTEST out of boundary-scan mode selects the bypass register. -/
theorem exec_extest_of_service (drive : BitVec 18) (hvaon : s.pwr.vaon = true) (hscan : s.strap.scanmode = false) :
    exec (.extest drive) s = .next { s with
      jtag := ⟨0, s.jtag.bsr, false, false⟩
      resp := [.tdo 0 0, .balls s.undrivenBalls] } := by
  have hdone : execExtest drive s = .next ((s.fresh.loadIr 0).shiftOut 0 0) := by
    simp [execExtest, State.loadIr, hvaon, hscan]
  rw [exec_extest, hdone, shiftOut_loadIr, hscan, tapDone_of_undriven hvaon _ _ _ rfl]
  simp [State.tapSelect, hscan]

/-- CLAMP holds the balls from their cells in boundary-scan mode only. -/
theorem exec_clamp_of_vaon (hvaon : s.pwr.vaon = true) :
    exec .clamp s = .next { s with
      jtag := ⟨3, s.jtag.bsr, s.strap.scanmode, false⟩
      resp := [.tdo 0 0, .balls (if s.strap.scanmode then cellBalls s.jtag.bsr else s.undrivenBalls)] } := by
  rw [exec_clamp, execClamp, fresh_pwr, if_pos hvaon, shiftOut_loadIr]
  cases hscan : s.strap.scanmode
  case false =>
    rw [tapDone_of_undriven hvaon _ _ _ rfl]
    rfl
  case true =>
    rw [tapDone_of_driven hvaon hscan _ _ _ rfl]
    rfl

/-- HIGHZ floats the balls in boundary-scan mode only. -/
theorem exec_highz_of_vaon (hvaon : s.pwr.vaon = true) :
    exec .highz s = .next { s with
      jtag := ⟨4, s.jtag.bsr, false, s.strap.scanmode⟩
      resp := [.tdo 0 0, .balls s.undrivenBalls] } := by
  rw [exec_highz, execHighz, fresh_pwr, if_pos hvaon, shiftOut_loadIr, tapDone_of_undriven hvaon _ _ _ (Bool.and_false _)]
  simp [State.tapSelect]

/-- No code from 5 on selects a register other than the bypass register (21:R514). -/
theorem tapSelect_of_ge {ir : Nat} (hir : 5 ≤ ir) : s.tapSelect ir = 0 := by
  unfold State.tapSelect
  split <;> omega

theorem exec_bypass_of_vaon (code : BitVec 4) (hcode : 5 ≤ code.toNat) (hvaon : s.pwr.vaon = true) :
    exec (.bypass code) s = .next { s with
      jtag := ⟨code, s.jtag.bsr, false, false⟩
      resp := [.tdo 0 0, .balls s.undrivenBalls] } := by
  have hwell : WellFormed (.bypass code) = true := decide_eq_true hcode
  have hdrives : (code.toNat == 0 || code.toNat == 3) = false := by
    simp only [Bool.or_eq_false_iff, beq_eq_false_iff_ne]
    omega
  have hfloats : (code.toNat == 4) = false := by
    rw [beq_eq_false_iff_ne]
    omega
  have hdone : execBypass code s = .next ((s.fresh.loadIr code.toNat).shiftOut code.toNat 0) := by
    simp [execBypass, hwell, hvaon]
  rw [exec_bypass, hdone, shiftOut_loadIr, hdrives, hfloats, tapDone_of_undriven hvaon _ _ _ (Bool.and_false _), tapSelect_of_ge hcode]
  simp

end Tap

/-- Settles O60: with VAON each instruction loads itself and shifts its register out, and what the balls then show depends only on whether the
cells drive them. -/
theorem tapInstructions : Obligations.TapInstructions := by
  unfold Obligations.TapInstructions
  intro s balls code hvaon
  exact ⟨exec_tapReset_of_vaon hvaon, exec_idcode_of_vaon hvaon, exec_samplePreload_of_vaon balls hvaon, getLsbD_capture balls,
    exec_extest_of_scan balls hvaon, exec_extest_of_service balls hvaon, exec_clamp_of_vaon hvaon, exec_highz_of_vaon hvaon,
    fun hcode => exec_bypass_of_vaon code hcode hvaon⟩

end Sys2Proof.Machine
